-- ==== Sys2Proof/Word.lean ====
section
/-! DEFINITION. The bit widths the FJ3220 works in (spec/00, "Numbers", "Exchange memory addressing") and their plainest arithmetic. -/

namespace Sys2Proof

/-- One byte of exchange memory, of a packet or of a record. -/
abbrev Byte := BitVec 8
/-- A 16-bit field; the free-running counts of the journals are of this width. -/
abbrev Half := BitVec 16
/-- A 32-bit word, the unit of host accesses. -/
abbrev Word := BitVec 32
/-- Part time: a 32-bit count of milliseconds from power-on that wraps (spec/00, "Units of measure"). -/
abbrev PartTime := BitVec 32

/-- A word of exchange memory from a number. -/
def word (n : Nat) : Word := BitVec.ofNat 32 n

/-- A signed value in a 32-bit word, in two's complement (R78). -/
def wordOfInt (i : Int) : Word := BitVec.ofInt 32 i

end Sys2Proof
end

