-- ==== Sys2Proof/Syntax.lean ====
section
/-! DEFINITION. The commands of the FJ3220: one constructor for each row of spec/opcode_table.json, with the operands
the row's rule needs. A command is one event of spec/00, "Events"; a request row stands for the host's accesses that make
the request (log 5). -/

namespace Sys2Proof

/-- The two windows of spec/00, "The host connection". -/
inductive Window where
  | exchange
  | control
  deriving DecidableEq, Repr

/-- The two hall lines (spec/03, "The hall lines"). -/
inductive HallLine where
  | lidClosed
  | foldBack
  deriving DecidableEq, Repr

/-- Why the receiver discards a packet (R105, R106). -/
inductive DiscardReason where
  /-- A byte whose parity is not odd or whose stop bit is missing (R105). -/
  | byteError
  /-- A rest of two byte times before the packet is complete (R106). -/
  | rest
  /-- A completed packet with a bad check sum, kind, length or KEY field (R106). -/
  | badPacket
  /-- A header whose length is above 12 (R106). -/
  | overlongHeader
  deriving DecidableEq, Repr

/-- A claimant that can stand in the awaiting list (R168). -/
inductive Awaited where
  | pen
  | backlight
  deriving DecidableEq, Repr

/-- The eight bytes of a REPORT (spec/08, "The garage coil exchange"). -/
structure PenReport where
  identity : Word
  soc : Byte
  temperature : Byte
  flags : Byte
  check : Byte
  deriving DecidableEq, Repr

/-- The commands. The comment of each names its row of spec/opcode_table.json and the row's rule. -/
inductive Instr where
  /-- POWER_ON_RESET (R37). -/
  | powerOnReset
  /-- SELF_CHECK_END (R38): the ROM entry the check read, the status byte of the signature read, the sampled hall levels. -/
  | selfCheckEnd (romEntry : Half) (status : Byte) (lidClosed foldBack : Bool)
  /-- HRST_ASSERT (R1). -/
  | hrstAssert
  /-- HOST_RESET (R39): HRST is released. -/
  | hostReset
  /-- HOST_WRITE (R2): window, byte offset, byte lanes carried, data. -/
  | hostWrite (window : Window) (offset : Nat) (lanes : BitVec 4) (data : Word)
  /-- READ_COUNT_WRITE (R17): journal number and written data. -/
  | readCountWrite (journal : Fin 3) (data : Word)
  /-- POST (R7): a write to post word 2n; the data is ignored. -/
  | post (slot : Fin 32)
  /-- RELEASE (R8): a write to post word 2n+1; the data is ignored. -/
  | release (slot : Fin 32)
  /-- ATTN_LATCH_WRITE (R22). -/
  | attnLatchWrite (data : Word)
  /-- ATTN_MASK_WRITE (R23). -/
  | attnMaskWrite (data : Word)
  /-- APPLY_SETTINGS (R28). -/
  | applySettings (slot : Fin 32) (tag : Half)
  /-- LOCK_SETTINGS (R31). -/
  | lockSettings (slot : Fin 32) (tag : Half)
  /-- LOAD_POSTURE_TABLE (R87): parameter word 0 is the band count. -/
  | loadPostureTable (slot : Fin 32) (tag : Half) (count : Word)
  /-- RESET_JOURNAL (R32): parameter word 0 is the journal number. -/
  | resetJournal (slot : Fin 32) (tag : Half) (journal : Word)
  /-- ACK_FAULT (R35): parameter word 0 is the fault kind. -/
  | ackFault (slot : Fin 32) (tag : Half) (kind : Word)
  /-- INPUT_QUIET_FLUSH_EXPIRY (R19). -/
  | inputQuietFlushExpiry
  /-- SAMPLE_PERIOD_EXPIRY (R50). -/
  | samplePeriodExpiry
  /-- LID_READ_COMPLETION (R55): the status byte and the X, Y, Z words of the transaction. -/
  | lidReadCompletion (status : Byte) (x y z : Half)
  /-- HALL_LINE_CHANGE (R48): the line and its new level. -/
  | hallLineChange (line : HallLine) (active : Bool)
  /-- HALL_DEBOUNCE_EXPIRY (R48). -/
  | hallDebounceExpiry (line : HallLine)
  /-- CALIBRATE_HINGE (R77). -/
  | calibrateHinge (slot : Fin 32) (tag : Half)
  /-- POSTURE_DWELL_EXPIRY (R91). -/
  | postureDwellExpiry
  /-- UNAVAILABLE_TIMER_EXPIRY (R94). -/
  | unavailableTimerExpiry
  /-- ORIENTATION_DWELL_EXPIRY (R100). -/
  | orientationDwellExpiry
  /-- SET_ROTATION_LOCK (R103): parameter words 0 and 1. -/
  | setRotationLock (slot : Fin 32) (tag : Half) (lock orientation : Word)
  /-- PACKET_ARRIVAL (R116): the bytes of the packet, header and check included. -/
  | packetArrival (bytes : List Byte)
  /-- PACKET_DISCARD (R106). -/
  | packetDiscard (reason : DiscardReason)
  /-- TRANSMIT_COMPLETE (R107). -/
  | transmitComplete
  /-- POWER_UP_TIMER_EXPIRY (R110). -/
  | powerUpTimerExpiry
  /-- GREETING_TIMER_EXPIRY (R111). -/
  | greetingTimerExpiry
  /-- SUPERVISION_TIMER_EXPIRY (R112). -/
  | supervisionTimerExpiry
  /-- RECOVERY_TIMER_EXPIRY (R113). -/
  | recoveryTimerExpiry
  /-- DETECT_LINE_CHANGE (R126): the new level. -/
  | detectLineChange (present : Bool)
  /-- DETECT_DEBOUNCE_EXPIRY (R126). -/
  | detectDebounceExpiry
  /-- DETACH (R131). -/
  | detach (slot : Fin 32) (tag : Half)
  /-- QUIESCE_TIMER_EXPIRY (R133). -/
  | quiesceTimerExpiry
  /-- COIL_CURRENT_SEEN (R136). -/
  | coilCurrentSeen
  /-- SENSE_TIMER_EXPIRY (R136). -/
  | senseTimerExpiry
  /-- PULSE_TIMER_EXPIRY (R140). -/
  | pulseTimerExpiry
  /-- WINDOW_TIMER_EXPIRY (R140). -/
  | windowTimerExpiry
  /-- PULSE_AGE_OUT (R139). -/
  | pulseAgeOut
  /-- SET_BACKLIGHT (R145): parameter word 0 is the level. -/
  | setBacklight (slot : Fin 32) (tag : Half) (level : Word)
  /-- PEN_IN_LINE_CHANGE (R146): the new level. -/
  | penInLineChange (present : Bool)
  /-- PEN_IN_DEBOUNCE_EXPIRY (R146). -/
  | penInDebounceExpiry
  /-- REPORT (R150). -/
  | report (r : PenReport)
  /-- RESPONSE_TIMER_EXPIRY (R149). -/
  | responseTimerExpiry
  /-- POLL_TIMER_EXPIRY (R154). -/
  | pollTimerExpiry
  /-- PEN_DECREASE_CONFIRM (R155). -/
  | penDecreaseConfirm
  /-- PEN_ACCEPT (R159): parameter word 0 is the identity. -/
  | penAccept (slot : Fin 32) (tag : Half) (identity : Word)
  /-- PEN_FORGET (R160): parameter words 0 and 1 are the selector and the identity. -/
  | penForget (slot : Fin 32) (tag : Half) (selector identity : Word)
  /-- PEN_CHARGE_MODE (R161): parameter word 0 is the mode. -/
  | penChargeMode (slot : Fin 32) (tag : Half) (mode : Word)
  /-- SET_POWER_SOURCE (R164): parameter word 0 is the source. -/
  | setPowerSource (slot : Fin 32) (tag : Half) (source : Word)
  /-- AWAITING_DEADLINE_EXPIRY (R169): the claimant whose deadline it is. -/
  | awaitingDeadlineExpiry (claimant : Awaited)
  /-- VBASE_VOLTAGE_CHANGE (R171): whether the voltage is now below 4.5 V. -/
  | vbaseVoltageChange (below : Bool)
  /-- UNDER_VOLTAGE_TIMER_EXPIRY (R171). -/
  | underVoltageTimerExpiry
  /-- SLEEP_ENTER (R179): parameter words 1 and 2 of HOST_STATE with action 1. -/
  | sleepEnter (slot : Fin 32) (tag : Half) (mask standby : Word)
  /-- HOST_ON (R181): HOST_STATE with action 0. -/
  | hostOn (slot : Fin 32) (tag : Half)
  /-- HOLD_AWAKE (R177): parameter word 0 is the duration. -/
  | holdAwake (slot : Fin 32) (tag : Half) (duration : Word)
  /-- HOLD_AWAKE_DEADLINE_EXPIRY (R177). -/
  | holdAwakeDeadlineExpiry
  /-- IDLE_TIMER_EXPIRY (R176). -/
  | idleTimerExpiry
  /-- IDLE_REMAINING_REWRITE (R176). -/
  | idleRemainingRewrite
  /-- GRACE_TIMER_EXPIRY (R178). -/
  | graceTimerExpiry
  /-- DOZE_TO_STANDBY_EXPIRY (R180). -/
  | dozeToStandbyExpiry
  /-- ANSWER_TIMER_EXPIRY (R184). -/
  | answerTimerExpiry
  /-- GAP_TIMER_EXPIRY (R184). -/
  | gapTimerExpiry
  /-- POWER_BUTTON_LINE_CHANGE (R185): the new level. -/
  | powerButtonLineChange (pressed : Bool)
  /-- POWER_BUTTON_DEBOUNCE_EXPIRY (R185). -/
  | powerButtonDebounceExpiry
  /-- RXB_REST_TWO_BYTE_TIMES (R105). -/
  | rxbRestTwoByteTimes
  deriving DecidableEq, Repr

end Sys2Proof
end

