-- ==== Sys2Proof/Decode.lean ====
section
/-! DEFINITION. The decoder the host asks for. No row of spec/opcode_table.json gives bits: the commands of this block
are events, not words. -/

namespace Sys2Proof

/-- No row of the table gives bits, so no word spells a command (log 28). -/
def decodeTableWord (_nbits _w : Nat) : Option Instr := none

end Sys2Proof
end

