-- ==== Sys2Proof/Machine/Types.lean ====
section
/-! DEFINITION. The data of the FJ3220's twelve units, as plain types: the codes of spec/01, "Codes used in several
records", and one structure for each unit's state table. -/

namespace Sys2Proof.Machine

/-! ## Codes -/

inductive Phase where
  | booting
  | running
  deriving DecidableEq, Repr

/-- The self-check (R38): begun at power-on, ended, or failed for good by its ROM check. -/
inductive SelfCheck where
  | underway
  | failed
  | done
  deriving DecidableEq, Repr

inductive ResetKind where
  | powerOn
  | hostReset
  deriving DecidableEq, Repr

/-- The ten attention causes, bits 0..9 in this order (spec/01, "Attention"). -/
inductive Cause where
  | fault
  | sleepAdvice
  | posture
  | attach
  | pen
  | requestDone
  | input
  | sample
  | notice
  | accessError
  deriving DecidableEq, Repr

/-- The kinds of the error capture (R4). -/
inductive CaptureKind where
  | none
  | outside
  | partRegion
  | settingsLocked
  | slotBusy
  | misaligned
  | readOnly
  | postNotFree
  | countInvalid
  deriving DecidableEq, Repr

/-- The state of a request slot (R6); a TAKEN slot may be marked abandoned (R9). -/
inductive SlotState where
  | free
  | posted
  | taken (abandoned : Bool)
  | done
  deriving DecidableEq, Repr

/-- The seven serving units (spec/00, "Block overview"). -/
inductive ServingUnit where
  | settings
  | angle
  | posture
  | base
  | pen
  | power
  | sleep
  deriving DecidableEq, Repr

/-- The fifteen requests (spec/01, "Entries into the post queue"). -/
inductive Request where
  | applySettings
  | lockSettings
  | loadPostureTable
  | resetJournal
  | ackFault
  | calibrateHinge
  | setRotationLock
  | detach
  | setBacklight
  | penAccept
  | penForget
  | penChargeMode
  | setPowerSource
  | hostState
  | holdAwake
  deriving DecidableEq, Repr

/-- The result codes (R13). -/
inductive ResultCode where
  | ok
  | badRequest
  | badParameter
  | notNow
  | cancelled
  | locked
  | noPower
  | failed
  deriving DecidableEq, Repr

inductive FaultKind where
  | lidSensor
  | hallConflict
  | baseLink
  | baseSupply
  | latchCoil
  | penUnresponsive
  | penBattery
  | wakeUnanswered
  deriving DecidableEq, Repr

/-- The notice kinds (spec/01, "Notice record"). -/
inductive NoticeKind where
  | gap
  | posture
  | orientation
  | link
  | attachment
  | detachRefused
  | pen
  | fault
  | sleepAdvice
  | powerButton
  | allotment
  | powerState
  deriving DecidableEq, Repr

inductive InputKind where
  | keyPress
  | keyRelease
  | pointer
  | synthRelease
  | synthPointer
  deriving DecidableEq, Repr

inductive Posture where
  | closed
  | laptop
  | stand
  | tent
  | tablet
  | detached
  | unknown
  deriving DecidableEq, Repr

inductive Quality where
  | good
  | held
  | hall
  | unavailable
  deriving DecidableEq, Repr

inductive Side where
  | low
  | high
  deriving DecidableEq, Repr

inductive BasePose where
  | unknown
  | flat
  | upright
  deriving DecidableEq, Repr

inductive PoseCondition where
  | any
  | flat
  | upright
  deriving DecidableEq, Repr

inductive Orientation where
  | landscape
  | portrait
  | landscapeFlipped
  | portraitFlipped
  deriving DecidableEq, Repr

inductive PowerState where
  | active
  | doze
  | standby
  deriving DecidableEq, Repr

inductive HostState where
  | on
  | sleeping
  deriving DecidableEq, Repr

inductive Advice where
  | none
  | lidClosed
  | idle
  deriving DecidableEq, Repr

inductive PowerSource where
  | mains
  | battery
  | batteryLow
  deriving DecidableEq, Repr

inductive LinkState where
  | absent
  | powering
  | greeting
  | ready
  | quiesced
  | lost
  | faulted
  | unpowered
  deriving DecidableEq, Repr

inductive AttachState where
  | detached
  | seating
  | attached
  | degraded
  | releasing
  | awaitingRemoval
  deriving DecidableEq, Repr

inductive PenState where
  | absent
  | identifying
  | charging
  | deferred
  | topped
  | pausedTemp
  | held
  | fault
  deriving DecidableEq, Repr

inductive WakeSource where
  | lidOpen
  | key
  | pointer
  | penRemoved
  | penInserted
  | attachChange
  | powerButton
  | postureChange
  deriving DecidableEq, Repr

inductive GreetingStage where
  | awaitHello
  | awaitAck
  deriving DecidableEq, Repr

inductive LinkTimerKind where
  | powerUp
  | greeting
  | supervision
  | recovery
  deriving DecidableEq, Repr

inductive ReleasePhase where
  | quiescing
  | claiming
  | pulse
  | window
  deriving DecidableEq, Repr

inductive ReleaseOrigin where
  | request
  | button
  deriving DecidableEq, Repr

inductive ChargeMode where
  | normal
  | hold
  deriving DecidableEq, Repr

/-! ## Parts of the units' state -/

/-- A timer: stopped, or running with its expiry in part time. -/
abbrev Timer := Option PartTime

/-- An input line that is debounced: the line's level, the debounced level and the debounce timer (R48, R126, R146, R185). -/
structure DebouncedLine where
  line : Bool
  level : Bool
  timer : Timer
  deriving DecidableEq, Repr

/-- The error capture and its MORE flag (R4). -/
structure Capture where
  kind : CaptureKind
  offset : Nat
  window : Window
  more : Bool
  deriving DecidableEq, Repr

/-- A journal's counts and flags (R15). -/
structure Journal where
  writeCount : Half
  readCount : Half
  drops : Nat
  full : Bool
  invalidCount : Bool
  deriving DecidableEq, Repr

/-- One value for each setting of spec/02's table, in the order of their offsets. -/
structure Settings where
  periodActive : Nat
  periodDoze : Nat
  minProj : Nat
  offset : Nat
  filterShift : Nat
  postureDwell : Nat
  flatMin : Nat
  rotationHysteresis : Nat
  orientationDwell : Nat
  detachedIdle : Nat
  pulseLimit : Nat
  pulseTime : Nat
  removalWindow : Nat
  penTarget : Nat
  penTopUp : Nat
  penMaximum : Nat
  lidCloseGrace : Nat
  dozeToStandby : Nat
  sampleWatermark : Nat
  inputWatermark : Nat
  noticeWatermark : Nat
  detachAllowed : Nat
  mainsActive : Nat
  mainsDoze : Nat
  mainsStandby : Nat
  batteryActive : Nat
  batteryDoze : Nat
  batteryStandby : Nat
  batteryLowActive : Nat
  batteryLowDoze : Nat
  batteryLowStandby : Nat
  deriving DecidableEq, Repr

/-- One row of spec/02's settings table: its default and its range. -/
structure SettingRange where
  default : Nat
  lowest : Nat
  highest : Nat
  deriving DecidableEq, Repr

/-- A band of the posture band table (spec/05, "The posture band table"). -/
structure Band where
  posture : Posture
  lower : Nat
  upper : Nat
  margin : Nat
  pose : PoseCondition
  keyboard : Bool
  touchpad : Bool
  rotation : Bool
  idleTimeout : Nat
  detachAllowed : Bool
  deriving DecidableEq, Repr

structure FaultEntry where
  active : Bool
  count : Nat
  firstActive : PartTime
  deriving DecidableEq, Repr

/-- The lid read transaction (R42, R52): in flight it carries the length of the period that ended at its start (R55). -/
inductive LidRead where
  | idle
  | inFlight (period : Nat)
  | discarding
  deriving DecidableEq, Repr

/-- A reading of the base holding register (R46). -/
structure BaseReading where
  x : Int
  y : Int
  z : Int
  arrival : PartTime
  deriving DecidableEq, Repr

/-- A sample set (R55, R56). -/
structure SampleSet where
  seq : Half
  time : PartTime
  lidGood : Bool
  lidSensor : Bool
  lidX : Int
  lidY : Int
  lidZ : Int
  fresh : Bool
  baseX : Int
  baseY : Int
  baseZ : Int
  saturated : Bool
  lidClosed : Bool
  foldBack : Bool
  period : Nat
  deriving DecidableEq, Repr

/-- Why a set is UNAVAILABLE, as far as R80 distinguishes it. -/
inductive Loss where
  | base
  | signal
  deriving DecidableEq, Repr

/-- What the angle unit returns for a set (R75), with the reason of a loss for R80. -/
structure AngleResult where
  difference : Nat
  lidAngle : Nat
  baseAngle : Nat
  degenerateLid : Bool
  degenerateBase : Bool
  loss : Loss
  deriving DecidableEq, Repr

/-- A calibration that is collecting (R77). -/
structure Calibration where
  run : Nat
  sum : Int
  sets : Nat
  deriving DecidableEq, Repr

/-- A good packet from the base (spec/06, "Bytes and packets"). -/
inductive BasePacket where
  | hello (version baseClass capabilities : Byte)
  | key (code : Byte) (press : Bool)
  | pointer (dx dy : Byte) (buttons : BitVec 3)
  | sample (x y z : Half)
  | status (level faults : Byte)
  | button
  | ack (kind : Byte)
  deriving DecidableEq, Repr

/-- A packet in the receive queue with its arrival time (R116). -/
structure Received where
  packet : BasePacket
  arrival : PartTime
  deriving DecidableEq, Repr

/-- A packet to the base (spec/06, "Bytes and packets"). -/
inductive PartPacket where
  /-- Its period is P as it stands when it is sent (R51). -/
  | welcome (period level : Nat)
  | rate (period : Nat)
  | light (level : Nat)
  | quiesce
  | resume
  deriving DecidableEq, Repr

/-- An entry of the owed-release list (R123). -/
inductive Owed where
  | key (code : Byte)
  | pointer
  deriving DecidableEq, Repr

/-- An entry of the paired-pen table; identity 0 marks it empty (R158). -/
structure PairedPen where
  identity : Word
  soc : Nat
  lastSeen : PartTime
  deriving DecidableEq, Repr

/-- One number for each claimant (R165). -/
structure Allotments where
  coil : Nat
  base : Nat
  pen : Nat
  backlight : Nat
  deriving DecidableEq, Repr

/-- The pending increase of each claimant, or none (R167). -/
structure PendingIncreases where
  coil : Option Nat
  base : Option Nat
  pen : Option Nat
  backlight : Option Nat
  deriving DecidableEq, Repr

/-- An entry of the awaiting list with its deadline (R168). -/
structure Awaiting where
  claimant : Awaited
  deadline : PartTime
  deriving DecidableEq, Repr

/-- The idle timer (R176); running, it holds its expiry and the time of the next rewrite of the idle time remaining. -/
inductive IdleTimer where
  | stopped
  | running (expiry rewrite : PartTime)
  | elapsed
  deriving DecidableEq, Repr

/-! ## The units -/

/-- Port unit (spec/01). -/
structure PortUnit where
  hrst : Bool
  phase : Phase
  selfCheck : SelfCheck
  resetKind : ResetKind
  attnLatch : BitVec 10
  attnMask : BitVec 10
  capture : Capture
  /-- The Status Board update count (R25). -/
  updateCount : Word
  /-- The part-time field of the Status Board (R25). -/
  boardTime : PartTime
  /-- The model's own: a board field was rewritten in this event, its value perhaps the same after it (log 17). -/
  boardTouched : Bool
  deriving DecidableEq, Repr

/-- Request dispatcher (spec/01, "The request slots"). -/
structure Dispatcher where
  slots : Vector SlotState 32
  queue : List (Fin 32)
  /-- The slot each unit is serving, by the unit's index. -/
  serving : Vector (Option (Fin 32)) 7
  deriving DecidableEq, Repr

/-- Journal unit (spec/01, "The journals"). -/
structure JournalUnit where
  journals : Vector Journal 3
  gap : Nat
  quiet : Timer
  deriving DecidableEq, Repr

/-- Settings unit (spec/02). -/
structure SettingsUnit where
  active : Settings
  generation : Word
  locked : Bool
  table : List Band
  faults : Vector FaultEntry 8
  deriving DecidableEq, Repr

/-- Sensor sequencer (spec/03). -/
structure SensorUnit where
  timer : Timer
  period : Nat
  read : LidRead
  failRun : Nat
  goodRun : Nat
  holding : Option BaseReading
  lidClosed : DebouncedLine
  foldBack : DebouncedLine
  seq : Half
  /-- The lid accelerometer's supply, switched by the sleep unit (R174). -/
  lidSupply : Bool
  deriving DecidableEq, Repr

/-- Angle unit (spec/04). -/
structure AngleUnit where
  side : Side
  accumulator : Nat
  reported : Nat
  hasValue : Bool
  holdCount : Nat
  quality : Quality
  correction : Int
  calibration : Option Calibration
  deriving DecidableEq, Repr

/-- Posture unit (spec/05). A candidate of none is the committed posture. -/
structure PostureUnit where
  posture : Posture
  band : Option Nat
  candidate : Option Nat
  dwell : Timer
  unavailable : Timer
  outOfTable : Bool
  lastAngle : Nat
  lastQuality : Quality
  basePose : BasePose
  sensed : Orientation
  oriented : Orientation
  orientationCandidate : Orientation
  orientationDwell : Timer
  flat : Bool
  lock : Option Orientation
  deriving DecidableEq, Repr

/-- Base link unit (spec/06). -/
structure LinkUnit where
  state : LinkState
  stage : GreetingStage
  retries : Nat
  recoveries : Nat
  discards : List PartTime
  capBacklight : Bool
  capButton : Bool
  lastPeriodSent : Nat
  lastLevelSent : Nat
  timer : Option (LinkTimerKind × PartTime)
  holdOff : Bool
  transmitList : List PartPacket
  /-- The packet being sent on TXB, if the transmitter is not free. -/
  sending : Option PartPacket
  /-- The receiver ignores bytes until RXB has rested for two byte times (R105, R106). -/
  ignoring : Bool
  receiveQueue : List Received
  hold : Bool
  pressed : List Byte
  buttons : BitVec 3
  owed : List Owed
  keyDropped : Nat
  overruns : Nat
  /-- The keyboard and touchpad flags the posture unit last published (R120). -/
  keyboardFlag : Bool
  touchpadFlag : Bool
  deriving DecidableEq, Repr

/-- Attachment unit (spec/07). The coil claim is the COIL demand of the allotment unit. -/
structure AttachUnit where
  detect : DebouncedLine
  state : AttachState
  phase : Option ReleasePhase
  origin : ReleaseOrigin
  request : Option (Fin 32)
  quiesceTimer : Timer
  senseTimer : Timer
  pulseTimer : Timer
  windowTimer : Timer
  coil : Bool
  currentSeen : Bool
  /-- When the coil was last energized, and for how many milliseconds in this release (R138). -/
  coilSince : PartTime
  coilTime : Nat
  pulses : List PartTime
  wish : Nat
  deriving DecidableEq, Repr

/-- Pen unit (spec/08). The demand is the PEN demand of the allotment unit. -/
structure PenUnit where
  penIn : DebouncedLine
  state : PenState
  identity : Word
  soc : Nat
  temperature : Int
  /-- The response timer: running exactly while an exchange awaits a REPORT. -/
  response : Timer
  retries : Nat
  poll : Timer
  coilPower : Nat
  /-- A lowering of the coil power waits for its control step (R155). -/
  confirmDue : Bool
  /-- The model's own: row 7 of R150 waits for the answer to its demand; clear between steps (log 18). -/
  deciding : Bool
  mode : ChargeMode
  table : Vector PairedPen 4
  deriving DecidableEq, Repr

/-- Allotment unit (spec/09). -/
structure AllotUnit where
  source : PowerSource
  budget : Nat
  demand : Allotments
  grant : Allotments
  increases : PendingIncreases
  awaiting : List Awaiting
  faultedOff : Bool
  lockout : Bool
  underVoltage : Timer
  /-- The VBASE voltage is below 4.5 V, an input of the monitor (R171). -/
  voltageLow : Bool
  level : Nat
  deriving DecidableEq, Repr

/-- Sleep unit (spec/10). -/
structure SleepUnit where
  host : HostState
  power : PowerState
  advice : Advice
  idle : IdleTimer
  /-- The idle time remaining as last written on the Status Board (R176). -/
  idleShown : Word
  grace : Timer
  holdAwake : Timer
  wakeMask : BitVec 8
  standbyAllowed : Bool
  dozeTimer : Timer
  wakeReasons : BitVec 8
  wake : Bool
  answerTimer : Timer
  gapTimer : Timer
  assertions : Nat
  withdrawal : Bool
  button : DebouncedLine
  deriving DecidableEq, Repr

/-! ## Hand-ons -/

/-- Who makes a detach claim (R131): a host request in a slot, or the base's button. -/
inductive Claim where
  | host (slot : Fin 32)
  | button
  deriving DecidableEq, Repr

/-- What one unit hands to another inside an event (spec/00, "Events"; log 1). -/
inductive Task where
  /-- The dispatcher considers the post queue (R11). -/
  | considerQueue
  /-- A unit serves the request of a slot just taken (R12). -/
  | serve (slot : Fin 32) (request : Request)
  /-- A unit finishes its request with code, detail and result words (R13). -/
  | finish (unit : ServingUnit) (code : ResultCode) (detail : Nat) (words : List Word)
  /-- LOAD_POSTURE_TABLE finishes after the fresh evaluation (R87). -/
  | finishLoad (count : Nat)
  /-- SET_BACKLIGHT finishes after the recomputation (R145). -/
  | finishBacklight
  /-- SET_POWER_SOURCE finishes after the budget selection (R164). -/
  | finishSource (before : PowerSource)
  /-- SET_ROTATION_LOCK finishes with the first result word and the committed orientation (R103, R104). -/
  | finishLock (shown : Word)
  /-- PEN_CHARGE_MODE finishes with the pen state after it (R161). -/
  | finishMode (mode : Nat)
  /-- The base link unit serves its receive queue (R118). -/
  | serveReceiveQueue
  /-- The receive queue is served at the end of a host reset, and not before in its event (R125). -/
  | serveAfterReset
  /-- A packet that has left the receive queue is served (R111, R119, R121, R122). -/
  | servePacket (r : Received)
  /-- The posture unit's orientation evaluation of a set (R98). -/
  | evaluateOrientation (set : SampleSet)
  /-- A posture commit (R92): posture, band and cause. -/
  | commitPosture (posture : Posture) (band : Option Nat) (cause : Nat)
  /-- The POSTURE notice of a commit, with the posture before it (R92). -/
  | reportPosture (before : Posture) (cause : Nat)
  /-- R102: the committed orientation follows the committed posture's rotation flag. -/
  | gateRotation
  /-- A fresh evaluation (R88) with the caller's cause. -/
  | freshEvaluation (cause : Nat)
  /-- A commit handed to the base link unit: the gate follows the published flags (R120, R123). -/
  | publishFlags
  /-- A commit handed to the sleep unit (R175, R178, R182): the posture before. -/
  | sleepCommit (before : Posture)
  /-- A band refresh handed to the sleep unit (R176). -/
  | sleepRefresh
  /-- Activity at the sleep unit (R175). -/
  | activity
  /-- A possible wake event (R182). -/
  | wakeEvent (source : WakeSource)
  /-- An attachment change handed to its readers (R129). -/
  | postureAttach
  | angleAttach
  | sensorAttach
  | linkAttach
  | sleepAttach (before after : AttachState)
  /-- A link state change handed to the attachment unit (R115, R128, R133). -/
  | attachLink
  /-- A debounced DETECT change handed to the base link unit (R109) and the allotment unit (R165, R171). -/
  | linkDetect
  | allotDetect
  /-- The base link unit is asked to quiesce for an accepted claim (R133). -/
  | askQuiesce
  /-- The base link unit is asked to resume (R138). -/
  | askResume
  /-- AWAITING_REMOVAL is entered at the end of the pulse (R140, R144). -/
  | awaitRemoval
  /-- A release without removal reaches the resting state, with this cause (R138, R144). -/
  | returnToRest (cause : Nat)
  /-- An ACK naming QUIESCE handed to the attachment unit (R119, R133). -/
  | ackQuiesce
  /-- A detach claim (R131). -/
  | detachClaim (claim : Claim)
  /-- The COIL demand becomes 1200 or 0 (R134, R138). -/
  | coilDemand (raised : Bool)
  /-- The attachment unit is answered with the COIL grant (R134, R137, R170). -/
  | coilAnswer
  /-- WELCOME is offered to the base being greeted (R111). -/
  | offerWelcome
  /-- The attachment unit states the BACKLIGHT claim (R145). -/
  | stateBacklight
  /-- The pen unit states a demand (R150, R155, R165). -/
  | penDemand (demand : Nat)
  /-- Row 7 of R150: CHARGING or DEFERRED, by the answer. -/
  | penDecide
  /-- The BASE_BASIC demand is reviewed (R165). -/
  | reviewBase
  /-- The base is faulted off (R114, R165). -/
  | baseFaultedOff
  /-- The budget is selected anew, with the ALLOTMENT cause (R163). -/
  | selectBudget (cause : Nat)
  /-- The grants are recomputed (R166, R167). -/
  | recompute
  /-- The grant of a claimant is handed on (R110, R155, R170). -/
  | linkGrant
  | penGrant
  | backlightGrant
  /-- The pending increases go in force if no confirmation is awaited (R167). -/
  | settleIncreases
  /-- A decrease is confirmed (R168). -/
  | confirmDecrease (claimant : Awaited)
  /-- An ACK naming LIGHT is handed on (R168). -/
  | ackLight
  /-- The part power state changes, with the POWER_STATE cause (R174). -/
  | setPower (power : PowerState) (cause : Nat)
  /-- The POWER_STATE notice (R174). -/
  | reportPower (before : PowerState) (cause : Nat)
  /-- A change of power state handed to the sensor sequencer, the angle unit and the posture unit (R174). -/
  | sensorPower (before : PowerState)
  | anglePower
  | posturePower
  /-- The base withdrawal follows the part power state (R174). -/
  | withdrawBase
  /-- The doze-to-standby timer of step 8 of R179. -/
  | startDozeTimer
  /-- Steps 3 to 7 of R181, after the power state; then the request finishes. -/
  | resumeHost (wasOn : Bool)
  /-- The end of the sleep unit's part of a host reset (R186). -/
  | resetSleepEnd
  /-- A RATE offered by the sensor sequencer (R51). -/
  | offerRate
  deriving DecidableEq, Repr

end Sys2Proof.Machine
end

