-- ==== Sys2Proof/Machine/Operands.lean ====
section
/-! DEFINITION. The operand forms: packets from the base as bytes (R106), REPORTs (R148), the words and status byte of a
lid read (R43), and the check of a band record in Posture Table Staging (R87). -/

namespace Sys2Proof.Machine

/-- The size of a window in bytes (spec/00, "The host connection"). -/
def windowSize : Window → Nat
  | .exchange => 0x4000
  | .control => 0x110

/-- A 16-bit field from its bytes, least significant first. -/
def half (lo hi : Byte) : Half := hi ++ lo

/-- The sum of a list of bytes, modulo 256 (R106, R148). -/
def byteSum (bs : List Byte) : Nat := (bs.map (·.toNat)).sum % 256

/-- The payload of a packet from the base by kind code, of the length the table gives for the kind; a KEY with code 0 or
255 or an action above 1 is no good packet (R106). -/
def parsePayload : Nat → List Byte → Option BasePacket
  | 1, [v, c, f] => some (.hello v c f)
  | 2, [k, a] =>
    if k = 0 ∨ k = 255 then none
    else if a = 1 then some (.key k true) else if a = 0 then some (.key k false) else none
  | 3, [dx, dy, b] => some (.pointer dx dy (b.setWidth 3))
  | 4, [a, b, c, d, e, f] => some (.sample (half a b) (half c d) (half e f))
  | 5, [l, f] => some (.status l f)
  | 6, [] => some .button
  | 7, [k] => some (.ack k)
  | _, _ => none

/-- The good packet a list of bytes spells, header and check included (R106). -/
def parsePacket : List Byte → Option BasePacket
  | [] => none
  | h :: rest =>
    let kind := h.toNat / 16
    let length := h.toNat % 16
    if length ≤ 12 ∧ rest.length = length + 1 ∧ byteSum (h :: rest) = 0 then
      parsePayload kind (rest.take length)
    else none

/-- Why the receiver discards bytes that spell no good packet: a header above 12, bytes that end before the check byte,
or a completed packet that fails its tests (R106). -/
def discardReason : List Byte → DiscardReason
  | [] => .rest
  | h :: rest =>
    if 12 < h.toNat % 16 then .overlongHeader
    else if rest.length < h.toNat % 16 + 1 then .rest
    else .badPacket

/-- The kind codes an ACK can name that the part acts on. -/
def welcomeKind : Byte := 0x9
def lightKind : Byte := 0xB
def quiesceKind : Byte := 0xC

/-- Whether a packet is of an input kind: KEY or POINTER (spec/06). -/
def BasePacket.isInput : BasePacket → Bool
  | .key _ _ => true
  | .pointer _ _ _ => true
  | .hello _ _ _ => false
  | .sample _ _ _ => false
  | .status _ _ => false
  | .button => false
  | .ack _ => false

/-- The capability flags of a HELLO: bit 1 backlight, bit 3 detach button. -/
def capabilityBacklight (flags : Byte) : Bool := flags.getLsbD 1
def capabilityButton (flags : Byte) : Bool := flags.getLsbD 3

/-- The eight bytes of a REPORT. -/
def reportBytes (r : Sys2Proof.PenReport) : List Byte :=
  [r.identity.setWidth 8, (r.identity >>> 8).setWidth 8, (r.identity >>> 16).setWidth 8,
   (r.identity >>> 24).setWidth 8, r.soc, r.temperature, r.flags, r.check]

/-- A valid REPORT: check sum 0 modulo 256, identity not 0, state of charge at most 100 (R148). -/
def reportValid (r : Sys2Proof.PenReport) : Bool :=
  byteSum (reportBytes r) == 0 && r.identity != 0 && decide (r.soc.toNat ≤ 100)

/-- REPORT flags: bit 0 battery fault, bit 1 charge allowed (spec/08). -/
def batteryFault (r : Sys2Proof.PenReport) : Bool := r.flags.getLsbD 0
def chargeAllowed (r : Sys2Proof.PenReport) : Bool := r.flags.getLsbD 1

/-- A sensor word as a signed value clamped to −32767..32767 (R43, R46). -/
def sensorWord (h : Half) : Int := max (-32767) h.toInt

/-- The fixed device signature in bits 7:4 of the status byte (R38, R43). -/
def signatureGood (status : Byte) : Bool := status.toNat / 16 == 0x9

/-- A good lid read: signature 0x9 and data-ready (R43). -/
def readGood (status : Byte) : Bool := signatureGood status && status.getLsbD 0

/-- An axis word at the end of its range (R56). -/
def atLimit (w : Int) : Bool := w == 32767 || w == -32767

end Sys2Proof.Machine
end

