-- ==== Sys2Proof/Config.lean ====
section
/-! DEFINITION. What an implementation fixes and the free values. The spec gives every constant of the FJ3220; what it
leaves open is an order in two events, taken here as free values without a body (log 10). -/

namespace Sys2Proof

/-- R126, R109: the base link unit and the allotment unit may take a debounced DETECT change in either order. True when
the base link unit takes it first. Applied to a counter in State, so each change has a choice of its own. -/
opaque Config.linkTakesDetectFirst : Nat → Bool

/-- R172: at host reset the allotment unit may take the new budget and the withdrawal of the coil claim in either order.
True when it takes the budget first. -/
opaque Config.budgetTakenFirst : Nat → Bool

/-- How many hand-ons between units one event carries at most (log 2). -/
def Config.handOnLimit : Nat := 65536

end Sys2Proof
end

