-- ==== Sys2Proof/Machine/Codes.lean ====
section
/-! DEFINITION. The codes of spec/01, "Codes used in several records", and the other code tables of spec/01. -/

namespace Sys2Proof.Machine

/-- The bit of an attention cause (spec/01, "Attention"). -/
def Cause.bit : Cause → Nat
  | .fault => 0 | .sleepAdvice => 1 | .posture => 2 | .attach => 3 | .pen => 4
  | .requestDone => 5 | .input => 6 | .sample => 7 | .notice => 8 | .accessError => 9

/-- R4. -/
def CaptureKind.code : CaptureKind → Nat
  | .none => 0 | .outside => 1 | .partRegion => 2 | .settingsLocked => 3 | .slotBusy => 4
  | .misaligned => 5 | .readOnly => 6 | .postNotFree => 7 | .countInvalid => 8

def SlotState.code : SlotState → Nat
  | .free => 0 | .posted => 1 | .taken _ => 2 | .done => 3

/-- R13. -/
def ResultCode.code : ResultCode → Nat
  | .ok => 0 | .badRequest => 1 | .badParameter => 2 | .notNow => 3
  | .cancelled => 4 | .locked => 5 | .noPower => 6 | .failed => 7

/-- The index of a fault kind in the fault table. -/
def FaultKind.index : FaultKind → Fin 8
  | .lidSensor => 0 | .hallConflict => 1 | .baseLink => 2 | .baseSupply => 3
  | .latchCoil => 4 | .penUnresponsive => 5 | .penBattery => 6 | .wakeUnanswered => 7

/-- The kinds of spec/01, "Notice record". -/
def NoticeKind.code : NoticeKind → Nat
  | .gap => 0x00 | .posture => 0x01 | .orientation => 0x02 | .link => 0x04 | .attachment => 0x05
  | .detachRefused => 0x06 | .pen => 0x07 | .fault => 0x08 | .sleepAdvice => 0x09
  | .powerButton => 0x0A | .allotment => 0x0B | .powerState => 0x0C

def InputKind.code : InputKind → Nat
  | .keyPress => 1 | .keyRelease => 2 | .pointer => 3 | .synthRelease => 4 | .synthPointer => 5

def Posture.code : Posture → Nat
  | .closed => 0 | .laptop => 1 | .stand => 2 | .tent => 3 | .tablet => 4 | .detached => 5 | .unknown => 6

/-- The posture of a band's posture code (0..4). -/
def Posture.ofBandCode : Nat → Option Posture
  | 0 => some .closed | 1 => some .laptop | 2 => some .stand | 3 => some .tent | 4 => some .tablet
  | _ => none

def Quality.code : Quality → Nat
  | .good => 0 | .held => 1 | .hall => 2 | .unavailable => 3

def Side.code : Side → Nat
  | .low => 0 | .high => 1

def BasePose.code : BasePose → Nat
  | .unknown => 0 | .flat => 1 | .upright => 2

def PoseCondition.ofCode : Nat → Option PoseCondition
  | 0 => some .any | 1 => some .flat | 2 => some .upright | _ => none

def Orientation.code : Orientation → Nat
  | .landscape => 0 | .portrait => 1 | .landscapeFlipped => 2 | .portraitFlipped => 3

/-- The orientation of a code, taken modulo 4. -/
def Orientation.ofCode (n : Nat) : Orientation :=
  match n % 4 with
  | 0 => .landscape | 1 => .portrait | 2 => .landscapeFlipped | _ => .portraitFlipped

def PowerState.code : PowerState → Nat
  | .active => 0 | .doze => 1 | .standby => 2

def HostState.code : HostState → Nat
  | .on => 0 | .sleeping => 1

def Advice.code : Advice → Nat
  | .none => 0 | .lidClosed => 1 | .idle => 2

def PowerSource.code : PowerSource → Nat
  | .mains => 0 | .battery => 1 | .batteryLow => 2

def PowerSource.ofCode : Nat → Option PowerSource
  | 0 => some .mains | 1 => some .battery | 2 => some .batteryLow | _ => none

def LinkState.code : LinkState → Nat
  | .absent => 0 | .powering => 1 | .greeting => 2 | .ready => 3
  | .quiesced => 4 | .lost => 5 | .faulted => 6 | .unpowered => 7

def AttachState.code : AttachState → Nat
  | .detached => 0 | .seating => 1 | .attached => 2 | .degraded => 3 | .releasing => 4 | .awaitingRemoval => 5

def PenState.code : PenState → Nat
  | .absent => 0 | .identifying => 1 | .charging => 2 | .deferred => 3
  | .topped => 4 | .pausedTemp => 5 | .held => 6 | .fault => 7

/-- The bit of a wake source in the wake mask and the wake reasons. -/
def WakeSource.bit : WakeSource → Nat
  | .lidOpen => 0 | .key => 1 | .pointer => 2 | .penRemoved => 3
  | .penInserted => 4 | .attachChange => 5 | .powerButton => 6 | .postureChange => 7

/-- The window indicator of the error capture. -/
def windowCode : Window → Nat
  | .exchange => 0 | .control => 1

def Phase.code : Phase → Nat
  | .booting => 0 | .running => 1

def ResetKind.code : ResetKind → Nat
  | .powerOn => 0 | .hostReset => 1

/-- The request codes of spec/01, "Entries into the post queue". -/
def Request.code : Request → Nat
  | .applySettings => 0x10 | .lockSettings => 0x11 | .loadPostureTable => 0x12 | .resetJournal => 0x13
  | .ackFault => 0x14 | .calibrateHinge => 0x20 | .setRotationLock => 0x30 | .detach => 0x40
  | .setBacklight => 0x41 | .penAccept => 0x50 | .penForget => 0x51 | .penChargeMode => 0x52
  | .setPowerSource => 0x60 | .hostState => 0x70 | .holdAwake => 0x71

/-- The request a code names, if any. -/
def Request.ofCode : Nat → Option Request
  | 0x10 => some .applySettings | 0x11 => some .lockSettings | 0x12 => some .loadPostureTable
  | 0x13 => some .resetJournal | 0x14 => some .ackFault | 0x20 => some .calibrateHinge
  | 0x30 => some .setRotationLock | 0x40 => some .detach | 0x41 => some .setBacklight
  | 0x50 => some .penAccept | 0x51 => some .penForget | 0x52 => some .penChargeMode
  | 0x60 => some .setPowerSource | 0x70 => some .hostState | 0x71 => some .holdAwake
  | _ => none

/-- The unit that serves a request (spec/01, "Entries into the post queue"). -/
def Request.servedBy : Request → ServingUnit
  | .applySettings | .lockSettings | .loadPostureTable | .resetJournal | .ackFault => .settings
  | .calibrateHinge => .angle
  | .setRotationLock => .posture
  | .detach | .setBacklight => .base
  | .penAccept | .penForget | .penChargeMode => .pen
  | .setPowerSource => .power
  | .hostState | .holdAwake => .sleep

def ServingUnit.index : ServingUnit → Fin 7
  | .settings => 0 | .angle => 1 | .posture => 2 | .base => 3 | .pen => 4 | .power => 5 | .sleep => 6

/-- Whether the attachment state counts as attached for the angle and posture units (R60, R83). -/
def AttachState.baseAttached : AttachState → Bool
  | .attached | .degraded | .releasing | .awaitingRemoval => true
  | .detached | .seating => false

/-- Whether the receiver is enabled in a link state (R105). -/
def LinkState.receiving : LinkState → Bool
  | .greeting | .ready | .quiesced => true
  | _ => false

/-- Whether entering a link state takes the link down (R108). -/
def LinkState.isDown : LinkState → Bool
  | .absent | .unpowered | .lost | .faulted => true
  | _ => false

end Sys2Proof.Machine
end

