-- ==== Sys2Proof/Machine/Defaults.lean ====
section
/-! DEFINITION. Values the spec fixes at reset: the settings' defaults and ranges (spec/02), the default posture band
table (R86) and what each byte of exchange memory holds after power-on reset (R2, R27). -/

namespace Sys2Proof.Machine

/-- The settings table of spec/02, row by row from offset 0x0100 upward: default, lowest, highest. -/
def settingRanges : List SettingRange :=
  [⟨20, 5, 100⟩, ⟨200, 50, 1000⟩, ⟨1229, 410, 3277⟩, ⟨2048, 0, 4095⟩, ⟨2, 0, 7⟩, ⟨300, 0, 2000⟩,
   ⟨1638, 819, 2867⟩, ⟨171, 0, 455⟩, ⟨250, 0, 2000⟩, ⟨180, 0, 3600⟩, ⟨4, 1, 8⟩, ⟨400, 100, 1000⟩,
   ⟨3000, 500, 10000⟩, ⟨100, 50, 100⟩, ⟨95, 50, 99⟩, ⟨600, 150, 600⟩, ⟨2000, 0, 30000⟩, ⟨60, 10, 600⟩,
   ⟨32, 1, 128⟩, ⟨16, 1, 256⟩, ⟨1, 1, 128⟩, ⟨1, 0, 1⟩] ++
  [⟨2500, 0, 4000⟩, ⟨800, 0, 4000⟩, ⟨300, 0, 4000⟩, ⟨1500, 0, 4000⟩, ⟨600, 0, 4000⟩, ⟨300, 0, 4000⟩,
   ⟨700, 0, 4000⟩, ⟨400, 0, 4000⟩, ⟨200, 0, 4000⟩]

/-- The settings from their values in table order; a missing value reads 0 (the lists used have 31). -/
def Settings.ofList (v : List Nat) : Settings :=
  { periodActive := v.getD 0 0, periodDoze := v.getD 1 0, minProj := v.getD 2 0, offset := v.getD 3 0
    filterShift := v.getD 4 0, postureDwell := v.getD 5 0, flatMin := v.getD 6 0
    rotationHysteresis := v.getD 7 0, orientationDwell := v.getD 8 0, detachedIdle := v.getD 9 0
    pulseLimit := v.getD 10 0, pulseTime := v.getD 11 0, removalWindow := v.getD 12 0
    penTarget := v.getD 13 0, penTopUp := v.getD 14 0, penMaximum := v.getD 15 0
    lidCloseGrace := v.getD 16 0, dozeToStandby := v.getD 17 0, sampleWatermark := v.getD 18 0
    inputWatermark := v.getD 19 0, noticeWatermark := v.getD 20 0, detachAllowed := v.getD 21 0
    mainsActive := v.getD 22 0, mainsDoze := v.getD 23 0, mainsStandby := v.getD 24 0
    batteryActive := v.getD 25 0, batteryDoze := v.getD 26 0, batteryStandby := v.getD 27 0
    batteryLowActive := v.getD 28 0, batteryLowDoze := v.getD 29 0, batteryLowStandby := v.getD 30 0 }

/-- Every active setting at its default (R27). -/
def Settings.defaults : Settings := Settings.ofList (settingRanges.map (·.default))

/-- The default posture band table (R86). -/
def defaultTable : List Band :=
  [{ posture := .closed, lower := 0, upper := 113, margin := 57, pose := .any, keyboard := false
     touchpad := false, rotation := false, idleTimeout := 0, detachAllowed := false },
   { posture := .laptop, lower := 114, upper := 2389, margin := 57, pose := .any, keyboard := true
     touchpad := true, rotation := false, idleTimeout := 300, detachAllowed := true },
   { posture := .tent, lower := 2390, upper := 3868, margin := 57, pose := .upright, keyboard := false
     touchpad := false, rotation := true, idleTimeout := 600, detachAllowed := false },
   { posture := .stand, lower := 2390, upper := 3868, margin := 57, pose := .flat, keyboard := false
     touchpad := false, rotation := true, idleTimeout := 600, detachAllowed := false },
   { posture := .tablet, lower := 3869, upper := 4096, margin := 57, pose := .any, keyboard := false
     touchpad := false, rotation := true, idleTimeout := 120, detachAllowed := false }]

/-- The offset of the Settings Block (R2). -/
def settingsBase : Nat := 0x0100

/-- Byte k, least significant first, of a number. -/
def byteOf (v k : Nat) : Byte := BitVec.ofNat 8 (v / 256 ^ k)

/-- What a byte of exchange memory holds after power-on reset: the byte of a setting's default in the Settings Block
(R27), zero everywhere else (R2). It is what an address not listed in memory reads as. -/
def resetByte (a : Nat) : Byte :=
  if a < settingsBase then 0
  else
    match settingRanges[(a - settingsBase) / 4]? with
    | some r => byteOf r.default ((a - settingsBase) % 4)
    | none => 0

/-- The wake mask after power-on reset and after host reset: LID_OPEN, KEY, PEN_REMOVED, ATTACH_CHANGE, POWER_BUTTON
(spec/10). -/
def defaultWakeMask : BitVec 8 := 0x6B#8

end Sys2Proof.Machine
end

