-- ==== Sys2Proof/Machine/State.lean ====
section
/-! DEFINITION. The state of the FJ3220: the twelve units, exchange memory, part time, the queue of commands and the
model's own bookkeeping; the reasons a step can stop; the state right after power-on reset. -/

namespace Sys2Proof.Machine

/-- Why the machine stops with a fault. -/
inductive Fault where
  /-- Raised by HOST_WRITE alone, for a byte offset in neither window (spec/00, "The host connection": 16 KiB and 272
  bytes): no such address exists on the part. Safe: the model stops where the part would not be addressed. -/
  | outsideWindows (window : Window) (offset : Nat)
  deriving DecidableEq, Repr

/-- Why a command is refused. -/
inductive Refusal where
  /-- No meaning given: raised by an arm of exec that names its command's mnemonic. Safe. No arm raises it. -/
  | notModelled (mnemonic : String)
  deriving DecidableEq, Repr

/-- Exchange memory: byte cells by offset, strictly rising, none equal to what its offset reads as unlisted. -/
abbrev Memory := List Host.Cell

/-- The part. One field for each unit of spec/00, "Block overview". -/
structure State where
  /-- Part time (spec/00, "Units of measure"). -/
  now : PartTime
  port : PortUnit
  dispatch : Dispatcher
  journal : JournalUnit
  settings : SettingsUnit
  sensor : SensorUnit
  angle : AngleUnit
  posture : PostureUnit
  link : LinkUnit
  attach : AttachUnit
  pen : PenUnit
  allot : AllotUnit
  sleep : SleepUnit
  /-- Exchange memory but for the words whose home is a unit (log 12). -/
  mem : Memory
  /-- Commands waiting, first in first out. -/
  pending : List Instr
  /-- The model's own: hand-ons of the event not yet carried; empty between steps (log 1, log 2). -/
  tasks : List Task
  /-- The model's own: the counter the free orders of Config are applied to (log 10). -/
  choices : Nat
  deriving DecidableEq, Repr

/-- A line with its debounced level false and its timer stopped. -/
def quietLine : DebouncedLine := { line := false, level := false, timer := none }

def PortUnit.reset : PortUnit :=
  { hrst := false, phase := .booting, selfCheck := .underway, resetKind := .powerOn, attnLatch := 0
    attnMask := 0, capture := { kind := .none, offset := 0, window := .exchange, more := false }
    updateCount := 2, boardTime := 0, boardTouched := false }

def Dispatcher.reset : Dispatcher :=
  { slots := Vector.replicate 32 .free, queue := [], serving := Vector.replicate 7 none }

def JournalUnit.reset : JournalUnit :=
  { journals := Vector.replicate 3
      { writeCount := 0, readCount := 0, drops := 0, full := false, invalidCount := false }
    gap := 0, quiet := none }

def SettingsUnit.reset : SettingsUnit :=
  { active := Settings.defaults, generation := 0, locked := false, table := defaultTable
    faults := Vector.replicate 8 { active := false, count := 0, firstActive := 0 } }

def SensorUnit.reset : SensorUnit :=
  { timer := none, period := 20, read := .idle, failRun := 0, goodRun := 0, holding := none
    lidClosed := quietLine, foldBack := quietLine, seq := 0, lidSupply := true }

def AngleUnit.reset : AngleUnit :=
  { side := .low, accumulator := 0, reported := 0, hasValue := false, holdCount := 0
    quality := .unavailable, correction := 0, calibration := none }

def PostureUnit.reset : PostureUnit :=
  { posture := .unknown, band := none, candidate := none, dwell := none, unavailable := none
    outOfTable := false, lastAngle := 0, lastQuality := .unavailable, basePose := .unknown
    sensed := .landscape, oriented := .landscape, orientationCandidate := .landscape
    orientationDwell := none, flat := false, lock := none }

def LinkUnit.reset : LinkUnit :=
  { state := .absent, stage := .awaitHello, retries := 0, recoveries := 0, discards := []
    capBacklight := false, capButton := false, lastPeriodSent := 20, lastLevelSent := 0, timer := none
    holdOff := false, transmitList := [], sending := none, ignoring := false, receiveQueue := []
    hold := false, pressed := [], buttons := 0, owed := [], keyDropped := 0, overruns := 0
    keyboardFlag := true, touchpadFlag := true }

def AttachUnit.reset : AttachUnit :=
  { detect := quietLine, state := .detached, phase := none, origin := .request, request := none
    quiesceTimer := none, senseTimer := none, pulseTimer := none, windowTimer := none, coil := false
    currentSeen := false, coilSince := 0, coilTime := 0, pulses := [], wish := 0 }

def PenUnit.reset : PenUnit :=
  { penIn := quietLine, state := .absent, identity := 0, soc := 0, temperature := 0, response := none
    retries := 0, poll := none, coilPower := 0, confirmDue := false, deciding := false, mode := .normal
    table := Vector.replicate 4 { identity := 0, soc := 0, lastSeen := 0 } }

def AllotUnit.reset : AllotUnit :=
  { source := .battery, budget := 1500, demand := ⟨0, 0, 0, 0⟩, grant := ⟨0, 0, 0, 0⟩
    increases := ⟨none, none, none, none⟩, awaiting := [], faultedOff := false, lockout := false
    underVoltage := none, voltageLow := true, level := 0 }

def SleepUnit.reset : SleepUnit :=
  { host := .on, power := .active, advice := .none, idle := .stopped, idleShown := 0xFFFFFFFF
    grace := none, holdAwake := none, wakeMask := defaultWakeMask, standbyAllowed := false
    dozeTimer := none, wakeReasons := 0, wake := false, answerTimer := none, gapTimer := none
    assertions := 0, withdrawal := false, button := quietLine }

/-- The part right after power-on reset (R37), with no command waiting. The levels of its input lines are the model's
choice (log 8, log 9), and so are the few values the spec does not give (log 10, log 20, log 21). -/
def State.reset : State :=
  { now := 0, port := PortUnit.reset, dispatch := Dispatcher.reset, journal := JournalUnit.reset
    settings := SettingsUnit.reset, sensor := SensorUnit.reset, angle := AngleUnit.reset
    posture := PostureUnit.reset, link := LinkUnit.reset, attach := AttachUnit.reset
    pen := PenUnit.reset, allot := AllotUnit.reset, sleep := SleepUnit.reset, mem := []
    pending := [], tasks := [], choices := 0 }

end Sys2Proof.Machine
end

