-- ==== Sys2Proof/Machine/Ops.lean ====
section
/-! DEFINITION. The named operations every unit goes through: updates of one unit, hand-ons, part time and timers,
exchange memory by bytes and words, and the debouncing shared by the five input lines. -/

namespace Sys2Proof.Machine

/-! ## Updates of one unit -/

def State.updPort (s : State) (f : PortUnit → PortUnit) : State := { s with port := f s.port }
def State.updDispatch (s : State) (f : Dispatcher → Dispatcher) : State := { s with dispatch := f s.dispatch }
def State.updJournal (s : State) (f : JournalUnit → JournalUnit) : State := { s with journal := f s.journal }
def State.updSettings (s : State) (f : SettingsUnit → SettingsUnit) : State := { s with settings := f s.settings }
def State.updSensor (s : State) (f : SensorUnit → SensorUnit) : State := { s with sensor := f s.sensor }
def State.updAngle (s : State) (f : AngleUnit → AngleUnit) : State := { s with angle := f s.angle }
def State.updPosture (s : State) (f : PostureUnit → PostureUnit) : State := { s with posture := f s.posture }
def State.updLink (s : State) (f : LinkUnit → LinkUnit) : State := { s with link := f s.link }
def State.updAttach (s : State) (f : AttachUnit → AttachUnit) : State := { s with attach := f s.attach }
def State.updPen (s : State) (f : PenUnit → PenUnit) : State := { s with pen := f s.pen }
def State.updAllot (s : State) (f : AllotUnit → AllotUnit) : State := { s with allot := f s.allot }
def State.updSleep (s : State) (f : SleepUnit → SleepUnit) : State := { s with sleep := f s.sleep }
def State.setMem (s : State) (m : Memory) : State := { s with mem := m }
def State.setNow (s : State) (t : PartTime) : State := { s with now := t }
def State.setTasks (s : State) (ts : List Task) : State := { s with tasks := ts }
def State.setPending (s : State) (q : List Instr) : State := { s with pending := q }
def State.setChoices (s : State) (n : Nat) : State := { s with choices := n }

/-- A field of the Status Board is rewritten in this event, whatever value it ends with (R25; log 17). -/
def State.touchBoard (s : State) : State := s.updPort fun p => { p with boardTouched := true }

/-- A field of the Status Board is rewritten where it takes another value, though the event may bring the old one back (R25;
log 17). -/
def State.touchWhen (s : State) (changed : Prop) [Decidable changed] : State := if changed then s.touchBoard else s

/-! ## Hand-ons -/

/-- Hands on, to be carried before what already waits in this event (log 1). -/
def State.hand (s : State) (ts : List Task) : State := s.setTasks (ts ++ s.tasks)

/-- Hands on, to be carried after everything else of this event (log 11). -/
def State.handLast (s : State) (t : Task) : State := s.setTasks (s.tasks ++ [t])

/-! ## Part time and timers -/

/-- Part time plus a number of milliseconds, wrapping. -/
def State.after (s : State) (ms : Nat) : PartTime := s.now + BitVec.ofNat 32 ms

/-- A timer started now with a length in milliseconds. -/
def State.start (s : State) (ms : Nat) : Timer := some (s.after ms)

/-- (a − b) modulo 2^32 in milliseconds. -/
def elapsed (a b : PartTime) : Nat := (a - b).toNat

/-- At an expiry event part time is at least the expiry: it moves there if it has not passed it (log 4). -/
def State.reach (s : State) (expiry : PartTime) : State :=
  if elapsed expiry s.now < 2 ^ 31 then s.setNow expiry else s

/-! ## Exchange memory -/

/-- The byte at an offset. -/
def Memory.get : Memory → Nat → Byte
  | [], a => resetByte a
  | (k, v) :: m, a => if k < a then Memory.get m a else if k = a then v else resetByte a

/-- Writes one byte, keeping the canonical form: writing what the offset reads as unlisted removes its cell. -/
def Memory.put : Memory → Nat → Byte → Memory
  | [], a, b => if b = resetByte a then [] else [(a, b)]
  | (k, v) :: m, a, b =>
    if k < a then (k, v) :: Memory.put m a b
    else if k = a then (if b = resetByte a then m else (a, b) :: m)
    else (if b = resetByte a then (k, v) :: m else (a, b) :: (k, v) :: m)

/-- The n bytes at an offset as a number, least significant byte first. -/
def Memory.getLE (m : Memory) (a : Nat) : Nat → Nat
  | 0 => 0
  | n + 1 => (m.get a).toNat + 256 * Memory.getLE m (a + 1) n

/-- Writes a number as n bytes, least significant byte first. -/
def Memory.putLE (m : Memory) (a : Nat) : Nat → Nat → Memory
  | 0, _ => m
  | n + 1, v => Memory.putLE (m.put a (BitVec.ofNat 8 v)) (a + 1) n (v / 256)

/-- Writes a list of bytes from an offset upward. -/
def Memory.putBytes (m : Memory) (a : Nat) : List Byte → Memory
  | [] => m
  | b :: bs => Memory.putBytes (m.put a b) (a + 1) bs

/-- Returns a range of offsets to what it holds after power-on reset. -/
def Memory.clear (m : Memory) (lo hi : Nat) : Memory := m.filter fun c => c.1 < lo || hi ≤ c.1

/-- Strictly rising offsets above a bound (`none`: no bound), no cell at its reset content. -/
def Memory.wfFrom : Option Nat → Memory → Bool
  | _, [] => true
  | bound, (k, v) :: m =>
    (match bound with | none => true | some b => decide (b < k)) && decide (v ≠ resetByte k) &&
      Memory.wfFrom (some k) m

/-- The canonical form of exchange memory. -/
def Memory.wf (m : Memory) : Bool := Memory.wfFrom none m

/-- A word of exchange memory. -/
def Memory.getWord (m : Memory) (a : Nat) : Word := word (m.getLE a 4)

/-! ## Debounced lines (R48, R126, R146, R185) -/

/-- A line takes a level while it is watched: away from the debounced level the timer starts afresh, back to it the
timer stops. A level the line already has is no change. -/
def DebouncedLine.change (d : DebouncedLine) (level : Bool) (started : Timer) : DebouncedLine :=
  if d.line = level then d
  else { d with line := level, timer := if level = d.level then none else started }

/-- A line takes a level while it is not watched (BOOTING). -/
def DebouncedLine.unwatched (d : DebouncedLine) (level : Bool) : DebouncedLine := { d with line := level }

/-- The debounce begins from the line's level at RUNNING (R38). -/
def DebouncedLine.begin (d : DebouncedLine) (started : Timer) : DebouncedLine :=
  { d with timer := if d.line = d.level then none else started }

/-- The debounced level takes the line's level. -/
def DebouncedLine.settle (d : DebouncedLine) : DebouncedLine := { d with level := d.line, timer := none }

/-! ## Small parts of the state used across units -/

/-- Whether the part is past its start-up (R24). -/
def State.isRunning (s : State) : Bool := s.port.phase == .running

/-- Whether the host is ON. -/
def State.hostOn (s : State) : Bool := s.sleep.host == .on

/-- The base is attached, in the angle unit's sense (R60). -/
def State.baseAttached (s : State) : Bool := s.attach.state.baseAttached

/-- The entry of the fault table for a kind. -/
def State.faultEntry (s : State) (k : FaultKind) : FaultEntry := s.settings.faults[k.index]

/-- VBASE is on while BASE_BASIC is in force and the base link unit does not hold it off (R170). -/
def State.vbaseOn (s : State) : Bool := decide (0 < s.allot.grant.base) && !s.link.holdOff

/-- A wrapped counter of the spec that stops at a limit. -/
def bump (limit n : Nat) : Nat := if n < limit then n + 1 else n

/-- The next free order (log 10): its index, and the state with the counter advanced. -/
def State.nextChoice (s : State) : Nat × State := (s.choices, s.setChoices (s.choices + 1))

end Sys2Proof.Machine
end

