-- ==== Sys2Proof/Machine/Flags.lean ====
section
/-! DEFINITION. Attention, the error capture, PART_STATE, the journals' flags and watermarks, the fault table's flags and
notices: what spec/01 and spec/02 latch, set and clear at events of every unit. -/

namespace Sys2Proof.Machine

/-! ## Attention (R22, R23) -/

/-- The mask of one cause. -/
def Cause.mask (c : Cause) : BitVec 10 := BitVec.ofNat 10 (2 ^ c.bit)

/-- A cause is latched; one already latched stays latched (R22). -/
def State.latch (s : State) (c : Cause) : State :=
  s.updPort fun p => { p with attnLatch := p.attnLatch ||| c.mask }

/-- The ATTN line (R23). -/
def State.attnLine (s : State) : Bool := decide (s.port.attnLatch &&& s.port.attnMask ≠ 0)

/-- The lowest-numbered set bit from bit k upward, over a number of bits; 31 when there is none. -/
def lowestBit (w : BitVec 10) (k : Nat) : Nat → Nat
  | 0 => 31
  | n + 1 => if w.getLsbD k then k else lowestBit w (k + 1) n

/-- ATTN_TOP (R23). -/
def State.attnTop (s : State) : Nat := lowestBit (s.port.attnLatch &&& s.port.attnMask) 0 10

/-- PART_STATE (R24): phase, part power state, last reset kind, silicon revision 1, part code 0x3220. -/
def State.partState (s : State) : Word :=
  word (s.port.phase.code + 16 * s.sleep.power.code + 256 * s.port.resetKind.code + 4096 * 1 + 65536 * 0x3220)

/-! ## The error capture (R4, R5) -/

/-- A host misuse is recorded: ACCESS_ERROR is latched; an empty capture takes it in full, any other sets MORE (R4). -/
def State.recordError (s : State) (kind : CaptureKind) (offset : Nat) (window : Window) : State :=
  (s.latch .accessError).updPort fun p =>
    { p with capture :=
        if p.capture.kind = .none then { kind := kind, offset := offset, window := window, more := false }
        else { p.capture with more := true } }

/-- The empty capture (R5). -/
def Capture.empty : Capture := { kind := .none, offset := 0, window := .exchange, more := false }

/-- A host write to ATTN_LATCH (R22, R5). -/
def State.clearCauses (s : State) (data : Word) : State :=
  s.updPort fun p =>
    { p with
      attnLatch := p.attnLatch &&& ~~~(data.setWidth 10)
      capture := if data.getLsbD 9 then Capture.empty else p.capture }

/-! ## Journals (R15, R16, R18, R20, R21) -/

/-- The numbers of the journals. -/
def sampleJournal : Fin 3 := 0
def inputJournal : Fin 3 := 1
def noticeJournal : Fin 3 := 2

/-- The capacity C of a journal. -/
def journalCapacity : Fin 3 → Nat
  | 0 => 128 | 1 => 256 | 2 => 128

/-- The first offset of a journal's region. -/
def journalBase : Fin 3 → Nat
  | 0 => 0x1000 | 1 => 0x2000 | 2 => 0x2800

/-- The record size of a journal. -/
def recordSize : Fin 3 → Nat
  | 0 => 32 | 1 => 8 | 2 => 16

def State.journalOf (s : State) (j : Fin 3) : Journal := s.journal.journals[j]

def State.updJournalOf (s : State) (j : Fin 3) (f : Journal → Journal) : State :=
  s.updJournal fun u => { u with journals := u.journals.set j (f u.journals[j]) }

/-- Used: (W − R) modulo 65536 (R15). -/
def Journal.used (q : Journal) : Nat := (q.writeCount - q.readCount).toNat

def State.used (s : State) (j : Fin 3) : Nat := (s.journalOf j).used

/-- Room: capacity less used (R15). -/
def State.room (s : State) (j : Fin 3) : Nat := journalCapacity j - s.used j

/-- The full flag follows used after each advance of W and each change of R (R16). -/
def Journal.refresh (j : Fin 3) (q : Journal) : Journal := { q with full := q.used == journalCapacity j }

/-- The watermark in force of a journal (R21). -/
def State.watermark (s : State) : Fin 3 → Nat
  | 0 => s.settings.active.sampleWatermark
  | 1 => s.settings.active.inputWatermark
  | 2 => s.settings.active.noticeWatermark

/-- The attention cause of a journal (R21). -/
def journalCause : Fin 3 → Cause
  | 0 => .sample | 1 => .input | 2 => .notice

/-- A record offered to a journal: with room, the whole record is written at position W AND (C − 1), W advances, the full
flag follows and the journal's cause is latched when used has reached the watermark; without room nothing is written
(R16, R19, R21). -/
def State.writeRecord (s : State) (j : Fin 3) (bytes : List Byte) : State :=
  if s.used j < journalCapacity j then
    let q := s.journalOf j
    let place := journalBase j + recordSize j * (q.writeCount.toNat % journalCapacity j)
    let s := s.setMem (s.mem.putBytes place bytes)
    let s := s.updJournalOf j fun q => Journal.refresh j { q with writeCount := q.writeCount + 1 }
    if s.watermark j ≤ s.used j then s.latch (journalCause j) else s
  else s

/-- One more dropped record, up to 65535 (R18, R20). -/
def State.countDrop (s : State) (j : Fin 3) : State :=
  s.updJournalOf j fun q => { q with drops := bump 65535 q.drops }

/-- The low n bytes of a number, least significant first. -/
def bytesLE : Nat → Nat → List Byte
  | 0, _ => []
  | n + 1, v => BitVec.ofNat 8 v :: bytesLE n (v / 256)

/-- A notice record (spec/01, "Notice record"); its sequence number is the W at which it is written (R20). -/
def State.noticeBytes (s : State) (kind : NoticeKind) (cause old new arg : Nat) : List Byte :=
  bytesLE 4 s.now.toNat ++ bytesLE 2 (s.journalOf noticeJournal).writeCount.toNat ++
    bytesLE 1 kind.code ++ bytesLE 1 cause ++ bytesLE 1 old ++ bytesLE 1 new ++ bytesLE 2 0 ++ bytesLE 4 arg

/-- Writes a notice, room having been found. -/
def State.writeNotice (s : State) (kind : NoticeKind) (cause old new arg : Nat) : State :=
  s.writeRecord noticeJournal (s.noticeBytes kind cause old new arg)

def State.setGap (s : State) (n : Nat) : State := s.updJournal fun u => { u with gap := n }

/-- The GAP notice carries the number of notices lost (R20). -/
def State.writeGap (s : State) : State := s.writeNotice .gap 0 0 0 s.journal.gap

/-- A notice is offered (R20's table). -/
def State.offerNotice (s : State) (kind : NoticeKind) (cause old new arg : Nat) : State :=
  let room := s.room noticeJournal
  if s.journal.gap = 0 then
    if 1 ≤ room then s.writeNotice kind cause old new arg
    else (s.countDrop noticeJournal).setGap 1
  else if 2 ≤ room then (s.writeGap.setGap 0).writeNotice kind cause old new arg
  else if room = 1 then (s.writeGap.countDrop noticeJournal).setGap 1
  else (s.countDrop noticeJournal).setGap (bump 65535 s.journal.gap)

/-- An Input record is written, room having been found; the quiet timer starts afresh (R19, R124). -/
def State.writeInput (s : State) (kind : InputKind) (code dx dy : Byte) (time : PartTime) : State :=
  let s := s.writeRecord inputJournal
    (bytesLE 1 kind.code ++ [code, dx, dy] ++ bytesLE 2 (time.toNat % 65536) ++ bytesLE 2 0)
  s.updJournal fun u => { u with quiet := s.start 20 }

/-! ## The fault table (R33, R34) -/

def State.setFault (s : State) (k : FaultKind) (e : FaultEntry) : State :=
  s.updSettings fun u => { u with faults := u.faults.set k.index e }

/-- A unit reports its fault active (R33). -/
def State.reportActive (s : State) (k : FaultKind) : State :=
  let e := s.faultEntry k
  if e.active then s
  else
    let count := bump 255 e.count
    let s := s.setFault k { active := true, count := count, firstActive := if e.count = 0 then s.now else e.firstActive }
    (s.latch .fault).offerNotice .fault k.index 0 1 count

/-- A unit reports its fault inactive (R34). -/
def State.reportInactive (s : State) (k : FaultKind) : State :=
  let e := s.faultEntry k
  if e.active then (s.setFault k { e with active := false }).offerNotice .fault k.index 1 0 e.count
  else s

end Sys2Proof.Machine
end

