-- ==== Sys2Proof/Machine/Slots.lean ====
section
/-! DEFINITION. The request dispatcher (spec/01, "The request slots" to "A slot's life"): slots, the post queue, taking and
finishing. -/

namespace Sys2Proof.Machine

/-- Slot n begins at 0x0500 + 64n. -/
def slotBase (n : Nat) : Nat := 0x0500 + 64 * n

def State.slotState (s : State) (n : Fin 32) : SlotState := s.dispatch.slots[n]

def State.setSlot (s : State) (n : Fin 32) (st : SlotState) : State :=
  s.updDispatch fun d => { d with slots := d.slots.set n st }

/-- The slot a unit is serving, if it is busy (R11). -/
def State.servingSlot (s : State) (u : ServingUnit) : Option (Fin 32) := s.dispatch.serving[u.index]

def State.setServing (s : State) (u : ServingUnit) (n : Option (Fin 32)) : State :=
  s.updDispatch fun d => { d with serving := d.serving.set u.index n }

/-- The request code in a slot. -/
def State.requestCode (s : State) (n : Fin 32) : Nat := (s.mem.get (slotBase n + 1)).toNat

/-- Parameter word i of a slot; the body cannot change while TAKEN, so it is the copy the unit serves from (R12). -/
def State.param (s : State) (n : Fin 32) (i : Nat) : Nat := s.mem.getLE (slotBase n + 4 + 4 * i) 4

/-- Writes consecutive words. -/
def Memory.putWords (m : Memory) (a : Nat) : List Word → Memory
  | [] => m
  | w :: ws => Memory.putWords (m.putLE a 4 w.toNat) (a + 4) ws

/-- Writes the result code, detail, result words and done time into a slot (R13). -/
def State.writeResult (s : State) (n : Fin 32) (code : ResultCode) (detail : Nat) (words : List Word) : State :=
  let b := slotBase n
  let m := (s.mem.putLE (b + 0x24) 2 code.code).putLE (b + 0x26) 2 detail
  s.setMem ((m.putWords (b + 0x28) words).putLE (b + 0x3C) 4 s.now.toNat)

/-- A request is finished: an abandoned slot becomes FREE without a result (R9); any other takes its result, becomes DONE
and REQUEST_DONE is latched (R13). -/
def State.finishSlot (s : State) (n : Fin 32) (code : ResultCode) (detail : Nat) (words : List Word) : State :=
  if s.slotState n = .taken true then s.setSlot n .free
  else ((s.writeResult n code detail words).setSlot n .done).latch .requestDone

/-- A unit finishes its request and becomes idle; the dispatcher considers the queue (R13; log 11). -/
def State.finishUnit (s : State) (u : ServingUnit) (code : ResultCode) (detail : Nat) (words : List Word) : State :=
  match s.servingSlot u with
  | none => s
  | some n => ((s.finishSlot n code detail words).setServing u none).handLast .considerQueue

/-- A TAKEN slot is cancelled: CANCELLED and the done time are written, the slot becomes FREE, the unit idle (R9). -/
def State.cancelSlot (s : State) (u : ServingUnit) (n : Fin 32) : State :=
  let b := slotBase n
  let s := s.setMem ((s.mem.putLE (b + 0x24) 2 ResultCode.cancelled.code).putLE (b + 0x3C) 4 s.now.toNat)
  ((s.setSlot n .free).setServing u none).handLast .considerQueue

/-- An entry is takeable when its code names an idle unit, or no unit (R11). -/
def State.takeable (s : State) (n : Fin 32) : Bool :=
  match Request.ofCode (s.requestCode n) with
  | none => true
  | some r => (s.servingSlot r.servedBy).isNone

/-- The dispatcher takes a slot (R12); a code that names no unit is finished as BAD_REQUEST in the same event. -/
def State.takeSlot (s : State) (n : Fin 32) : State :=
  let b := slotBase n
  let s := s.updDispatch fun d => { d with queue := d.queue.filter (· ≠ n) }
  let m := s.mem.putBytes (b + 0x24) (List.replicate 20 0)
  let s := s.setMem ((m.putLE (b + 0x38) 4 s.now.toNat).putLE (b + 0x3C) 4 0)
  let s := s.setSlot n (.taken false)
  match Request.ofCode (s.requestCode n) with
  | none => (s.finishSlot n .badRequest (s.requestCode n) []).handLast .considerQueue
  | some r => ((s.setServing r.servedBy (some n)).hand [.serve n r]).handLast .considerQueue

/-- The dispatcher considers the post queue: it takes the oldest takeable entry, and then considers again (R11). -/
def State.considerQueue (s : State) : State :=
  if s.isRunning then
    match s.dispatch.queue.find? (fun n => s.takeable n) with
    | none => s
    | some n => s.takeSlot n
  else s

/-- A POST of slot n (R7). -/
def State.postSlot (s : State) (n : Fin 32) : State :=
  if s.slotState n = .free then
    ((s.setSlot n .posted).updDispatch fun d => { d with queue := d.queue ++ [n] }).handLast .considerQueue
  else s.recordError .postNotFree (8 * n) .control

end Sys2Proof.Machine
end

