-- ==== Sys2Proof/Machine/Sensor.lean ====
section
/-! DEFINITION. The sensor sequencer (spec/03): the sample period, the lid read, the base holding register, the hall lines,
the sample set and the Sample record. -/

namespace Sys2Proof.Machine

/-- The sample period in force for the part power state (R50); in STANDBY the timer is stopped and P stands. -/
def State.periodInForce (s : State) : Nat :=
  match s.sleep.power with
  | .active => s.settings.active.periodActive
  | .doze => s.settings.active.periodDoze
  | .standby => s.sensor.period

/-- Starts a period with the length in force; a length other than P becomes P and RATE is offered (R50, R51). -/
def State.startPeriod (s : State) : State :=
  let length := s.periodInForce
  let s' := s.updSensor fun u => { u with timer := s.start length, period := length }
  if length = s.sensor.period then s' else s'.hand [.offerRate]

/-- At a period expiry a lid read begins, with the length of the period that ended, and the next period starts (R42, R50). -/
def State.periodExpired (s : State) : State :=
  (s.updSensor fun u => { u with read := .inFlight u.period }).startPeriod

/-- A change of the part power state at the sequencer (R52, R53). -/
def State.sensorPower (s : State) (before : PowerState) : State :=
  if s.sleep.power = .standby then
    s.updSensor fun u =>
      { u with
        timer := none
        read := (match u.read with | .inFlight _ => .discarding | r => r)
        holding := none }
  else if before = .standby then s.startPeriod
  else s

/-- The attachment state has become DETACHED: the holding register is emptied (R47). -/
def State.sensorAttach (s : State) : State := s.updSensor fun u => { u with holding := none }

/-- A BASE_SAMPLE payload is handed to the sequencer (R46). -/
def State.holdBaseSample (s : State) (x y z : Half) : State :=
  if s.sensor.timer.isSome then
    s.updSensor fun u =>
      { u with holding := some { x := sensorWord x, y := sensorWord y, z := sensorWord z, arrival := s.now } }
  else s

/-! ## The hall lines (R48, R49) -/

def SensorUnit.hall (u : SensorUnit) : HallLine → DebouncedLine
  | .lidClosed => u.lidClosed
  | .foldBack => u.foldBack

def State.updHall (s : State) (l : HallLine) (f : DebouncedLine → DebouncedLine) : State :=
  match l with
  | .lidClosed => s.updSensor fun u => { u with lidClosed := f u.lidClosed }
  | .foldBack => s.updSensor fun u => { u with foldBack := f u.foldBack }

/-- A hall line's level changes; while BOOTING the lines are not watched (R48). -/
def State.hallChange (s : State) (l : HallLine) (active : Bool) : State :=
  if s.isRunning then s.updHall l fun d => d.change active (s.start 20)
  else s.updHall l fun d => d.unwatched active

/-- The debounced level takes the line's level; LID_CLOSED going inactive is the LID_OPEN wake source (R48, R49). -/
def State.hallSettle (s : State) (l : HallLine) : State :=
  let was := (s.sensor.hall l).level
  let s := s.updHall l DebouncedLine.settle
  if l = .lidClosed ∧ was = true ∧ (s.sensor.hall l).level = false then s.hand [.wakeEvent .lidOpen] else s

/-! ## The sample set -/

/-- The runs of failed and good reads and the LID_SENSOR reports (R44, R45). -/
def State.judgeRead (s : State) (good : Bool) : State :=
  if good then
    let s := s.updSensor fun u => { u with failRun := 0, goodRun := bump 10 u.goodRun }
    if s.sensor.goodRun = 10 then s.reportInactive .lidSensor else s
  else
    let s := s.updSensor fun u => { u with goodRun := 0, failRun := bump 3 u.failRun }
    if s.sensor.failRun = 3 then s.reportActive .lidSensor else s

/-- The base sample is FRESH when the register holds a reading no older than twice the period of the set (R55). -/
def State.freshReading (s : State) (period : Nat) : Option BaseReading :=
  match s.sensor.holding with
  | none => none
  | some h => if elapsed s.now h.arrival ≤ 2 * period then some h else none

/-- Assembles the sample set of a read judged before (R55, R56). -/
def State.assembleSet (s : State) (good : Bool) (x y z : Half) (period : Nat) : SampleSet :=
  let lid (w : Half) : Int := if good then sensorWord w else 0
  let reading := s.freshReading period
  let base := reading.getD { x := 0, y := 0, z := 0, arrival := 0 }
  { seq := s.sensor.seq
    time := s.now
    lidGood := good
    lidSensor := (s.faultEntry .lidSensor).active
    lidX := lid x, lidY := lid y, lidZ := lid z
    fresh := reading.isSome
    baseX := base.x, baseY := base.y, baseZ := base.z
    saturated := atLimit (lid x) || atLimit (lid y) || atLimit (lid z) ||
      atLimit base.x || atLimit base.y || atLimit base.z
    lidClosed := s.sensor.lidClosed.level
    foldBack := s.sensor.foldBack.level
    period := period }

/-- A set is handed on: the read is over, the counter advances, a reading found STALE leaves the register (R47, R57). -/
def State.handSet (s : State) (set : SampleSet) : State :=
  s.updSensor fun u =>
    { u with read := .idle, seq := u.seq + 1, holding := if set.fresh then u.holding else none }

/-- A signed 16-bit field of a record. -/
def signed16 (i : Int) : List Byte := bytesLE 2 (BitVec.ofInt 16 i).toNat

def boolNat (b : Bool) : Nat := if b then 1 else 0

/-- The Sample record of a set (R59; spec/01, "Sample record"). -/
def State.sampleBytes (s : State) (set : SampleSet) (r : AngleResult) : List Byte :=
  bytesLE 4 set.time.toNat ++ bytesLE 2 set.seq.toNat ++
    bytesLE 2 (boolNat (!set.fresh) + 2 * boolNat set.saturated + 4 * boolNat r.degenerateLid +
      8 * boolNat r.degenerateBase + 16 * boolNat set.lidClosed + 32 * boolNat set.foldBack +
      64 * s.angle.quality.code) ++
    signed16 set.lidX ++ signed16 set.lidY ++ signed16 set.lidZ ++
    signed16 set.baseX ++ signed16 set.baseY ++ signed16 set.baseZ ++
    bytesLE 2 r.difference ++ bytesLE 2 s.angle.reported ++ bytesLE 2 r.lidAngle ++ bytesLE 2 r.baseAngle ++
    bytesLE 4 0

/-- In ACTIVE the Sample record is offered: written, or dropped and counted without room (R18, R58). -/
def State.offerSample (s : State) (set : SampleSet) (r : AngleResult) : State :=
  if s.sleep.power = .active then
    if 1 ≤ s.room sampleJournal then s.writeRecord sampleJournal (s.sampleBytes set r)
    else s.countDrop sampleJournal
  else s

end Sys2Proof.Machine
end

