-- ==== Sys2Proof/Machine/Angle.lean ====
section
/-! DEFINITION. The angle unit (spec/04): eligibility, projection, frame angles, raw difference, unwrap, hall substitution,
the filter, and CALIBRATE_HINGE. -/

namespace Sys2Proof.Machine

/-- What stages 1 and 2 make of a set (R62, R63). -/
inductive Eligibility where
  | unavailable (loss : Loss)
  | skipped (degenerateLid degenerateBase : Bool)
  | computed
  deriving DecidableEq, Repr

/-- Stages 1 and 2: the tests of R62 in their order, then the projection magnitudes of both frames (R63). -/
def State.eligibility (s : State) (set : SampleSet) : Eligibility :=
  if !set.lidGood || set.lidSensor then .unavailable .signal
  else if !set.fresh || !s.baseAttached then .unavailable .base
  else if set.saturated then .skipped false false
  else
    let lid := decide (magnitude set.lidY set.lidZ < s.settings.active.minProj)
    let base := decide (magnitude set.baseY set.baseZ < s.settings.active.minProj)
    if lid || base then .skipped lid base else .computed

/-- The hall check, made for every set (R61). -/
def State.checkHalls (s : State) (set : SampleSet) : State :=
  if set.lidClosed && set.foldBack then s.reportActive .hallConflict else s.reportInactive .hallConflict

/-- The raw difference d = (θb − θl + OFFSET + C) modulo 4096 (R67). -/
def rawDifference (baseAngle lidAngle offset : Nat) (correction : Int) : Nat :=
  (((baseAngle : Int) - lidAngle + offset + correction) % 4096).toNat

/-- Whether a raw difference lies in the wrap zone (R68). -/
def inWrapZone (d : Nat) : Bool := decide (d < 256) || decide (3840 < d)

/-- The side memory after a set that reaches stage 5 (R68). -/
def sideAfter (side : Side) (d : Nat) (lidClosed foldBack : Bool) : Side :=
  if inWrapZone d then
    match lidClosed, foldBack with
    | true, false => .low
    | false, true => .high
    | _, _ => side
  else if d < 2048 then .low else .high

/-- The unwrap (R69). -/
def unwrap (side : Side) (d : Nat) : Nat :=
  if d < 256 then (match side with | .low => d | .high => 4096)
  else if 3840 < d then (match side with | .low => 0 | .high => d)
  else d

/-- The accumulator after a set with hinge angle a (R72): seeded, or moved by floor((16a − A) / 2^k). -/
def filterStep (hasValue : Bool) (acc a k : Nat) : Nat :=
  if hasValue then ((acc : Int) + (16 * (a : Int) - acc) / 2 ^ k).toNat else 16 * a

/-- A set with a hinge angle is brought to the filter (R72). -/
def State.filter (s : State) (a : Nat) (q : Quality) (side : Side) : State :=
  let acc := filterStep s.angle.hasValue s.angle.accumulator a s.settings.active.filterShift
  s.updAngle fun u =>
    { u with side := side, accumulator := acc, reported := (acc + 8) / 16, hasValue := true
             holdCount := 0, quality := q }

/-- The substituted angle and side of a set without a computed angle (R71). -/
def State.hallAngle (s : State) (set : SampleSet) : Option (Nat × Side) :=
  if s.baseAttached then
    match set.lidClosed, set.foldBack with
    | true, false => some (0, .low)
    | false, true => some (4096, .high)
    | _, _ => none
  else none

/-- A skipped set that is not substituted (R73). -/
def State.holdSet (s : State) : State :=
  s.updAngle fun u =>
    if u.hasValue then
      if u.holdCount + 1 < 25 then { u with holdCount := u.holdCount + 1, quality := .held }
      else { u with holdCount := 0, hasValue := false, quality := .unavailable }
    else { u with holdCount := 0, quality := .unavailable }

/-- An unavailable set that is not substituted (R74). -/
def State.loseSet (s : State) : State :=
  s.updAngle fun u => { u with hasValue := false, holdCount := 0, quality := .unavailable }

/-- Stages 3 to 6 of a set that reaches them (R66 to R69, R72). -/
def State.computeSet (s : State) (set : SampleSet) : State × AngleResult :=
  let lid := atan2 set.lidY set.lidZ
  let base := atan2 set.baseY set.baseZ
  let d := rawDifference base lid s.settings.active.offset s.angle.correction
  let side := sideAfter s.angle.side d set.lidClosed set.foldBack
  (s.filter (unwrap side d) .good side,
    { difference := d, lidAngle := lid, baseAngle := base, degenerateLid := false, degenerateBase := false
      loss := .signal })

/-- The angle unit takes a sample set through its stages (R60); it returns the values of the Sample record (R75). -/
def State.angleSet (s : State) (set : SampleSet) : State × AngleResult :=
  let s := s.checkHalls set
  let left (lid base : Bool) (loss : Loss) : AngleResult :=
    { difference := 0, lidAngle := 0, baseAngle := 0, degenerateLid := lid, degenerateBase := base, loss := loss }
  match s.eligibility set with
  | .computed => s.computeSet set
  | .skipped lid base =>
    match s.hallAngle set with
    | some (a, side) => (s.filter a .hall side, left lid base .signal)
    | none => (s.holdSet, left lid base .signal)
  | .unavailable loss =>
    match s.hallAngle set with
    | some (a, side) => (s.filter a .hall side, left false false loss)
    | none => (s.loseSet, left false false loss)

/-! ## CALIBRATE_HINGE (R77 to R82) -/

def State.setCalibration (s : State) (c : Option Calibration) : State :=
  s.updAngle fun u => { u with calibration := c }

/-- A calibration begins collecting (R77). -/
def State.beginCalibration (s : State) : State := s.setCalibration (some { run := 0, sum := 0, sets := 0 })

/-- A calibration in progress ends FAILED (R80). -/
def State.failCalibration (s : State) (detail : Nat) : State :=
  match s.angle.calibration with
  | none => s
  | some c => (s.setCalibration none).finishUnit .angle .failed detail [word c.run, word c.sets]

/-- The correction that cancels a mean uncorrected difference (R78). -/
def correctionFor (mean : Int) : Int := min 511 (-mean)

/-- The run count has reached 32: C is set from the mean, or the request is refused NOT_CLOSED (R78). -/
def State.completeCalibration (s : State) (sum : Int) : State :=
  let mean := (sum + 16) / 32
  let before := s.angle.correction
  let s := s.setCalibration none
  if -512 ≤ mean ∧ mean ≤ 512 then
    let c := correctionFor mean
    (s.updAngle fun u => { u with correction := c }).finishUnit .angle .ok 0
      [wordOfInt c, wordOfInt sum, wordOfInt before]
  else s.finishUnit .angle .badParameter 3 [0, wordOfInt sum, wordOfInt before]

/-- The uncorrected difference d0, counted with its sign (R77). -/
def uncorrected (d : Nat) (correction : Int) : Int :=
  let d0 := ((d : Int) - correction) % 4096
  if 3841 ≤ d0 then d0 - 4096 else d0

/-- A collecting calibration takes a processed set (R77). An UNAVAILABLE set is answered by its loss, the two hundredth too
(R80; log 35). -/
def State.calibrateSet (s : State) (r : AngleResult) : State :=
  match s.angle.calibration with
  | none => s
  | some c =>
    let c := { c with sets := c.sets + 1 }
    match s.angle.quality with
    | .unavailable =>
      (s.setCalibration (some c)).failCalibration (match r.loss with | .base => 1 | .signal => 2)
    | .good =>
      let c := { c with sum := c.sum + uncorrected r.difference s.angle.correction, run := c.run + 1 }
      let s := s.setCalibration (some c)
      if c.run = 32 then s.completeCalibration c.sum
      else if c.sets = 200 then s.failCalibration 2 else s
    | .held | .hall =>
      let s := s.setCalibration (some { c with run := 0, sum := 0 })
      if c.sets = 200 then s.failCalibration 2 else s

/-- An APPLY_SETTINGS that changes OFFSET restarts the collection; the set count goes on (R82). -/
def State.restartCollection (s : State) : State :=
  s.updAngle fun u => { u with calibration := u.calibration.map fun c => { c with run := 0, sum := 0 } }

/-- The attachment state has become DETACHED (R76). -/
def State.angleDetached (s : State) : State :=
  (s.updAngle fun u => { u with quality := .unavailable, hasValue := false, holdCount := 0 }).failCalibration 1

/-- The part power state has become STANDBY (R80, R174). -/
def State.angleStandby (s : State) : State := s.failCalibration 2

/-- The side memory at the end of the self-check (R70). -/
def State.seedSide (s : State) (foldBack : Bool) : State :=
  s.updAngle fun u => { u with side := if foldBack then .high else .low }

end Sys2Proof.Machine
end

