-- ==== Sys2Proof/Machine/Posture.lean ====
section
/-! DEFINITION. The posture unit (spec/05): base pose, the posture band table and its load, candidates and dwell, the
commit, display orientation, rotation gating and the rotation lock. -/

namespace Sys2Proof.Machine

/-! ## The committed posture's flags (R85, R86) -/

/-- The record of the committed band in the active table. -/
def State.committedBand (s : State) : Option Band :=
  match s.posture.band with
  | none => none
  | some i => s.settings.table[i]?

/-- A flag of the committed posture: fixed for DETACHED and UNKNOWN, the band's otherwise (R85). -/
def State.postureFlag (s : State) (detached unknown : Bool) (flag : Band → Bool) : Bool :=
  match s.posture.posture with
  | .detached => detached
  | .unknown => unknown
  | .closed | .laptop | .stand | .tent | .tablet =>
    match s.committedBand with
    | some b => flag b
    | none => false

def State.keyboardAllowed (s : State) : Bool := s.postureFlag false true (·.keyboard)
def State.touchpadAllowed (s : State) : Bool := s.postureFlag false true (·.touchpad)
def State.rotationAllowed (s : State) : Bool := s.postureFlag true false (·.rotation)

/-- The detach-allowed flag; for UNKNOWN the detach-allowed default in force (R85, R131). -/
def State.detachAllowed (s : State) : Bool :=
  s.postureFlag false (s.settings.active.detachAllowed == 1) (·.detachAllowed)

/-- The idle timeout of the committed posture in seconds, none for never (R85, R176). -/
def State.idleTimeout (s : State) : Option Nat :=
  let seconds : Nat :=
    match s.posture.posture with
    | .detached => s.settings.active.detachedIdle
    | .unknown => 0
    | .closed | .laptop | .stand | .tent | .tablet =>
      match s.committedBand with
      | some b => b.idleTimeout
      | none => 0
  if seconds = 0 then none else some seconds

/-! ## Bands -/

def PoseCondition.admits : PoseCondition → BasePose → Bool
  | .any, _ => true
  | .flat, p => p == .flat
  | .upright, p => p == .upright

/-- A band matches an angle and a base pose (R85). -/
def Band.fits (b : Band) (angle : Nat) (pose : BasePose) : Bool :=
  decide (b.lower ≤ angle) && decide (angle ≤ b.upper) && b.pose.admits pose

/-- The committed band is kept within its bounds widened by its margin; the widened range is not clipped (R89). -/
def Band.keeps (b : Band) (angle : Nat) (pose : BasePose) : Bool :=
  b.pose.admits pose && decide (b.lower ≤ angle + b.margin) && decide (angle ≤ b.upper + b.margin)

/-- The first band in table order that matches, with its index. -/
def firstFit (angle : Nat) (pose : BasePose) : Nat → List Band → Option (Nat × Band)
  | _, [] => none
  | i, b :: bs => if b.fits angle pose then some (i, b) else firstFit angle pose (i + 1) bs

def State.firstBand (s : State) : Option (Nat × Band) :=
  firstFit s.posture.lastAngle s.posture.basePose 0 s.settings.table

/-! ## Orientation commits (R100, R101, R102) -/

/-- An orientation commit (R101); the orientation already committed is not committed again. -/
def State.commitOrientation (s : State) (o : Orientation) (cause : Nat) : State :=
  let before := s.posture.oriented
  let s := s.updPosture fun u => { u with orientationCandidate := o, orientationDwell := none }
  if before = o then s
  else
    let s := (s.updPosture fun u => { u with oriented := o }).touchBoard.latch .posture
    (s.offerNotice .orientation cause before.code o.code 0).hand [.activity]

/-- The comparison of R100: the sensed orientation becomes the candidate and starts, keeps or stops the dwell; a dwell of
0 commits at once. -/
def State.compareOrientation (s : State) : State :=
  if s.posture.sensed = s.posture.oriented then
    s.updPosture fun u => { u with orientationCandidate := u.oriented, orientationDwell := none }
  else if s.posture.orientationDwell.isSome ∧ s.posture.orientationCandidate = s.posture.sensed then s
  else if s.settings.active.orientationDwell = 0 then s.commitOrientation s.posture.sensed 0
  else
    let expiry := s.start s.settings.active.orientationDwell
    s.updPosture fun u => { u with orientationCandidate := u.sensed, orientationDwell := expiry }

/-- R102, at a commit, a band refresh and a fresh evaluation, in STANDBY as elsewhere (log 36). -/
def State.gateRotation (s : State) : State :=
  if s.rotationAllowed then
    match s.posture.lock with
    | some o => s.commitOrientation o 3
    | none => s.compareOrientation
  else s.commitOrientation .landscape 1

/-! ## Posture commits (R92) -/

/-- A commit (R92): publication, then POSTURE and its notice, then R102, in the order the rule lists them (log 1). -/
def State.commitPosture (s : State) (p : Posture) (band : Option Nat) (cause : Nat) : State :=
  let before := s.posture.posture
  let s := s.updPosture fun u => { u with posture := p, band := band, candidate := none, dwell := none }
  s.touchBoard.hand [.publishFlags, .sleepCommit before, .reportPosture before cause, .gateRotation]

/-- POSTURE is latched and the POSTURE notice offered (R92). -/
def State.reportPosture (s : State) (before : Posture) (cause : Nat) : State :=
  (s.latch .posture).offerNotice .posture cause before.code s.posture.posture.code s.posture.lastAngle

/-- DETACHED is committed at once (R95). Where it is committed already nothing is done, and an unavailable timer that runs
runs on (log 34). -/
def State.commitDetached (s : State) : State :=
  if s.posture.posture = .detached then s
  else
    (s.updPosture fun u => { u with dwell := none, unavailable := none, outOfTable := false }).commitPosture
      .detached none 1

/-- A fresh evaluation (R88). -/
def State.freshEvaluation (s : State) (cause : Nat) : State :=
  let s := s.updPosture fun u => { u with dwell := none, unavailable := none, candidate := none }
  let settle (s : State) (p : Posture) (band : Option Nat) : State :=
    if p = s.posture.posture ∧ band = s.posture.band then
      (if band.isSome then s.hand [.publishFlags, .sleepRefresh, .gateRotation] else s.hand [.gateRotation])
    else s.commitPosture p band cause
  if s.posture.posture = .detached then s.hand [.gateRotation]
  else if s.baseAttached ∧ s.posture.lastQuality ≠ .unavailable then
    match s.firstBand with
    | some (i, b) => settle (s.updPosture fun u => { u with outOfTable := false }) b.posture (some i)
    | none => settle (s.updPosture fun u => { u with outOfTable := true }) .unknown none
  else settle s .unknown none

/-! ## The posture evaluation of a set -/

/-- The base pose (R84). -/
def poseAfter (pose : BasePose) (fresh : Bool) (z : Int) : BasePose :=
  if fresh then
    if 3547 ≤ z.natAbs then .flat else if z.natAbs ≤ 2048 then .upright else pose
  else .unknown

/-- The candidate goes to the dwell (R91); a dwell of 0 commits in the event of the set (log 19). -/
def State.considerBand (s : State) (i : Nat) (b : Band) : State :=
  if s.posture.dwell.isSome ∧ s.posture.candidate = some i then s
  else if s.settings.active.postureDwell = 0 then s.commitPosture b.posture (some i) 0
  else
    let expiry := s.start s.settings.active.postureDwell
    s.updPosture fun u => { u with candidate := some i, dwell := expiry }

/-- The candidate is the committed band: the dwell is stopped (R91). -/
def State.keepBand (s : State) : State := s.updPosture fun u => { u with candidate := none, dwell := none }

/-- The evaluation while a band posture is committed (R89, R90). -/
def State.evaluateBand (s : State) : State :=
  let flag (b : Bool) (s : State) : State := s.updPosture fun u => { u with outOfTable := b }
  let kept := match s.committedBand with
    | some b => b.keeps s.posture.lastAngle s.posture.basePose
    | none => false
  if kept then (flag false s).keepBand
  else
    match s.firstBand with
    | none => (flag true s).keepBand
    | some (i, b) =>
      if s.posture.band = some i then (flag false s).keepBand else (flag false s).considerBand i b

/-- The evaluation while DETACHED or UNKNOWN is committed (R93). -/
def State.evaluateUnbanded (s : State) : State :=
  match s.firstBand with
  | some (i, b) => (s.updPosture fun u => { u with outOfTable := false }).commitPosture b.posture (some i) 3
  | none =>
    let s := s.updPosture fun u => { u with outOfTable := true }
    if s.posture.posture = .detached then s.commitPosture .unknown none 3 else s

/-- A set of quality UNAVAILABLE (R94); while the base is SEATING a committed DETACHED is kept and the timer stopped. -/
def State.evaluateLost (s : State) : State :=
  let s := s.keepBand
  if s.attach.state = .seating ∧ s.posture.posture = .detached then
    s.updPosture fun u => { u with unavailable := none }
  else if s.posture.posture ≠ .unknown ∧ s.posture.unavailable = none then
    let expiry := s.start 2000
    s.updPosture fun u => { u with unavailable := expiry }
  else s

/-- The posture evaluation of a set (R89, R93, R94, R95). -/
def State.evaluatePosture (s : State) : State :=
  match s.attach.state with
  | .detached => s.commitDetached
  | .seating => s.evaluateLost
  | .attached | .degraded | .releasing | .awaitingRemoval =>
    match s.posture.lastQuality with
    | .unavailable => s.evaluateLost
    | .good | .held | .hall =>
      let s := s.updPosture fun u => { u with unavailable := none }
      match s.posture.posture with
      | .detached | .unknown => s.evaluateUnbanded
      | .closed | .laptop | .stand | .tent | .tablet => s.evaluateBand

/-- The posture unit takes a set (R83): angle and quality stored, base pose, posture, then orientation. The angle is the
reported one for a HALL quality too (log 30). -/
def State.postureSet (s : State) (set : SampleSet) : State :=
  let s := s.updPosture fun u =>
    { u with lastAngle := s.angle.reported, lastQuality := s.angle.quality
             basePose := poseAfter u.basePose set.fresh set.baseZ }
  (s.hand [.evaluateOrientation set]).evaluatePosture

/-- At the posture dwell expiry the candidate band is committed with cause DWELL (R91). -/
def State.dwellExpired (s : State) : State :=
  match s.posture.candidate with
  | none => s.keepBand
  | some i =>
    match s.settings.table[i]? with
    | some b => s.commitPosture b.posture (some i) 0
    | none => s.keepBand

/-- At the unavailable timer's expiry UNKNOWN is committed with cause SIGNAL_LOST (R94), whatever the attachment state
(log 34). -/
def State.signalLost (s : State) : State :=
  (s.updPosture fun u => { u with unavailable := none }).commitPosture .unknown none 2

/-! ## Orientation of a set (R98, R99) -/

/-- The circular distance between two circular angles (R99). -/
def circularDistance (a b : Nat) : Nat :=
  let d := (a + 4096 - b) % 4096
  min d (4096 - d)

/-- The sensed orientation after a set with in-plane angle ω (R99). -/
def sensedAfter (sensed : Orientation) (omega h : Nat) : Orientation :=
  if 512 + h < circularDistance omega (1024 * sensed.code) then Orientation.ofCode ((omega + 512) / 1024)
  else sensed

/-- The orientation evaluation of a set (R98, R99, R100). -/
def State.evaluateOrientation (s : State) (set : SampleSet) : State :=
  if set.lidGood && !set.lidSensor && !(atLimit set.lidX || atLimit set.lidY || atLimit set.lidZ) then
    if magnitude set.lidX set.lidY < s.settings.active.flatMin then
      s.updPosture fun u => { u with flat := true }
    else
      let omega := atan2 set.lidX set.lidY
      let h := s.settings.active.rotationHysteresis
      let s := s.updPosture fun u => { u with flat := false, sensed := sensedAfter u.sensed omega h }
      if s.rotationAllowed ∧ s.posture.lock = none then s.compareOrientation else s
  else s

/-- At the orientation dwell expiry the candidate is committed with cause DWELL (R100), in STANDBY too (log 36). -/
def State.orientationDwellExpired (s : State) : State := s.commitOrientation s.posture.orientationCandidate 0

/-- Entry to STANDBY at the posture unit (R97). -/
def State.posturePower (s : State) : State :=
  if s.sleep.power = .standby then
    s.updPosture fun u =>
      { u with dwell := none, unavailable := none, orientationDwell := none, candidate := none
               orientationCandidate := u.oriented }
  else s

/-- What host reset does at the posture unit before its fresh evaluation (R96). -/
def State.resetPosture (s : State) : State :=
  s.updPosture fun u =>
    { u with dwell := none, unavailable := none, orientationDwell := none, candidate := none, lock := none
             orientationCandidate := u.oriented }

/-! ## SET_ROTATION_LOCK (R103, R104) -/

/-- The lock set or released (R103, R104), in STANDBY as elsewhere (log 36). -/
def State.lockRotation (s : State) (word0 word1 : Nat) : State :=
  if 1 < word0 then s.finishUnit .posture .badParameter 0 []
  else if word0 = 1 then
    if 3 < word1 ∧ word1 ≠ 255 then s.finishUnit .posture .badParameter 1 []
    else
      let o := if word1 = 255 then s.posture.oriented else Orientation.ofCode word1
      let wasOff := s.posture.lock.isNone
      let s := s.updPosture fun u => { u with lock := some o, orientationDwell := none }
      let s := (s.touchWhen wasOff).hand [.finishLock (word o.code)]
      if s.rotationAllowed then s.commitOrientation o 2
      else s.updPosture fun u => { u with orientationCandidate := u.oriented }
  else
    let wasOn := s.posture.lock.isSome
    let s := ((s.updPosture fun u => { u with lock := none }).touchWhen wasOn).hand [.finishLock 255]
    if wasOn ∧ s.rotationAllowed then s.compareOrientation else s

def State.finishLock (s : State) (shown : Word) : State :=
  s.finishUnit .posture .ok 0 [shown, word s.posture.oriented.code]

/-! ## LOAD_POSTURE_TABLE (R87) -/

/-- Band i of Staging. -/
def stagingBase (i : Nat) : Nat := 0x0E00 + 32 * i

/-- The first fault of a band of Staging in the order of R87's table: its reason code, or the band. -/
def Memory.readBand (m : Memory) (i : Nat) : Band ⊕ Nat :=
  let a := stagingBase i
  let lower := m.getLE (a + 4) 2
  let upper := m.getLE (a + 6) 2
  let margin := m.getLE (a + 8) 2
  let detach := m.getLE (a + 3) 1
  match Posture.ofBandCode (m.getLE a 1) with
  | none => .inr 1
  | some p =>
    match PoseCondition.ofCode (m.getLE (a + 1) 1) with
    | none => .inr 2
    | some c =>
      if upper < lower then .inr 3
      else if 4096 < upper then .inr 4
      else if 455 < margin then .inr 5
      else if 1 < detach then .inr 6
      else
        .inl { posture := p, lower := lower, upper := upper, margin := margin, pose := c
               keyboard := (m.get (a + 2)).getLsbD 0, touchpad := (m.get (a + 2)).getLsbD 1
               rotation := (m.get (a + 2)).getLsbD 2, idleTimeout := m.getLE (a + 10) 2
               detachAllowed := detach == 1 }

/-- Bands i to i + n − 1 of Staging, or the index and reason of the first with a fault. -/
def Memory.readBands (m : Memory) (i : Nat) : Nat → List Band ⊕ (Nat × Nat)
  | 0 => .inl []
  | n + 1 =>
    match m.readBand i with
    | .inr reason => .inr (i, reason)
    | .inl b =>
      match Memory.readBands m (i + 1) n with
      | .inl bs => .inl (b :: bs)
      | .inr e => .inr e

/-- LOAD_POSTURE_TABLE (R87). -/
def State.loadTable (s : State) (n : Nat) : State :=
  if n = 0 ∨ 16 < n then s.finishUnit .settings .badParameter 0 []
  else
    match s.mem.readBands 0 n with
    | .inr (i, reason) => s.finishUnit .settings .badParameter 1 [word i, word reason]
    | .inl bands =>
      (s.updSettings fun u => { u with table := bands }).hand [.freshEvaluation 4, .finishLoad n]

/-- The committed band index as software sees it: 255 for none. -/
def State.bandShown (s : State) : Nat := s.posture.band.getD 255

def State.finishLoad (s : State) (n : Nat) : State :=
  s.finishUnit .settings .ok 0 [word n, word s.posture.posture.code, word s.bandShown]

end Sys2Proof.Machine
end

