-- ==== Sys2Proof/Machine/Link.lean ====
section
/-! DEFINITION. The base link unit (spec/06): the transmit list, the link states, the receive queue and HOLD, the input
gate, Input records and owed releases; and the watch on VBASE that its hold-off can turn on and off (R171). -/

namespace Sys2Proof.Machine

/-! ## VBASE under the base supply monitor (R171) -/

/-- After a change that may turn VBASE on or off: turning off stops the under-voltage timer, turning on while the voltage
is below 4.5 V starts it for 10 ms (R171). -/
def State.watchVbase (before after : State) : State :=
  if before.vbaseOn && !after.vbaseOn then after.updAllot fun u => { u with underVoltage := none }
  else if !before.vbaseOn && after.vbaseOn && after.allot.voltageLow then
    let expiry := after.start 10
    after.updAllot fun u => { u with underVoltage := expiry }
  else after

/-- The VBASE hold-off changes. -/
def State.setHoldOff (s : State) (b : Bool) : State :=
  s.watchVbase (s.updLink fun u => { u with holdOff := b })

/-! ## Sending (R107) -/

/-- Whether two packets to the base are of one kind. -/
def PartPacket.sameKind : PartPacket → PartPacket → Bool
  | .welcome _ _, .welcome _ _ => true
  | .rate _, .rate _ => true
  | .light _, .light _ => true
  | .quiesce, .quiesce => true
  | .resume, .resume => true
  | _, _ => false

/-- Sending is allowed for WELCOME in GREETING and for every kind in READY and QUIESCED. -/
def LinkState.allows (l : LinkState) : PartPacket → Bool
  | .welcome _ _ => l == .greeting || l == .ready || l == .quiesced
  | _ => l == .ready || l == .quiesced

/-- A RATE or LIGHT takes the place of a pending one of its kind. -/
def PartPacket.replaces : PartPacket → Bool
  | .rate _ => true
  | .light _ => true
  | _ => false

/-- The transmit list after an allowed offer. -/
def offerTo (list : List PartPacket) (p : PartPacket) : List PartPacket :=
  if list.any (fun q => q.sameKind p) then
    if p.replaces then list.map fun q => if q.sameKind p then p else q
    else (list.filter fun q => !q.sameKind p) ++ [p]
  else list ++ [p]

/-- A packet as its sending starts: WELCOME carries P as it stands then (R51). -/
def PartPacket.atSending (period : Nat) : PartPacket → PartPacket
  | .welcome _ l => .welcome period l
  | p => p

/-- The values last sent follow a packet whose sending starts. -/
def LinkUnit.noteSent (u : LinkUnit) : PartPacket → LinkUnit
  | .welcome p l => { u with lastPeriodSent := p, lastLevelSent := l }
  | .rate p => { u with lastPeriodSent := p }
  | .light l => { u with lastLevelSent := l }
  | _ => u

/-- The transmitter, if free, takes the oldest entry whose sending is allowed (log 15). -/
def LinkUnit.send (period : Nat) (u : LinkUnit) : LinkUnit :=
  match u.sending with
  | some _ => u
  | none =>
    match u.transmitList.find? fun p => u.state.allows p with
    | none => u
    | some p =>
      let sent := p.atSending period
      { u.noteSent sent with sending := some sent, transmitList := u.transmitList.filter fun q => !q.sameKind p }

/-- The transmitter is looked to: it may be free, or a change of state may have allowed an entry. -/
def State.sendNext (s : State) : State := s.updLink (LinkUnit.send s.sensor.period)

/-- A packet is offered (R107): a refused RATE is discarded, a LIGHT that cannot be sent or is offered to a base without
a backlight is answered as confirmed. -/
def State.offerPacket (s : State) (p : PartPacket) : State :=
  match p with
  | .light _ =>
    if s.link.capBacklight && s.link.state.allows p then
      (s.updLink fun u => { u with transmitList := offerTo u.transmitList p }).sendNext
    else s.hand [.confirmDecrease .backlight]
  | _ =>
    if s.link.state.allows p then
      (s.updLink fun u => { u with transmitList := offerTo u.transmitList p }).sendNext
    else s

/-- RATE offered by the sequencer carries P (R51). -/
def State.offerRate (s : State) : State := s.offerPacket (.rate s.sensor.period)

/-- The completion of sending: the next entry is taken (R107). -/
def State.transmitDone (s : State) : State :=
  match s.link.sending with
  | none => s
  | some _ => (s.updLink fun u => { u with sending := none }).sendNext

/-! ## HOLD (R117) -/

/-- HOLD after a change of the queue's length. -/
def holdAfter (hold : Bool) (length : Nat) : Bool :=
  if 12 ≤ length then true else if length ≤ 4 then false else hold

def State.setReceiveQueue (s : State) (q : List Received) : State :=
  s.updLink fun u => { u with receiveQueue := q, hold := holdAfter u.hold q.length }

/-! ## Link states (R108 to R115) -/

/-- Taking the link down (R108); a LIGHT emptied from the transmit list is answered as confirmed (R107). -/
def State.takeDown (s : State) : State :=
  let lights := s.link.transmitList.any fun p => p.sameKind (.light 0)
  let s := s.updLink fun u =>
    { u with timer := none, receiveQueue := [], hold := false, discards := [], transmitList := [] }
  if lights then s.hand [.confirmDecrease .backlight] else s

/-- The link state changes (R115): down states take the link down (R108), a LINK notice is offered, and the change is
handed to the attachment unit; the queue is served (R118). A receiver that is disabled forgets that it ignored bytes
(R105; log 13). -/
def State.enterLink (s : State) (l : LinkState) (cause : Nat) : State :=
  let before := s.link.state
  let s := s.updLink fun u => { u with state := l, ignoring := u.ignoring && l.receiving }
  let s := s.touchBoard.hand [.attachLink, .serveReceiveQueue]
  let s := if l.isDown then s.takeDown else s.sendNext
  s.offerNotice .link cause before.code l.code 0

def State.setLinkTimer (s : State) (k : LinkTimerKind) (ms : Nat) : State :=
  let expiry := s.after ms
  s.updLink fun u => { u with timer := some (k, expiry) }

/-- POWERING, for 20 ms (R110). -/
def State.enterPowering (s : State) : State := (s.setLinkTimer .powerUp 20).enterLink .powering 0

/-- GREETING, with its first 200 ms (R111). -/
def State.enterGreeting (s : State) (cause : Nat) : State :=
  ((s.updLink fun u => { u with stage := .awaitHello, retries := 0 }).setLinkTimer .greeting 200).enterLink
    .greeting cause

/-- READY from GREETING (R111): the recovery count is cleared, supervision starts, RATE and LIGHT are offered where the
values last sent differ. -/
def State.enterReady (s : State) : State :=
  let s := ((s.updLink fun u => { u with recoveries := 0 }).setLinkTimer .supervision 300).enterLink .ready 0
  let s := if s.sensor.period = s.link.lastPeriodSent then s else s.offerPacket (.rate s.sensor.period)
  if s.allot.level = s.link.lastLevelSent then s else s.offerPacket (.light s.allot.level)

/-- FAULTED (R114): taken down, VBASE held off, BASE_LINK reported, the base faulted off. The LINK notice comes before the
fault's (log 1). -/
def State.enterFaulted (s : State) (cause : Nat) : State :=
  ((s.hand [.baseFaultedOff]).enterLink .faulted cause |>.setHoldOff true).reportActive .baseLink

/-- LOST, or FAULTED with cause RECOVERY at the fourth fall (R113). The LINK notice comes before what the change brings
(log 1). -/
def State.enterLost (s : State) (cause : Nat) : State :=
  if 3 ≤ s.link.recoveries then s.enterFaulted 7
  else
    ((s.enterLink .lost cause).setHoldOff true |>.setLinkTimer .recovery 50).updLink fun u =>
      { u with recoveries := u.recoveries + 1 }

/-- UNPOWERED by the loss of the grant (R110), or on the way up (R109, R113). -/
def State.enterUnpowered (s : State) (cause : Nat) : State := s.enterLink .unpowered cause

/-- POWERING if BASE_BASIC is in force, UNPOWERED otherwise (R109, R113). -/
def State.powerOrWait (s : State) : State :=
  if 0 < s.allot.grant.base then s.enterPowering else s.enterUnpowered 0

/-- A debounced DETECT change at the base link unit (R109). -/
def State.linkDetect (s : State) : State :=
  if s.attach.detect.level then
    if s.link.state = .absent then s.powerOrWait else s
  else if s.link.state = .absent then s
  else
    let wasFaulted : Bool := s.link.state == .faulted
    let s := s.hand [.stateBacklight]
    let s := (s.enterLink .absent 1).setHoldOff false
    let s := s.updLink fun u =>
      { u with stage := .awaitHello, retries := 0, recoveries := 0, capBacklight := false, capButton := false }
    if wasFaulted then s.reportInactive .baseLink else s

/-- The BASE_BASIC grant as it stands is handed to the base link unit (R110). -/
def State.linkGrant (s : State) : State :=
  if 0 < s.allot.grant.base then
    if s.link.state = .unpowered then s.enterPowering else s
  else
    match s.link.state with
    | .powering | .greeting | .ready | .quiesced => s.enterUnpowered 2
    | .absent | .unpowered | .lost | .faulted => s

/-- WELCOME is offered with the backlight level in force (R111; log 15); its P is the one at its sending (R51). -/
def State.offerWelcome (s : State) : State := s.offerPacket (.welcome s.sensor.period s.allot.level)

/-- The greeting timer's expiry (R111). -/
def State.greetingExpired (s : State) : State :=
  if s.link.retries < 3 then
    let s := (s.updLink fun u => { u with retries := u.retries + 1 }).setLinkTimer .greeting 200
    if s.link.stage = .awaitAck then s.offerWelcome else s
  else (s.updLink fun u => { u with timer := none }).enterFaulted 5

/-- The recovery timer's expiry (R113). -/
def State.recoveryExpired (s : State) : State :=
  ((s.updLink fun u => { u with timer := none }).setHoldOff false).powerOrWait

/-- A discard (R106): the time is recorded, times more than 1000 ms before it are forgotten, and the fifth that remains
takes the link to LOST with cause ERRORS. -/
def State.discardPacket (s : State) (r : DiscardReason) : State :=
  if s.link.state.receiving && !s.link.ignoring then
    let times := (s.link.discards.filter fun t => decide (elapsed s.now t ≤ 1000)) ++ [s.now]
    let s := s.updLink fun u =>
      { u with discards := times, ignoring := (match r with | .byteError | .overlongHeader => true | _ => false) }
    if 5 ≤ times.length then (s.updLink fun u => { u with discards := [] }).enterLost 4 else s
  else s

/-! ## The input gate (R120, R123) -/

/-- The halves of the gate. -/
def State.keyboardOpen (s : State) : Bool := s.link.keyboardFlag && s.attach.state == .attached
def State.pointerOpen (s : State) : Bool := s.link.touchpadFlag && s.attach.state == .attached

/-- Closed halves owe the releases of what they delivered: the keys in press order, then one pointer release (R123). -/
def LinkUnit.closeHalves (u : LinkUnit) (keyboard pointer : Bool) : LinkUnit :=
  let u := if keyboard then { u with owed := u.owed ++ u.pressed.map Owed.key, pressed := [] } else u
  if pointer && u.buttons != 0 then { u with owed := u.owed ++ [.pointer], buttons := 0 } else u

/-- The halves that stand closed owe their releases, and the queue is served (R118, R123). -/
def State.followGate (s : State) : State :=
  let keyboard := !s.keyboardOpen
  let pointer := !s.pointerOpen
  (s.updLink fun u => u.closeHalves keyboard pointer).hand [.serveReceiveQueue]

/-- Both halves close for an event, whatever the flags and the attachment state (R123). -/
def State.closeGate (s : State) : State := s.updLink fun u => u.closeHalves true true

/-- The posture unit publishes the flags of a commit or band refresh (R86, R92, R120). -/
def State.publishFlags (s : State) : State :=
  let keyboard := s.keyboardAllowed
  let touchpad := s.touchpadAllowed
  (s.updLink fun u => { u with keyboardFlag := keyboard, touchpadFlag := touchpad }).followGate

/-! ## Quiesce and resume (R112) -/

/-- The attachment unit asks for resume (R112, R138). -/
def State.askResume (s : State) : State :=
  if s.link.state = .quiesced then (s.offerPacket .resume).enterLink .ready 9 else s

/-- READY becomes QUIESCED: QUIESCE is offered, both halves of the gate close for the event (R112, R123). -/
def State.quiesceLink (s : State) : State := ((s.offerPacket .quiesce).closeGate).enterLink .quiesced 9

/-! ## Serving the receive queue (R111, R118, R119, R121, R122, R124) -/

/-- A record is delivered: activity, and a KEY or POINTER wake event (R124). -/
def State.deliver (s : State) (kind : InputKind) (code dx dy : Byte) (arrival : PartTime) (wake : List Task) : State :=
  (s.writeInput kind code dx dy arrival).hand (.activity :: wake)

/-- A key press that the gate refuses is counted (R121). -/
def State.countDroppedKey (s : State) : State :=
  s.updLink fun u => { u with keyDropped := bump 65535 u.keyDropped }

/-- A KEY press (R121). -/
def State.servePress (s : State) (code : Byte) (arrival : PartTime) : State :=
  if s.keyboardOpen then
    if s.link.pressed.length < 16 then
      let s := s.updLink fun u =>
        { u with pressed := if u.pressed.contains code then u.pressed else u.pressed ++ [code] }
      s.deliver .keyPress code 0 0 arrival [.wakeEvent .key]
    else s.countDroppedKey.offerNotice .link 11 s.link.state.code s.link.state.code 0
  else s.countDroppedKey

/-- A KEY release (R121). -/
def State.serveRelease (s : State) (code : Byte) (arrival : PartTime) : State :=
  if s.link.pressed.contains code then
    (s.updLink fun u => { u with pressed := u.pressed.filter (· ≠ code) }).deliver .keyRelease code 0 0 arrival []
  else s

/-- A POINTER packet (R122). -/
def State.servePointer (s : State) (dx dy : Byte) (buttons : BitVec 3) (arrival : PartTime) : State :=
  if s.pointerOpen then
    (s.updLink fun u => { u with buttons := buttons }).deliver .pointer (buttons.setWidth 8) dx dy arrival
      [.wakeEvent .pointer]
  else s

/-- A HELLO served in GREETING (R111): capabilities are recorded; the BACKLIGHT claim is stated for them (R145), and then
WELCOME is offered, with the level the claim has brought in force (log 15). -/
def State.greetHello (s : State) (version capabilities : Byte) : State :=
  if version = 1 then
    let s := s.updLink fun u =>
      { u with capBacklight := capabilityBacklight capabilities, capButton := capabilityButton capabilities
               stage := .awaitAck }
    s.hand [.stateBacklight, .offerWelcome]
  else s.enterFaulted 6

/-- A packet served in GREETING (R111). -/
def State.greetPacket (s : State) (p : BasePacket) : State :=
  match p with
  | .hello version _ capabilities => s.greetHello version capabilities
  | .ack kind => if kind = welcomeKind ∧ s.link.stage = .awaitAck then s.enterReady else s
  | .key _ _ | .pointer _ _ _ | .sample _ _ _ | .status _ _ | .button => s

/-- A HELLO served in READY or QUIESCED: the base has restarted (R112). -/
def State.rehello (s : State) (r : Received) (version : Byte) : State :=
  if version = 1 then (s.hand [.servePacket r]).enterGreeting 10 else s.enterFaulted 6

/-- BASE_STATUS in READY or QUIESCED (R112, R119). -/
def State.serveStatus (s : State) (level faults : Byte) : State :=
  if faults ≠ 0 then s.enterFaulted 8
  else if level.toNat = s.link.lastLevelSent then s
  else s.offerPacket (.light s.allot.level)

/-- An ACK in READY or QUIESCED (R119). -/
def State.serveAck (s : State) (kind : Byte) : State :=
  if kind = quiesceKind then s.hand [.ackQuiesce]
  else if kind = lightKind then s.hand [.ackLight]
  else s

/-- A packet that has left the queue is served in the link state as it stands (R111, R118, R119). -/
def State.servePacket (s : State) (r : Received) : State :=
  match s.link.state with
  | .greeting => s.greetPacket r.packet
  | .ready | .quiesced =>
    match r.packet with
    | .hello version _ _ => s.rehello r version
    | .key code true => s.servePress code r.arrival
    | .key code false => s.serveRelease code r.arrival
    | .pointer dx dy buttons => s.servePointer dx dy buttons r.arrival
    | .sample x y z => s.holdBaseSample x y z
    | .status level faults => s.serveStatus level faults
    | .button => if s.link.capButton then s.hand [.detachClaim .button] else s
    | .ack kind => s.serveAck kind
  | .absent | .powering | .lost | .faulted | .unpowered =>
    match r.packet with
    | .key code true => s.servePress code r.arrival
    | .key code false => s.serveRelease code r.arrival
    | .pointer dx dy buttons => s.servePointer dx dy buttons r.arrival
    | .hello _ _ _ | .sample _ _ _ | .status _ _ | .button | .ack _ => s

/-- Whether an input entry may be served: nothing owed and room in the Input Journal (R118). -/
def State.inputFree (s : State) : Bool := s.link.owed.isEmpty && decide (1 ≤ s.room inputJournal)

/-- The next entry a pass serves: the head in GREETING; elsewhere the oldest that is not an input entry left waiting. -/
def State.nextEntry (s : State) : Option Received :=
  if s.link.state = .greeting ∨ s.inputFree then s.link.receiveQueue.head?
  else s.link.receiveQueue.find? fun r => !r.packet.isInput

/-- The head of the owed-release list is written and leaves it (R124). -/
def State.writeOwed (s : State) : State :=
  match s.link.owed with
  | [] => s
  | e :: rest =>
    let s := s.updLink fun u => { u with owed := rest }
    match e with
    | .key code => s.writeInput .synthRelease code 0 0 s.now
    | .pointer => s.writeInput .synthPointer 0 0 0 s.now

/-- One stage of serving the queue (R118): an owed release while there is room, else the next entry; then again. In a host
reset the queue waits for the end of the event, where the gate is that of the fresh posture (R125). -/
def State.serveReceiveQueue (s : State) : State :=
  if s.tasks.contains .serveAfterReset then s
  else if !s.link.owed.isEmpty && decide (1 ≤ s.room inputJournal) then s.writeOwed.hand [.serveReceiveQueue]
  else
    match s.nextEntry with
    | none => s
    | some r =>
      (s.setReceiveQueue (s.link.receiveQueue.erase r)).hand [.servePacket r, .serveReceiveQueue]

/-! ## Arrival (R116) -/

/-- A good packet arrives at an enabled receiver that takes bytes (R105, R112, R116). -/
def State.packetArrived (s : State) (p : BasePacket) : State :=
  if s.link.state.receiving && !s.link.ignoring then
    let s := if s.link.state = .greeting then s else s.setLinkTimer .supervision 300
    if s.link.receiveQueue.length < 16 then
      (s.setReceiveQueue (s.link.receiveQueue ++ [{ packet := p, arrival := s.now }])).hand [.serveReceiveQueue]
    else
      ((s.updLink fun u => { u with overruns := bump 65535 u.overruns }).touchBoard).hand [.serveReceiveQueue]
  else s

end Sys2Proof.Machine
end

