-- ==== Sys2Proof/Machine/Allot.lean ====
section
/-! DEFINITION. The allotment unit (spec/09): the budget, the claims, the grant order, decreases and pending increases, what
the grants drive, and the base supply monitor. -/

namespace Sys2Proof.Machine

/-! ## The grant order (R166) -/

/-- COIL: 1200 or nothing. -/
def coilTarget (budget : Nat) (d : Allotments) : Nat := if d.coil = 1200 ∧ 1200 ≤ budget then 1200 else 0

/-- BASE_BASIC: 250 or nothing. -/
def baseTarget (remainder : Nat) (d : Allotments) : Nat := if d.base = 250 ∧ 250 ≤ remainder then 250 else 0

/-- PEN: its share if that is at least 150. -/
def penTarget (remainder : Nat) (d : Allotments) : Nat :=
  if 150 ≤ min d.pen remainder then min d.pen remainder else 0

/-- BACKLIGHT: its share rounded down to a multiple of 150, nothing without BASE_BASIC. -/
def backlightTarget (remainder base : Nat) (d : Allotments) : Nat :=
  if base = 0 then 0 else min d.backlight remainder / 150 * 150

/-- The target grants for the demands and a budget, in the fixed order (R166). -/
def targets (budget : Nat) (d : Allotments) : Allotments :=
  let coil := coilTarget budget d
  let base := baseTarget (budget - coil) d
  let pen := penTarget (budget - coil - base) d
  let backlight := backlightTarget (budget - coil - base - pen) base d
  { coil := coil, base := base, pen := pen, backlight := backlight }

/-! ## Decreases and pending increases (R167, R168) -/

/-- The grants after the decreases of a recomputation. -/
def lowered (g t : Allotments) : Allotments :=
  { coil := min g.coil t.coil, base := min g.base t.base, pen := min g.pen t.pen
    backlight := min g.backlight t.backlight }

/-- A target above the grant in force becomes a pending increase. -/
def increaseOf (grant target : Nat) : Option Nat := if grant < target then some target else none

def increasesOf (g t : Allotments) : PendingIncreases :=
  { coil := increaseOf g.coil t.coil, base := increaseOf g.base t.base, pen := increaseOf g.pen t.pen
    backlight := increaseOf g.backlight t.backlight }

def noIncreases : PendingIncreases := { coil := none, base := none, pen := none, backlight := none }

/-- The grants with every pending increase put in force. -/
def raised (g : Allotments) (p : PendingIncreases) : Allotments :=
  { coil := p.coil.getD g.coil, base := p.base.getD g.base, pen := p.pen.getD g.pen
    backlight := p.backlight.getD g.backlight }

/-- A decrease enters the awaiting list; a claimant keeps one entry, with the newer deadline (R168). -/
def await (list : List Awaiting) (c : Awaited) (deadline : PartTime) : List Awaiting :=
  if list.any (fun e => decide (e.claimant = c)) then
    list.map fun e => if e.claimant = c then { e with deadline := deadline } else e
  else list ++ [{ claimant := c, deadline := deadline }]

def unawait (list : List Awaiting) (c : Awaited) : List Awaiting := list.filter fun e => !decide (e.claimant = c)

/-- The awaiting list after the decreases of a recomputation: a BACKLIGHT decrease is confirmed at once when the same
recomputation turns VBASE off (R168; log 26). -/
def awaitingAfter (list : List Awaiting) (g t : Allotments) (turnedOff : Bool) (deadline : PartTime) : List Awaiting :=
  let list := if t.pen < g.pen then await list .pen deadline else list
  if t.backlight < g.backlight then
    (if turnedOff then unawait list .backlight else await list .backlight deadline)
  else list

/-- The hand-ons of changed grants, in the order of R170. -/
def grantTasks (before after : Allotments) : List Task :=
  (if before.base = after.base then [] else [.linkGrant]) ++
    (if before.pen = after.pen then [] else [.penGrant]) ++
    (if before.backlight = after.backlight then [] else [.backlightGrant])

/-- The board's fields of changed grants are rewritten (R170). -/
def State.touchGrants (s : State) (before : Allotments) : State := s.touchWhen (s.allot.grant ≠ before)

/-- A recomputation (R166, R167): decreases are in force at once, increases are pending until the awaiting list is empty,
and a standing coil claim is answered last (R170; log 33). -/
def State.recompute (s : State) : State :=
  let g := s.allot.grant
  let t := targets s.allot.budget s.allot.demand
  let s' := s.updAllot fun u => { u with grant := lowered g t, increases := increasesOf g t }
  let s' := s.watchVbase s'
  let turnedOff := s.vbaseOn && !s'.vbaseOn
  let s' := s'.updAllot fun u => { u with awaiting := awaitingAfter u.awaiting g t turnedOff (s.after 100) }
  (s'.touchGrants g).hand (grantTasks g (lowered g t) ++ [.settleIncreases, .coilAnswer])

/-- The pending increases go in force once no confirmation is awaited (R167). -/
def State.settleIncreases (s : State) : State :=
  if s.allot.awaiting.isEmpty then
    let g := s.allot.grant
    let g' := raised g s.allot.increases
    let s' := s.updAllot fun u => { u with grant := g', increases := noIncreases }
    ((s.watchVbase s').touchGrants g).hand (grantTasks g g' ++ [.coilAnswer])
  else s

/-- A decrease is confirmed; a confirmation from a claimant not in the list is ignored (R168). -/
def State.confirmDecrease (s : State) (c : Awaited) : State :=
  if s.allot.awaiting.any (fun e => decide (e.claimant = c)) then
    (s.updAllot fun u => { u with awaiting := unawait u.awaiting c }).settleIncreases
  else s

/-- A LIGHT with a later level: one of another level than the level last sent (R168; log 31). -/
def PartPacket.laterLight (lastSent : Nat) : PartPacket → Bool
  | .light level => decide (level ≠ lastSent)
  | _ => false

/-- An ACK naming LIGHT confirms unless a LIGHT with a later level still waits in the transmit list (R168;
log 31). -/
def State.ackLight (s : State) : State :=
  if s.link.transmitList.any (PartPacket.laterLight s.link.lastLevelSent) then s else s.confirmDecrease .backlight

/-! ## The budget (R163, R172) -/

/-- The active setting the power source and the part power state select (R163). -/
def State.selectedBudget (s : State) : Nat :=
  let a := s.settings.active
  match s.allot.source, s.sleep.power with
  | .mains, .active => a.mainsActive
  | .mains, .doze => a.mainsDoze
  | .mains, .standby => a.mainsStandby
  | .battery, .active => a.batteryActive
  | .battery, .doze => a.batteryDoze
  | .battery, .standby => a.batteryStandby
  | .batteryLow, .active => a.batteryLowActive
  | .batteryLow, .doze => a.batteryLowDoze
  | .batteryLow, .standby => a.batteryLowStandby

/-- The budget is selected anew; a changed one is noticed and the grants are recomputed (R163). -/
def State.selectBudget (s : State) (cause : Nat) : State :=
  let b := s.selectedBudget
  if b = s.allot.budget then s
  else ((s.updAllot fun u => { u with budget := b }).touchBoard.offerNotice .allotment cause 0 0 b).recompute

/-! ## Claims (R165) -/

def State.setDemand (s : State) (f : Allotments → Allotments) : State :=
  s.updAllot fun u => { u with demand := f u.demand }

/-- The COIL demand; one stated equal to the one held recomputes nothing. -/
def State.coilDemand (s : State) (up : Bool) : State :=
  let d := if up then 1200 else 0
  if s.allot.demand.coil = d then s else (s.setDemand fun a => { a with coil := d }).recompute

/-- The PEN demand; one stated unchanged is answered without recomputation. -/
def State.penDemand (s : State) (d : Nat) : State :=
  let s := s.hand [.penGrant]
  if s.allot.demand.pen = d then s else (s.setDemand fun a => { a with pen := d }).recompute

/-- The BACKLIGHT claim as the attachment unit states it (R145). -/
def State.stateBacklight (s : State) : State :=
  let d := if s.link.capBacklight then 150 * s.attach.wish else 0
  if s.allot.demand.backlight = d then s else (s.setDemand fun a => { a with backlight := d }).recompute

/-- The BASE_BASIC demand at each change of what it depends on. -/
def State.reviewBase (s : State) : State :=
  let d :=
    if s.attach.detect.level && !s.allot.faultedOff && !s.allot.lockout && !s.sleep.withdrawal then 250 else 0
  if s.allot.demand.base = d then s else (s.setDemand fun a => { a with base := d }).recompute

/-- The base link unit has entered FAULTED (R114, R165). -/
def State.baseFaultedOff (s : State) : State :=
  (s.updAllot fun u => { u with faultedOff := true }).reviewBase

/-- A debounced DETECT change at the allotment unit: a loss clears both flags and ends BASE_SUPPLY (R165, R171). -/
def State.allotDetect (s : State) : State :=
  if s.attach.detect.level then s.reviewBase
  else
    ((s.updAllot fun u => { u with faultedOff := false, lockout := false }).reportInactive .baseSupply).reviewBase

/-! ## What the grants drive (R170) -/

/-- The backlight level follows the BACKLIGHT grant; each change of level is offered as LIGHT. -/
def State.backlightGrant (s : State) : State :=
  let level := s.allot.grant.backlight / 150
  if level = s.allot.level then s
  else (s.updAllot fun u => { u with level := level }).offerPacket (.light level)

/-- The level the allotment has granted, in force or pending (R145). -/
def State.grantedLevel (s : State) : Nat := (s.allot.increases.backlight.getD s.allot.grant.backlight) / 150

/-- SET_BACKLIGHT finishes (R145). -/
def State.finishBacklight (s : State) : State :=
  s.finishUnit .base .ok 0 [word s.allot.level, word s.grantedLevel]

/-! ## The base supply monitor (R171) -/

/-- The VBASE voltage falls below, or rises to, 4.5 V; it is watched while VBASE is on. -/
def State.voltageChange (s : State) (below : Bool) : State :=
  if s.allot.voltageLow = below then s
  else
    let started := s.start 10
    let on := s.vbaseOn
    s.updAllot fun u =>
      { u with voltageLow := below
               underVoltage := if on then (if below then started else none) else u.underVoltage }

/-- The under-voltage timer's expiry: lockout, BASE_SUPPLY, and the recomputation without the base. -/
def State.underVoltageExpired (s : State) : State :=
  ((s.updAllot fun u => { u with underVoltage := none, lockout := true }).reportActive .baseSupply).reviewBase

/-! ## SET_POWER_SOURCE (R164) -/

def State.setSource (s : State) (code : Nat) : State :=
  match PowerSource.ofCode code with
  | none => s.finishUnit .power .badParameter 0 []
  | some source =>
    let before := s.allot.source
    ((s.updAllot fun u => { u with source := source }).touchWhen (source ≠ before)).hand
      [.selectBudget 0, .finishSource before]

def State.finishSource (s : State) (before : PowerSource) : State :=
  s.finishUnit .power .ok 0 [word s.allot.budget, word before.code]

end Sys2Proof.Machine
end

