-- ==== Sys2Proof/Machine/Attach.lean ====
section
/-! DEFINITION. The attachment unit (spec/07): the DETECT line, attachment states, detach claims, the release sequence, its
cancelling, and the release at host reset. -/

namespace Sys2Proof.Machine

/-! ## Attachment states (R127 to R130) -/

/-- The resting state (R127). -/
def restingState (detect : Bool) (link : LinkState) : AttachState :=
  if detect then
    match link with
    | .ready | .quiesced => .attached
    | .faulted | .unpowered => .degraded
    | .absent | .powering | .greeting | .lost => .seating
  else .detached

def State.resting (s : State) : AttachState := restingState s.attach.detect.level s.link.state

/-- The readers of a change of attachment state, in the order of R129. -/
def attachReaders (before after : AttachState) : List Task :=
  (if after = .detached then [.postureAttach, .angleAttach, .sensorAttach] else []) ++
    [.linkAttach, .sleepAttach before after]

/-- The attachment state changes (R129); the state it already is changes nothing (R128). -/
def State.setAttach (s : State) (after : AttachState) (cause : Nat) : State :=
  let before := s.attach.state
  if after = before then s
  else
    let s := (s.updAttach fun u => { u with state := after }).touchBoard.latch .attach
    (s.offerNotice .attachment cause before.code after.code 0).hand (attachReaders before after)

/-- Whether the attachment state is inside a release. -/
def AttachState.inRelease : AttachState → Bool
  | .releasing | .awaitingRemoval => true
  | .detached | .seating | .attached | .degraded => false

/-- An attachment change at the sleep unit: activity, and a wake event into or out of DETACHED (R175, R182). -/
def State.sleepAttach (s : State) (before after : AttachState) : State :=
  s.hand (.activity :: if before = .detached ∨ after = .detached then [.wakeEvent .attachChange] else [])

/-! ## Coil and timers -/

/-- The coil driver is turned off; its energized time in this release grows (R138; log 20). -/
def State.coilOff (s : State) : State :=
  if s.attach.coil then
    let ms := elapsed s.now s.attach.coilSince
    s.updAttach fun u => { u with coil := false, coilTime := u.coilTime + ms }
  else s

/-- Every release timer is stopped and no phase is left. -/
def State.clearRelease (s : State) : State :=
  s.updAttach fun u =>
    { u with phase := none, quiesceTimer := none, senseTimer := none, pulseTimer := none, windowTimer := none }

/-- The milliseconds until the oldest pulse ages out (R131, R139). -/
def State.coolingTime (s : State) : Nat :=
  match s.attach.pulses with
  | [] => 0
  | oldest :: _ => (oldest + 60000 - s.now).toNat

/-- The release's request finishes, if it has one. -/
def finishTasks (request : Option (Fin 32)) (code : ResultCode) (detail : Nat) (words : List Word) : List Task :=
  match request with
  | none => []
  | some _ => [.finish .base code detail words]

/-- A release ends without removal, FAILED with a detail (R138); result word 0 is the coil time unless given. -/
def State.endRelease (s : State) (detail : Nat) (shown : Option Nat) : State :=
  let s := s.coilOff
  let request := s.attach.request
  let words := [word (shown.getD s.attach.coilTime), 0]
  let s := s.clearRelease.updAttach fun u => { u with request := none }
  s.hand ([.coilDemand false, .askResume, .returnToRest 6] ++ finishTasks request .failed detail words)

/-- The resting state is entered at the end of a release (R138, R144). -/
def State.returnToRest (s : State) (cause : Nat) : State :=
  if s.attach.state.inRelease then s.setAttach s.resting cause else s

/-- AWAITING_REMOVAL is entered at the end of the pulse (R140, R144). -/
def State.awaitRemoval (s : State) : State :=
  if s.attach.state.inRelease then s.setAttach .awaitingRemoval 7 else s

/-- The base is removed in a release (R142): DETACHED is entered at once, and what the withdrawn coil claim brings is
carried before the readers of that change (log 1). -/
def State.removeBase (s : State) : State :=
  let detail := if s.attach.phase = some .window then 0 else 1
  let s := s.coilOff
  let request := s.attach.request
  let words := [word s.attach.coilTime, s.now]
  let s := s.clearRelease.updAttach fun u => { u with request := none }
  ((s.hand (finishTasks request .ok detail words)).setAttach .detached 4).hand [.coilDemand false]

/-! ## The DETECT line (R126) -/

def State.detectChange (s : State) (present : Bool) : State :=
  let started := s.start 50
  if s.isRunning then s.updAttach fun u => { u with detect := u.detect.change present started }
  else s.updAttach fun u => { u with detect := u.detect.unwatched present }

/-- The debounced DETECT level changes: first the attachment state, then the base link unit and the allotment unit in
either order (R126, R109; log 10). -/
def State.detectSettle (s : State) : State :=
  let s := s.updAttach fun u => { u with detect := u.detect.settle }
  let (choice, s) := s.nextChoice
  let s :=
    if Config.linkTakesDetectFirst choice then s.hand [.linkDetect, .allotDetect] else s.hand [.allotDetect, .linkDetect]
  if s.attach.state.inRelease then (if s.attach.detect.level then s else s.removeBase)
  else s.setAttach s.resting (if s.attach.detect.level then 0 else 5)

/-! ## Detach claims (R131, R132) -/

/-- The refusal of a claim: its result code, detail and result word 0; none when it is accepted (R131). -/
def State.judgeClaim (s : State) : Option (ResultCode × Nat × Nat) :=
  if s.attach.state ≠ .attached ∧ s.attach.state ≠ .degraded then some (.notNow, 1, 0)
  else if !s.detachAllowed then some (.notNow, 2, 0)
  else if s.sleep.power ≠ .active then some (.notNow, 3, 0)
  else if s.settings.active.pulseLimit ≤ s.attach.pulses.length then some (.notNow, 4, s.coolingTime)
  else if s.allot.budget < 1200 then some (.noPower, 0, s.allot.budget)
  else none

/-- A refused claim: a host DETACH finishes, a BUTTON is noticed (R131). -/
def State.refuseClaim (s : State) (c : Claim) (code : ResultCode) (detail shown : Nat) : State :=
  match c with
  | .host _ => s.finishUnit .base code detail [word shown]
  | .button =>
    let st := s.attach.state.code
    s.offerNotice .detachRefused (if code = .noPower then 5 else detail) st st (if detail = 4 then shown else 0)

/-- An accepted claim enters RELEASING and asks the link to quiesce (R133). -/
def State.acceptClaim (s : State) (c : Claim) : State :=
  let origin := match c with | .host _ => ReleaseOrigin.request | .button => .button
  let request := match c with | .host n => some n | .button => none
  let s := s.updAttach fun u => { u with phase := none, origin := origin, request := request, coilTime := 0 }
  (s.hand [.askQuiesce]).setAttach .releasing (match c with | .host _ => 2 | .button => 3)

/-- A detach claim is judged, or joins the release in progress (R131, R132). -/
def State.detachClaim (s : State) (c : Claim) : State :=
  if s.attach.state.inRelease then
    match c with
    | .button => s
    | .host n => if s.attach.request = none then s.updAttach fun u => { u with request := some n } else s
  else
    match s.judgeClaim with
    | some (code, detail, shown) => s.refuseClaim c code detail shown
    | none => s.acceptClaim c

/-! ## The release sequence (R133 to R141) -/

/-- Phase CLAIMING: the coil claim is raised (R134). -/
def State.enterClaiming (s : State) : State :=
  (s.updAttach fun u => { u with phase := some .claiming, quiesceTimer := none }).hand [.coilDemand true]

/-- The link is asked to quiesce; an ask that is not sent goes straight to CLAIMING (R133). -/
def State.askQuiesce (s : State) : State :=
  if s.attach.state = .releasing ∧ s.attach.phase = none then
    if s.link.state = .ready then
      let expiry := s.start 100
      (s.updAttach fun u => { u with phase := some .quiescing, quiesceTimer := expiry }).quiesceLink
    else s.enterClaiming
  else s

/-- Phase PULSE, or the COOLING ending (R135). -/
def State.enterPulse (s : State) : State :=
  if s.attach.pulses.length < s.settings.active.pulseLimit then
    let pulse := s.start s.settings.active.pulseTime
    let sense := s.start 20
    let now := s.now
    s.updAttach fun u =>
      { u with phase := some .pulse, coil := true, currentSeen := false, coilSince := now
               pulses := u.pulses ++ [now], pulseTimer := pulse, senseTimer := sense }
  else s.endRelease 4 (some s.coolingTime)

/-- The COIL grant is answered (R134, R137). -/
def State.coilAnswer (s : State) : State :=
  if s.allot.demand.coil = 1200 then
    match s.attach.phase with
    | some .claiming =>
      if s.allot.grant.coil = 1200 then s.enterPulse
      else if s.allot.increases.coil.isSome then s
      else s.endRelease 3 none
    | some .pulse => if s.allot.grant.coil < 1200 then s.endRelease 3 none else s
    | some .quiescing => s
    | some .window => s
    | none => s
  else s

/-- A link state change handed to the attachment unit (R115, R128, R133). -/
def State.attachLink (s : State) : State :=
  match s.attach.state with
  | .detached | .seating | .attached | .degraded => s.setAttach s.resting 1
  | .releasing =>
    if s.attach.phase = some .quiescing ∧ s.link.state ≠ .quiesced then s.enterClaiming else s
  | .awaitingRemoval => s

/-- An ACK naming QUIESCE ends QUIESCING and is ignored in any other phase (R133). -/
def State.ackQuiesce (s : State) : State :=
  if s.attach.phase = some .quiescing then s.enterClaiming else s

/-- The quiesce timer's expiry (R133). -/
def State.quiesceExpired (s : State) : State :=
  let s := s.updAttach fun u => { u with quiesceTimer := none }
  if s.attach.phase = some .quiescing then s.enterClaiming else s

/-- The coil is turned off and the removal window begins (R140, R144). -/
def State.enterWindow (s : State) : State :=
  let s := s.coilOff
  let expiry := s.start s.settings.active.removalWindow
  s.updAttach fun u =>
    { u with phase := some .window, pulseTimer := none, senseTimer := none, windowTimer := expiry }

/-- The end of phase PULSE by its timer (R140). -/
def State.endPulse (s : State) : State := s.enterWindow.hand [.coilDemand false, .awaitRemoval]

def State.pulseExpired (s : State) : State :=
  if s.attach.phase = some .pulse then s.endPulse else s.updAttach fun u => { u with pulseTimer := none }

/-- The removal window's expiry: FAILED, NOT_REMOVED (R140). -/
def State.windowExpired (s : State) : State :=
  if s.attach.phase = some .window then s.endRelease 2 none else s.updAttach fun u => { u with windowTimer := none }

/-- The first rise of the coil's current (R136). -/
def State.coilCurrent (s : State) : State :=
  if s.attach.coil && !s.attach.currentSeen then
    (s.updAttach fun u => { u with currentSeen := true, senseTimer := none }).reportInactive .latchCoil
  else s

/-- The sense timer's expiry without current: LATCH_COIL, and FAILED, COIL (R136). -/
def State.senseExpired (s : State) : State :=
  let s := s.updAttach fun u => { u with senseTimer := none }
  if s.attach.phase = some .pulse ∧ s.attach.currentSeen = false then
    let s := s.coilOff.updAttach fun u => { u with pulseTimer := none }
    (s.reportActive .latchCoil).endRelease 1 none
  else s

/-- The oldest pulse entry ages out (R139). -/
def State.agePulse (s : State) : State := s.updAttach fun u => { u with pulses := u.pulses.drop 1 }

/-! ## SET_BACKLIGHT (R145) -/

def State.setBacklight (s : State) (level : Nat) : State :=
  if 3 < level then s.finishUnit .base .badParameter 0 []
  else (s.updAttach fun u => { u with wish := level }).hand [.stateBacklight, .finishBacklight]

/-! ## Cancelling (R143) and host reset (R144) -/

/-- Whether the DETACH of a slot is cancellable now. -/
def State.detachCancellable (s : State) (n : Fin 32) : Bool :=
  s.attach.state == .releasing && s.attach.request == some n &&
    (s.attach.phase == some .quiescing || s.attach.phase == some .claiming)

/-- A cancellable DETACH is cancelled: the release stops, or, begun by the button, goes on without the request. -/
def State.cancelDetach (s : State) (n : Fin 32) : State :=
  let s := (s.updAttach fun u => { u with request := none }).cancelSlot .base n
  match s.attach.origin with
  | .request => s.endRelease 0 none
  | .button => s

/-- The attachment unit at a host reset: a release in progress is handled by the phase it stands in when the reset is taken
(R144). -/
def State.resetAttach (s : State) : State :=
  let s := s.updAttach fun u => { u with request := none }
  match s.attach.phase with
  | some .quiescing | some .claiming => s.clearRelease
  | some .pulse => s.enterWindow
  | some .window => s
  | none => s

/-- What the attachment unit hands on at a host reset, by the phase its release stood in (R144). -/
def resetAttachTasks : Option ReleasePhase → List Task
  | some .quiescing | some .claiming => [.coilDemand false, .askResume, .returnToRest 8]
  | some .pulse => [.coilDemand false, .awaitRemoval]
  | some .window => []
  | none => []

end Sys2Proof.Machine
end

