-- ==== Sys2Proof/Machine/Pen.lean ====
section
/-! DEFINITION. The pen unit (spec/08): the PEN_IN line, the exchange, pen states, the demand, the coil power in force, the
paired-pen table and the three pen requests. -/

namespace Sys2Proof.Machine

/-! ## State changes (R156) and coil power (R155) -/

/-- The pen state changes: PEN is latched and a PEN notice offered; the state it already is changes nothing (R156). -/
def State.setPenState (s : State) (after : PenState) (cause : Nat) : State :=
  let before := s.pen.state
  if after = before then s
  else
    let s := (s.updPen fun u => { u with state := after }).touchBoard.latch .pen
    s.offerNotice .pen cause before.code after.code s.pen.identity.toNat

/-- The coil power in force changes; a lowering waits for its control step (R155; log 18). -/
def State.setCoilPower (s : State) (p : Nat) : State :=
  s.updPen fun u => { u with coilPower := p, confirmDue := u.confirmDue || decide (p < u.coilPower) }

/-- The grant the pen unit charges at: at least 150, or nothing. -/
def usableGrant (grant : Nat) : Nat := if 150 ≤ grant then grant else 0

/-- The PEN grant in force reaches the pen unit (R155); in row 7 of R150 the unit decides after its answer. -/
def State.penGrant (s : State) : State :=
  if s.pen.deciding then s
  else
    match s.pen.state with
    | .charging | .deferred =>
      (s.setPenState (if 150 ≤ s.allot.grant.pen then .charging else .deferred) 2).setCoilPower
        (usableGrant s.allot.grant.pen)
    | .absent | .identifying | .topped | .pausedTemp | .held | .fault => s.setCoilPower 0

/-- Row 7 of R150: CHARGING or DEFERRED, by the answer. -/
def State.penDecide (s : State) : State :=
  let s := s.updPen fun u => { u with deciding := false }
  (s.setPenState (if 150 ≤ s.allot.grant.pen then .charging else .deferred) 1).setCoilPower
    (usableGrant s.allot.grant.pen)

/-- The control step after a lowering confirms the decrease (R155, R168). -/
def State.confirmPen (s : State) : State :=
  if s.pen.confirmDue then (s.updPen fun u => { u with confirmDue := false }).confirmDecrease .pen else s

/-! ## The paired-pen table (R158) -/

/-- The index of an identity among four entries. -/
def findPen (table : Vector PairedPen 4) (identity : Word) : Option (Fin 4) :=
  if table[0].identity = identity then some 0
  else if table[1].identity = identity then some 1
  else if table[2].identity = identity then some 2
  else if table[3].identity = identity then some 3
  else none

/-- The entry of the session identity, if there is one. -/
def State.sessionEntry (s : State) : Option (Fin 4) :=
  if s.pen.identity = 0 then none else findPen s.pen.table s.pen.identity

/-- The paired-pen table changes; its changed entries are rewritten on the Status Board (R159, R160). -/
def State.setTable (s : State) (table : Vector PairedPen 4) : State :=
  (s.updPen fun u => { u with table := table }).touchWhen (table ≠ s.pen.table)

def State.setEntry (s : State) (i : Fin 4) (e : PairedPen) : State := s.setTable (s.pen.table.set i e)

/-- The seated pen's entry takes the last state of charge and part time (R150, R157). -/
def State.refreshEntry (s : State) : State :=
  match s.sessionEntry with
  | none => s
  | some i => s.setEntry i { identity := s.pen.identity, soc := s.pen.soc, lastSeen := s.now }

/-- A seated pen whose identity is no longer in the table has its demand capped (R158). -/
def State.capDemand (s : State) : State :=
  if s.sessionEntry = none ∧ 300 < s.allot.demand.pen then s.hand [.penDemand 300] else s

/-! ## The exchange (R148, R149) -/

/-- An exchange begins with QUERY and 20 ms, unless one awaits a REPORT (R148). -/
def State.beginExchange (s : State) : State :=
  if s.pen.response.isSome then s
  else
    let expiry := s.start 20
    s.updPen fun u => { u with response := expiry }

/-- A failed exchange: a retry, or at the fourth failure in a row FAULT (R149). -/
def State.failExchange (s : State) : State :=
  if s.pen.retries < 3 then
    (s.updPen fun u => { u with retries := u.retries + 1, response := none }).beginExchange
  else
    let s := s.updPen fun u => { u with response := none, retries := 0, poll := none }
    (((s.setPenState .fault 3).setCoilPower 0).reportActive .penUnresponsive).hand [.penDemand 0]

/-! ## A valid REPORT (R150 to R153) -/

/-- Whether a temperature is outside the band, with the hysteresis of a paused pen (R151). -/
def outsideBand (paused : Bool) (t : Int) : Bool :=
  if paused then decide (t < 3) || decide (42 < t) else decide (t < 0) || decide (45 < t)

/-- The demand for a state of charge, pen maximum and standing in the table (R152). -/
def demandFor (soc maximum : Nat) (paired : Bool) : Nat :=
  let d := if soc < 80 then maximum else max 150 (maximum * (100 - soc) / 20)
  if paired then d else min d 300

/-- The poll interval of a state after a valid REPORT (R154). -/
def pollInterval : PenState → Nat
  | .topped | .held => 60000
  | .absent | .identifying | .charging | .deferred | .pausedTemp | .fault => 1000

/-- A REPORT is recorded (R150): session identity, with IDENTITY for a swap (log 25), last values, and
the table entry. -/
def State.recordReport (s : State) (r : Sys2Proof.PenReport) : State :=
  let swapped := s.pen.identity ≠ 0 ∧ s.pen.identity ≠ r.identity
  let st := s.pen.state.code
  let s := s.updPen fun u => { u with identity := r.identity }
  let s := if swapped then (s.latch .pen).offerNotice .pen 7 st st r.identity.toNat else s
  (s.updPen fun u => { u with soc := r.soc.toNat, temperature := r.temperature.toInt }).refreshEntry

/-- The rows 2 to 6 of R150: the state a REPORT decides without a demand, or none for row 7. -/
def State.restState (s : State) (r : Sys2Proof.PenReport) : Option PenState :=
  let a := s.settings.active
  if s.pen.mode = .hold then some .held
  else if outsideBand (s.pen.state == .pausedTemp) r.temperature.toInt then some .pausedTemp
  else if !chargeAllowed r then some .topped
  else if s.pen.state = .topped ∧ a.penTopUp < r.soc.toNat then some .topped
  else if a.penTarget ≤ r.soc.toNat then some .topped
  else none

def State.startPoll (s : State) (ms : Nat) : State :=
  let expiry := s.start ms
  s.updPen fun u => { u with poll := expiry }

/-- The decision of a valid REPORT (R150). -/
def State.decideReport (s : State) (r : Sys2Proof.PenReport) : State :=
  if batteryFault r then
    (((s.updPen fun u => { u with poll := none }).setPenState .fault 4).reportActive .penBattery).hand [.penDemand 0]
  else
    match s.restState r with
    | some after => ((s.startPoll (pollInterval after)).setPenState after 1).hand [.penDemand 0]
    | none =>
      let d := demandFor r.soc.toNat s.settings.active.penMaximum s.sessionEntry.isSome
      ((s.startPoll 1000).updPen fun u => { u with deciding := true }).hand [.penDemand d, .penDecide]

/-- A REPORT (R148): judged while an exchange awaits it, discarded otherwise. -/
def State.takeReport (s : State) (r : Sys2Proof.PenReport) : State :=
  match s.pen.response with
  | none => s
  | some _ =>
    let s := s.updPen fun u => { u with response := none }
    if reportValid r then ((s.updPen fun u => { u with retries := 0 }).recordReport r).decideReport r
    else s.failExchange

/-- The response timer's expiry (R148, R149). -/
def State.responseExpired (s : State) : State := (s.updPen fun u => { u with response := none }).failExchange

/-- The poll timer's expiry (R154). -/
def State.pollExpired (s : State) : State := (s.updPen fun u => { u with poll := none }).beginExchange

/-! ## The PEN_IN line (R146, R147, R157) -/

def State.penInChange (s : State) (present : Bool) : State :=
  let started := s.start 100
  if s.isRunning then s.updPen fun u => { u with penIn := u.penIn.change present started }
  else s.updPen fun u => { u with penIn := u.penIn.unwatched present }

/-- A session begins (R147). -/
def State.beginSession (s : State) : State :=
  let s := s.updPen fun u => { u with identity := 0, soc := 0, temperature := 0, retries := 0 }
  ((s.setPenState .identifying 0).beginExchange).hand [.penDemand 0, .activity, .wakeEvent .penInserted]

/-- A session ends (R157). -/
def State.endSession (s : State) : State :=
  let s := (s.updPen fun u => { u with response := none, poll := none }).refreshEntry
  let s := ((s.setCoilPower 0).reportInactive .penUnresponsive).reportInactive .penBattery
  let s := (s.setPenState .absent 6).updPen fun u => { u with identity := 0, soc := 0, temperature := 0, retries := 0 }
  s.hand [.penDemand 0, .activity, .wakeEvent .penRemoved]

/-- The debounced PEN_IN level changes. -/
def State.penInSettle (s : State) : State :=
  let s := s.updPen fun u => { u with penIn := u.penIn.settle }
  if s.pen.penIn.level then s.beginSession else s.endSession

/-! ## PEN_ACCEPT (R159) -/

/-- How many entries are occupied. -/
def occupied (table : Vector PairedPen 4) : Nat := (table.toList.filter fun e => decide (e.identity ≠ 0)).length

/-- The entry of greatest age, the lowest index among equals, from index i upward over the candidates given. -/
def oldestPen (now : PartTime) (table : Vector PairedPen 4) : Fin 4 :=
  let age (i : Fin 4) : Nat := elapsed now table[i].lastSeen
  let pick (i j : Fin 4) : Fin 4 := if age i < age j then j else i
  pick (pick (pick 0 1) 2) 3

/-- PEN_ACCEPT writes a new entry with the session's state of charge if it is the session identity. -/
def State.writeEntry (s : State) (i : Fin 4) (identity : Word) : State :=
  s.setEntry i
    { identity := identity, soc := if identity = s.pen.identity then s.pen.soc else 0, lastSeen := s.now }

def State.finishAccept (s : State) (detail : Nat) (i : Fin 4) (evicted : Word) : State :=
  s.finishUnit .pen .ok detail [word i, evicted, word (occupied s.pen.table)]

def State.acceptPen (s : State) (identity : Word) : State :=
  if identity = 0 then s.finishUnit .pen .badParameter 0 []
  else
    match findPen s.pen.table identity with
    | some i =>
      let e := s.pen.table[i]
      let soc := if identity = s.pen.identity then s.pen.soc else e.soc
      (s.setEntry i { identity := e.identity, soc := soc, lastSeen := s.now }).finishAccept 1 i 0
    | none =>
      match findPen s.pen.table 0 with
      | some i => (s.writeEntry i identity).finishAccept 0 i 0
      | none =>
        let i := oldestPen s.now s.pen.table
        let evicted := s.pen.table[i].identity
        let s := (s.writeEntry i identity).finishAccept 2 i evicted
        if evicted = s.pen.identity then s.capDemand else s

/-! ## PEN_FORGET (R160) -/

def emptyPen : PairedPen := { identity := 0, soc := 0, lastSeen := 0 }

def State.forgetPen (s : State) (selector : Nat) (identity : Word) : State :=
  if 1 < selector then s.finishUnit .pen .badParameter 0 []
  else
    let seated := s.sessionEntry.isSome
    if selector = 1 then
      let n := occupied s.pen.table
      let s := (s.setTable (Vector.replicate 4 emptyPen)).finishUnit .pen .ok 0 [word n]
      if seated then s.capDemand else s
    else if identity = 0 then s.finishUnit .pen .badParameter 1 []
    else
      match findPen s.pen.table identity with
      | none => s.finishUnit .pen .ok 1 [0]
      | some i =>
        let s := (s.setEntry i emptyPen).finishUnit .pen .ok 0 [1]
        if seated then s.capDemand else s

/-! ## PEN_CHARGE_MODE (R161) -/

/-- HOLD takes a charging, deferred, topped or paused pen to HELD. -/
def State.holdPen (s : State) : State :=
  match s.pen.state with
  | .charging | .deferred | .topped | .pausedTemp =>
    ((s.setPenState .held 5).setCoilPower 0).hand [.penDemand 0]
  | .absent | .identifying | .held | .fault => s

/-- NORMAL begins an exchange for a held pen. -/
def State.releasePen (s : State) : State :=
  if s.pen.state = .held then (s.updPen fun u => { u with poll := none }).beginExchange else s

def State.setChargeMode (s : State) (mode : Nat) : State :=
  if 1 < mode then s.finishUnit .pen .badParameter 0 []
  else
    let m := if mode = 1 then ChargeMode.hold else .normal
    let s := (s.updPen fun u => { u with mode := m }).hand [.finishMode mode]
    if mode = 1 then s.holdPen else s.releasePen

def State.finishMode (s : State) (mode : Nat) : State :=
  s.finishUnit .pen .ok 0 [word mode, word s.pen.state.code]

end Sys2Proof.Machine
end

