-- ==== Sys2Proof/Machine/Sleep.lean ====
section
/-! DEFINITION. The sleep unit (spec/10): power states, activity and the idle timer, HOLD_AWAKE, lid-close advice,
HOST_STATE, wake sources, WAKE and the power button. -/

namespace Sys2Proof.Machine

/-! ## Advice and the idle timer (R175, R176) -/

/-- The advice becomes another: SLEEP_ADVICE is latched and a SLEEP_ADVICE notice offered. -/
def State.advise (s : State) (after : Advice) (cause : Nat) : State :=
  let before := s.sleep.advice
  ((s.updSleep fun u => { u with advice := after }).touchBoard.latch .sleepAdvice).offerNotice .sleepAdvice cause before.code
    after.code 0

/-- The idle timer takes a state with its idle time remaining: a running timer's field is rewritten at each start and each
1000 ms, any other's in the event that changes it (R176; log 17). -/
def State.setIdle (s : State) (idle : IdleTimer) (shown : Word) : State :=
  let s := s.updSleep fun u => { u with idle := idle, idleShown := shown }
  match idle with
  | .running _ _ => s.touchBoard
  | .stopped => s
  | .elapsed => s

/-- A restart of the idle timer for the committed posture (R176). -/
def State.restartIdle (s : State) : State :=
  match s.idleTimeout with
  | some t => s.setIdle (.running (s.after (t * 1000)) (s.after 1000)) (word (t * 1000))
  | none => s.setIdle .stopped 0xFFFFFFFF

/-- Activity: with the host ON the idle timer restarts and SLEEP_IDLE is withdrawn (R175). -/
def State.activity (s : State) : State :=
  if s.hostOn then
    let s := s.restartIdle
    if s.sleep.advice = .idle then s.advise .none 3 else s
  else s

/-- A band refresh changes a running timer (R176; log 16). -/
def State.sleepRefresh (s : State) : State :=
  if s.hostOn then
    match s.sleep.idle with
    | .running _ _ => if s.idleTimeout = none then s.setIdle .stopped 0xFFFFFFFF else s
    | .stopped => if s.idleTimeout = none then s else s.restartIdle
    | .elapsed => s
  else s

/-- The idle timer's expiry (R176). -/
def State.idleExpired (s : State) : State :=
  let s := s.setIdle .elapsed 0
  if s.sleep.advice = .none ∧ s.sleep.holdAwake = none then s.advise .idle 1 else s

/-- The rewrite of the idle time remaining every 1000 ms (R176). -/
def State.rewriteIdle (s : State) : State :=
  match s.sleep.idle with
  | .running expiry rewrite => s.setIdle (.running expiry (rewrite + 1000)) (expiry - s.now)
  | .stopped => s
  | .elapsed => s

/-! ## HOLD_AWAKE (R177) -/

def State.holdAwake (s : State) (duration : Nat) : State :=
  if 3600000 < duration then s.finishUnit .sleep .badParameter 0 []
  else if !s.hostOn then s.finishUnit .sleep .notNow 1 []
  else
    let deadline : Timer := if duration = 0 then none else s.start duration
    (s.updSleep fun u => { u with holdAwake := deadline }).hand
      [.activity, .finish .sleep .ok 0 [word duration, deadline.getD 0]]

/-- The hold-awake deadline's expiry (R177). -/
def State.holdAwakeExpired (s : State) : State :=
  let s := s.updSleep fun u => { u with holdAwake := none }
  if s.sleep.idle = .elapsed ∧ s.sleep.advice = .none then s.advise .idle 1 else s

/-! ## Lid-close advice (R178) -/

/-- The grace timer's expiry. -/
def State.graceExpired (s : State) : State := (s.updSleep fun u => { u with grace := none }).advise .lidClosed 0

/-- The grace timer starts with the lid-close grace in force; a grace of 0 expires in the same event (log 19). -/
def State.startGrace (s : State) : State :=
  if s.settings.active.lidCloseGrace = 0 then s.graceExpired
  else
    let expiry := s.start s.settings.active.lidCloseGrace
    s.updSleep fun u => { u with grace := expiry }

/-- A posture commit at the grace timer and the lid-close advice. -/
def State.graceCommit (s : State) (before : Posture) : State :=
  let after := s.posture.posture
  if before ≠ .closed ∧ after = .closed then (if s.hostOn then s.startGrace else s)
  else if before = .closed ∧ after ≠ .closed then
    let s := s.updSleep fun u => { u with grace := none }
    if s.sleep.advice = .lidClosed then s.advise .none 2 else s
  else s

/-- A posture commit at the sleep unit: the grace timer, activity, and the wake events (R175, R178, R182). -/
def State.sleepCommit (s : State) (before : Posture) : State :=
  let left := before = .closed ∧ s.posture.posture ≠ .closed
  (s.graceCommit before).hand
    (.activity :: (if left then [.wakeEvent .lidOpen] else []) ++ [.wakeEvent .postureChange])

/-! ## Power states (R173, R174) -/

/-- The readers of a change of part power state, in the order of R174; at a host reset the budget is selected by R172
and BASE_BASIC is reviewed by the reset itself. -/
def powerReaders (before : PowerState) (cause : Nat) : List Task :=
  if cause = 4 then [.sensorPower before, .anglePower, .posturePower, .reportPower before cause]
  else [.sensorPower before, .selectBudget 1, .anglePower, .posturePower, .reportPower before cause, .withdrawBase]

/-- The part power state changes (R174); one the part already holds is no change (R173). -/
def State.setPower (s : State) (after : PowerState) (cause : Nat) : State :=
  let before := s.sleep.power
  if after = before then s
  else
    let s := s.updSleep fun u => { u with power := after, dozeTimer := if after = .active then none else u.dozeTimer }
    ((s.updSensor fun u => { u with lidSupply := decide (after ≠ .standby) }).touchBoard).hand (powerReaders before cause)

def State.reportPower (s : State) (before : PowerState) (cause : Nat) : State :=
  s.offerNotice .powerState cause before.code s.sleep.power.code 0

/-- Whether a wake source is enabled. -/
def State.wakeEnabled (s : State) (w : WakeSource) : Bool := s.sleep.wakeMask.getLsbD w.bit

/-- The base withdrawal: on while in STANDBY without KEY in the mask (R174). -/
def State.withdrawBase (s : State) : State :=
  let on := s.sleep.power == .standby && !s.wakeEnabled .key
  (s.updSleep fun u => { u with withdrawal := on }).reviewBase

/-- The angle unit ends a calibration when the new state is STANDBY (R174). -/
def State.anglePower (s : State) : State := if s.sleep.power = .standby then s.angleStandby else s

/-! ## HOST_STATE (R179, R181) -/

/-- WAKE is deasserted, its timers are stopped and its count is 0. -/
def State.stopWake (s : State) : State :=
  s.updSleep fun u => { u with wake := false, answerTimer := none, gapTimer := none, assertions := 0 }

/-- Step 6 of R179: the advice is withdrawn with a notice and without SLEEP_ADVICE. -/
def State.dropAdvice (s : State) : State :=
  let before := s.sleep.advice
  if before = .none then s
  else (s.updSleep fun u => { u with advice := .none }).touchBoard.offerNotice .sleepAdvice 4 before.code 0 0

/-- SLEEP_ENTER (R179); its words are judged in their order (log 32). -/
def State.enterSleep (s : State) (mask standby : Nat) : State :=
  if 255 < mask then s.finishUnit .sleep .badParameter 1 []
  else if 1 < standby then s.finishUnit .sleep .badParameter 2 []
  else
    let s := (s.updSleep fun u =>
      { u with host := .sleeping, wakeMask := BitVec.ofNat 8 mask, standbyAllowed := standby == 1
               wakeReasons := 0 }).touchWhen (s.hostOn = true ∨ s.sleep.wakeReasons ≠ 0)
    let s := s.stopWake.setIdle .stopped 0xFFFFFFFF
    let s := s.updSleep fun u => { u with grace := none, holdAwake := none }
    s.dropAdvice.hand [.setPower .doze 0, .startDozeTimer, .finish .sleep .ok 0 [word mask]]

/-- Step 8 of R179: the doze-to-standby timer, which runs only in DOZE (R180; log 27). -/
def State.startDozeTimer (s : State) : State :=
  let expiry : Timer :=
    if s.sleep.standbyAllowed ∧ s.sleep.power = .doze then s.start (1000 * s.settings.active.dozeToStandby) else none
  s.updSleep fun u => { u with dozeTimer := expiry }

/-- ON (R181); with the host already ON only steps 3 and 4. -/
def State.turnOn (s : State) : State :=
  let wasOn := s.hostOn
  let s := (s.updSleep fun u => { u with host := .on }).touchWhen (wasOn = false)
  if wasOn then s.hand [.resumeHost true] else s.hand [.setPower .active 3, .resumeHost false]

/-- Steps 3 to 7 of R181, and the finish. -/
def State.resumeHost (s : State) (wasOn : Bool) : State :=
  let s := (s.stopWake.updSleep fun u => { u with dozeTimer := none }).reportInactive .wakeUnanswered
  let s :=
    if wasOn then s
    else
      let s := s.restartIdle
      if s.posture.posture = .closed then s.startGrace else s
  s.finishUnit .sleep .ok 0 [word s.sleep.wakeReasons.toNat]

/-- HOST_STATE: its action, and for SLEEP_ENTER its two words (R179, R181). -/
def State.hostState (s : State) (action mask standby : Nat) : State :=
  if 1 < action then s.finishUnit .sleep .badParameter 0 []
  else if action = 1 then s.enterSleep mask standby
  else s.turnOn

/-- The doze-to-standby timer's expiry (R180). -/
def State.dozeExpired (s : State) : State :=
  let s := s.updSleep fun u => { u with dozeTimer := none }
  if s.sleep.power = .doze then s.setPower .standby 1 else s

/-! ## Wake (R182 to R184) -/

/-- WAKE is asserted for an answer of 10 s. -/
def State.assertWake (s : State) (count : Nat) : State :=
  let expiry := s.start 10000
  s.updSleep fun u => { u with wake := true, assertions := count, answerTimer := expiry, gapTimer := none }

/-- A wake event (R182, R183); an enabled one rewrites the board, its reason already held or not. -/
def State.wakeEvent (s : State) (w : WakeSource) : State :=
  if s.sleep.host = .sleeping ∧ s.wakeEnabled w = true then
    let s := s.updSleep fun u => { u with wakeReasons := u.wakeReasons ||| BitVec.ofNat 8 (2 ^ w.bit) }
    let s := s.touchBoard.hand [.setPower .active 2]
    if s.sleep.wake = false ∧ s.sleep.answerTimer = none ∧ s.sleep.gapTimer = none then s.assertWake 1 else s
  else s

/-- The answer timer's expiry (R184). -/
def State.answerExpired (s : State) : State :=
  if s.sleep.assertions = 4 then
    (s.updSleep fun u => { u with wake := false, answerTimer := none, assertions := 0 }).reportActive .wakeUnanswered
  else
    let expiry := s.start 10
    s.updSleep fun u => { u with wake := false, answerTimer := none, gapTimer := expiry }

/-- The gap timer's expiry (R184). -/
def State.gapExpired (s : State) : State := s.assertWake (s.sleep.assertions + 1)

/-! ## The power button (R185) -/

def State.buttonChange (s : State) (pressed : Bool) : State :=
  let started := s.start 30
  if s.isRunning then s.updSleep fun u => { u with button := u.button.change pressed started }
  else s.updSleep fun u => { u with button := u.button.unwatched pressed }

/-- The debounced POWER_BUTTON level changes; a press is noticed and activity, or a wake event. -/
def State.buttonSettle (s : State) : State :=
  let was := s.sleep.button.level
  let s := s.updSleep fun u => { u with button := u.button.settle }
  if s.sleep.button.level ∧ was = false then
    (if s.hostOn then (s.offerNotice .powerButton 0 0 0 0).hand [.activity] else s.hand [.wakeEvent .powerButton])
  else s

/-! ## Host reset (R186) -/

/-- Steps 1 to 6 of R186, and the end of the base withdrawal. -/
def State.resetSleep (s : State) : State :=
  let s := s.stopWake.updSleep fun u =>
    { u with host := .on, advice := .none, holdAwake := none, wakeReasons := 0, wakeMask := defaultWakeMask
             standbyAllowed := false, dozeTimer := none, withdrawal := false }
  s.reportInactive .wakeUnanswered

/-- Steps 8 and 9 of R186. -/
def State.resetSleepEnd (s : State) : State :=
  let s := s.restartIdle.updSleep fun u => { u with grace := none }
  if s.posture.posture = .closed then s.startGrace else s

end Sys2Proof.Machine
end

