-- ==== Sys2Proof/Machine/SettingsUnit.lean ====
section
/-! DEFINITION. The settings unit's requests (spec/02): APPLY_SETTINGS, LOCK_SETTINGS, RESET_JOURNAL, ACK_FAULT; and how each
request taken from the post queue is served. -/

namespace Sys2Proof.Machine

/-! ## APPLY_SETTINGS (R28 to R30) -/

/-- The offset of a setting's word. -/
def settingOffset (i : Nat) : Nat := settingsBase + 4 * i

/-- The setting words of the block, in table order. -/
def Memory.settingWords (m : Memory) : List Nat :=
  (List.range settingRanges.length).map fun i => m.getLE (settingOffset i) 4

/-- A value brought into its range. -/
def SettingRange.clamp (r : SettingRange) (v : Nat) : Nat := if v < r.lowest then r.lowest else min v r.highest

/-- Each value clamped to its own range. -/
def clampOwn (v : List Nat) : List Nat := List.zipWith SettingRange.clamp settingRanges v

/-- The places of the pen charge target and the pen top-up threshold in the table. -/
def penTargetIndex : Nat := 13
def penTopUpIndex : Nat := 14

/-- The cross-field rule: the top-up threshold lies below the charge target (R29). -/
def crossField (v : List Nat) : List Nat :=
  let target := v.getD penTargetIndex 0
  if v.getD penTopUpIndex 0 < target then v else v.set penTopUpIndex (target - 1)

/-- The settings a block gives: clamped, then the cross-field rule (R28, R29). -/
def settle (v : List Nat) : List Nat := crossField (clampOwn v)

/-- The offsets of the words whose value changed, lowest first, from index i upward: the value taken beside the value
given, so a word that clamping and R29 bring back to its value is not counted (log 29). -/
def changedOffsets (i : Nat) : List Nat → List Nat → List Nat
  | a :: as, b :: bs => if a = b then changedOffsets (i + 1) as bs else settingOffset i :: changedOffsets (i + 1) as bs
  | _, _ => []

/-- Writes the settings back into the block, from index i upward; words that did not change keep their value. -/
def Memory.putSettings (m : Memory) (i : Nat) : List Nat → Memory
  | [] => m
  | v :: vs => Memory.putSettings (m.putLE (settingOffset i) 4 v) (i + 1) vs

/-- APPLY_SETTINGS (R28), with what the units tie to the change (R30, R82, R163). -/
def State.applySettings (s : State) : State :=
  if s.settings.locked then s.finishUnit .settings .locked 0 []
  else
    let given := s.mem.settingWords
    let taken := settle given
    let changed := changedOffsets 0 given taken
    let offset := s.settings.active.offset
    let s := s.setMem (s.mem.putSettings 0 taken)
    let s := s.updSettings fun u => { u with active := Settings.ofList taken, generation := u.generation + 1 }
    let s := if s.settings.active.offset = offset then s else s.restartCollection
    s.hand
      [.selectBudget 2,
       .finish .settings .ok 0 [word changed.length, word (changed.headD 0), s.settings.generation]]

/-! ## LOCK_SETTINGS (R31) -/

def State.lockSettings (s : State) : State :=
  if s.settings.locked then s.finishUnit .settings .locked 0 []
  else (s.updSettings fun u => { u with locked := true }).finishUnit .settings .ok 0 []

/-! ## RESET_JOURNAL (R32) -/

/-- The number of a journal. -/
def journalOfNumber : Nat → Option (Fin 3)
  | 0 => some 0 | 1 => some 1 | 2 => some 2 | _ => none

/-- A journal's counts and flags at zero. -/
def Journal.zero : Journal := { writeCount := 0, readCount := 0, drops := 0, full := false, invalidCount := false }

/-- Empties one journal; the Notice Journal loses its gap count, the Input Journal its quiet timer. -/
def State.emptyJournal (s : State) (j : Fin 3) : State :=
  (s.updJournalOf j fun _ => Journal.zero).updJournal fun u =>
    { u with gap := if j = noticeJournal then 0 else u.gap, quiet := if j = inputJournal then none else u.quiet }

def State.resetJournal (s : State) (number : Nat) : State :=
  match journalOfNumber number with
  | none => s.finishUnit .settings .badParameter 0 []
  | some j =>
    let words := [word (s.used j), word (s.journalOf j).drops]
    let s := s.emptyJournal j
    s.hand ((if j = inputJournal then [.serveReceiveQueue] else []) ++ [.finish .settings .ok 0 words])

/-! ## ACK_FAULT (R35) -/

/-- The fault kind of a code. -/
def FaultKind.ofCode : Nat → Option FaultKind
  | 0 => some .lidSensor | 1 => some .hallConflict | 2 => some .baseLink | 3 => some .baseSupply
  | 4 => some .latchCoil | 5 => some .penUnresponsive | 6 => some .penBattery | 7 => some .wakeUnanswered
  | _ => none

/-- An inactive entry is zeroed and rewritten on the board, even where it was zero (R35). -/
def State.ackFault (s : State) (code : Nat) : State :=
  match FaultKind.ofCode code with
  | none => s.finishUnit .settings .badParameter 0 []
  | some k =>
    let e := s.faultEntry k
    if e.active then s.finishUnit .settings .notNow 1 []
    else
      (s.setFault k { active := false, count := 0, firstActive := 0 }).touchBoard.finishUnit .settings .ok 0
        [word e.count]

/-! ## Serving a request -/

/-- A unit serves the request of a slot from the copy of its body (R12). -/
def State.serve (s : State) (n : Fin 32) (r : Request) : State :=
  match r with
  | .applySettings => s.applySettings
  | .lockSettings => s.lockSettings
  | .loadPostureTable => s.loadTable (s.param n 0)
  | .resetJournal => s.resetJournal (s.param n 0)
  | .ackFault => s.ackFault (s.param n 0)
  | .calibrateHinge => s.beginCalibration
  | .setRotationLock => s.lockRotation (s.param n 0) (s.param n 1)
  | .detach => s.detachClaim (.host n)
  | .setBacklight => s.setBacklight (s.param n 0)
  | .penAccept => s.acceptPen (word (s.param n 0))
  | .penForget => s.forgetPen (s.param n 0) (word (s.param n 1))
  | .penChargeMode => s.setChargeMode (s.param n 0)
  | .setPowerSource => s.setSource (s.param n 0)
  | .hostState => s.hostState (s.param n 0) (s.param n 1) (s.param n 2)
  | .holdAwake => s.holdAwake (s.param n 0)

end Sys2Proof.Machine
end

