-- ==== Sys2Proof/Machine/Board.lean ====
section
/-! DEFINITION. The Status Board (R25, R26) as its words are composed from the units' state, the bracket at the end of an
event, and what a host read returns (R1 to R3; log 12, log 22). -/

namespace Sys2Proof.Machine

/-- A word from four bytes, least significant first. -/
def bytes4 (a b c d : Nat) : Word := word (a % 256 + 256 * (b % 256) + 65536 * (c % 256) + 16777216 * (d % 256))

/-- A word from two half words. -/
def halves (a b : Nat) : Word := word (a % 65536 + 65536 * (b % 65536))

/-- The candidate posture shown: the posture of the candidate band, or the committed posture. -/
def State.candidateShown (s : State) : Posture :=
  match s.posture.candidate with
  | none => s.posture.posture
  | some i =>
    match s.settings.table[i]? with
    | some b => b.posture
    | none => s.posture.posture

/-- The two words of a fault table entry. -/
def FaultEntry.words (e : FaultEntry) : List Word := [bytes4 (boolNat e.active) e.count 0 0, e.firstActive]

/-- The three words of a paired-pen table entry. -/
def PairedPen.words (e : PairedPen) : List Word := [e.identity, bytes4 e.soc 0 0 0, e.lastSeen]

/-- Words 0x0008 to 0x0044 of the Status Board (spec/01, "Status Board"). -/
def State.boardFields (s : State) : List Word :=
  [bytes4 s.sleep.power.code s.sleep.host.code s.sleep.advice.code s.allot.source.code,
   bytes4 s.posture.posture.code s.candidateShown.code (boolNat s.posture.outOfTable) s.bandShown,
   word (s.angle.reported % 65536 + 65536 * s.angle.quality.code + 16777216 * s.angle.side.code),
   bytes4 s.posture.basePose.code s.posture.oriented.code s.posture.sensed.code (boolNat s.posture.lock.isSome),
   bytes4 (boolNat s.posture.flat) s.link.state.code s.attach.state.code s.allot.level,
   halves s.link.keyDropped s.link.overruns,
   word (s.pen.state.code + 256 * s.pen.soc + 65536 * (BitVec.ofInt 16 s.pen.temperature).toNat),
   s.pen.identity,
   halves s.pen.coilPower s.allot.budget,
   halves s.allot.grant.coil s.allot.grant.base,
   halves s.allot.grant.pen s.allot.grant.backlight,
   bytes4 s.sleep.wakeReasons.toNat 0 (boolNat s.settings.locked) 0,
   s.sleep.idleShown,
   s.settings.generation,
   bytes4 s.port.capture.kind.code (boolNat s.port.capture.more) (windowCode s.port.capture.window) 0,
   word s.port.capture.offset]

/-- Every field of the Status Board but the update count and part time: words 0x0008 to 0x00B4. -/
def State.boardWords (s : State) : List Word :=
  s.boardFields ++ s.settings.faults.toList.flatMap FaultEntry.words ++ s.pen.table.toList.flatMap PairedPen.words

/-- The bracket of an event (R25): when a field was rewritten, the update count goes up by two and the part-time field
takes part time. -/
def State.closeBoard (s before : State) : State :=
  if s.port.boardTouched || decide (s.boardWords ≠ before.boardWords) then
    let now := s.now
    s.updPort fun p => { p with updateCount := p.updateCount + 2, boardTime := now, boardTouched := false }
  else s

/-! ## Host reads (R1, R2, R3) -/

/-- A word of the Status Board. -/
def State.boardWord (s : State) (a : Nat) : Word :=
  if a = 0 then s.port.updateCount
  else if a = 4 then s.port.boardTime
  else s.boardWords.getD (a / 4 - 2) 0

/-- A Journal Control word of a journal (spec/01, "Journal Control"). -/
def Journal.controlWord (q : Journal) : Nat → Word
  | 0 => q.writeCount.setWidth 32
  | 1 => q.readCount.setWidth 32
  | 2 => word q.drops
  | _ => word (boolNat q.full + 2 * boolNat q.invalidCount)

/-- A word of the exchange window. -/
def State.exchangeWord (s : State) (a : Nat) : Word :=
  if a < 0x0100 then s.boardWord a
  else if a < 0x0500 then s.mem.getWord a
  else if a < 0x0D00 then
    (if (a - 0x0500) % 64 = 0 then
      word ((s.slotState (Fin.ofNat 32 ((a - 0x0500) / 64))).code + 256 * s.mem.getLE (a + 1) 3)
    else s.mem.getWord a)
  else if a < 0x0D30 then (s.journalOf (Fin.ofNat 3 ((a - 0x0D00) / 16))).controlWord ((a - 0x0D00) % 16 / 4)
  else if a < 0x0E00 then 0
  else if a < 0x3000 then s.mem.getWord a
  else 0

/-- A word of the control window. -/
def State.controlWord (s : State) (a : Nat) : Word :=
  if a = 0x100 then s.port.attnLatch.setWidth 32
  else if a = 0x104 then s.port.attnMask.setWidth 32
  else if a = 0x108 then word s.attnTop
  else if a = 0x10C then s.partState
  else 0

/-- What a host read returns: the word that contains the address; zero while HRST is asserted. -/
def State.hostRead (s : State) (w : Window) (offset : Nat) : Word :=
  if s.port.hrst then 0
  else
    match w with
    | .exchange => s.exchangeWord (offset / 4 * 4)
    | .control => s.controlWord (offset / 4 * 4)

end Sys2Proof.Machine
end

