-- ==== Sys2Proof/Machine/Port.lean ====
section
/-! DEFINITION. Host accesses at the port unit: the region access table (R2, R6), the control window (R3), read counts (R17),
releases (R8, R9, R143) and the line HRST (R1). -/

namespace Sys2Proof.Machine

/-! ## Read counts (R17) -/

/-- The exchange offset of a journal's read-count word. -/
def readCountOffset (j : Fin 3) : Nat := 0x0D00 + 16 * j.val + 4

/-- R after a read-count event: the new value if used then lies within capacity, else W with the invalid-count flag. -/
def Journal.moveRead (j : Fin 3) (q : Journal) (r : Half) : Journal :=
  if (q.writeCount - r).toNat ≤ journalCapacity j then
    Journal.refresh j { q with readCount := r, invalidCount := false }
  else Journal.refresh j { q with readCount := q.writeCount, invalidCount := true }

/-- A read-count event (R17, R20). -/
def State.moveReadCount (s : State) (j : Fin 3) (data : Word) : State :=
  let r : Half := data.setWidth 16
  let valid := decide (((s.journalOf j).writeCount - r).toNat ≤ journalCapacity j)
  let roomBefore := s.room j
  let s := s.updJournalOf j fun q => q.moveRead j r
  let s := if valid then s else s.recordError .countInvalid (readCountOffset j) .exchange
  let s :=
    if j = noticeJournal ∧ 0 < s.journal.gap ∧ 1 ≤ s.room noticeJournal then s.writeGap.setGap 0 else s
  if j = inputJournal ∧ roomBefore < s.room inputJournal then s.hand [.serveReceiveQueue] else s

/-! ## RELEASE (R8, R9) -/

/-- The unit that is serving a slot. -/
def State.unitServing (s : State) (n : Fin 32) : Option ServingUnit :=
  [.settings, .angle, .posture, .base, .pen, .power, .sleep].find? fun u => s.servingSlot u == some n

/-- A RELEASE of a TAKEN slot: cancelled where the request's chapter allows it, abandoned otherwise (R9, R81, R143). -/
def State.releaseTaken (s : State) (n : Fin 32) : State :=
  match s.unitServing n with
  | some .angle => (s.setCalibration none).cancelSlot .angle n
  | some .base => if s.detachCancellable n then s.cancelDetach n else s.setSlot n (.taken true)
  | _ => s.setSlot n (.taken true)

/-- A RELEASE of slot n (R8). -/
def State.releaseSlot (s : State) (n : Fin 32) : State :=
  match s.slotState n with
  | .free => s
  | .posted => (s.setSlot n .free).updDispatch fun d => { d with queue := d.queue.filter (· ≠ n) }
  | .taken false => s.releaseTaken n
  | .taken true => s
  | .done => s.setSlot n .free

/-! ## Writes (R2, R3, R6) -/

/-- A word stored by the host. -/
def State.storeWord (s : State) (a : Nat) (data : Word) : State := s.setMem (s.mem.putLE a 4 data.toNat)

/-- A taken write to a slot word; in the first word the state byte keeps the dispatcher's value (R6). -/
def State.storeSlotWord (s : State) (a : Nat) (data : Word) : State :=
  if (a - 0x0500) % 64 = 0 then s.setMem (s.mem.putLE (a + 1) 3 (data.toNat / 256)) else s.storeWord a data

/-- A write to a slot word (R6). -/
def State.writeSlotWord (s : State) (a : Nat) (data : Word) : State :=
  match s.slotState (Fin.ofNat 32 ((a - 0x0500) / 64)) with
  | .free | .done => s.storeSlotWord a data
  | .posted | .taken _ => s.recordError .slotBusy a .exchange

/-- The region access table (R2), for an aligned full word. -/
def State.writeExchange (s : State) (a : Nat) (data : Word) : State :=
  if a < 0x0100 then s.recordError .partRegion a .exchange
  else if a < 0x0500 then (if s.settings.locked then s.recordError .settingsLocked a .exchange else s.storeWord a data)
  else if a < 0x0D00 then s.writeSlotWord a data
  else if a < 0x0D30 then
    (if a % 16 = 4 then s.moveReadCount (Fin.ofNat 3 ((a - 0x0D00) / 16)) data
     else s.recordError .partRegion a .exchange)
  else if a < 0x0E00 then s.recordError .outside a .exchange
  else if a < 0x1000 then s.storeWord a data
  else if a < 0x3000 then s.recordError .partRegion a .exchange
  else s.recordError .outside a .exchange

/-- ATTN_MASK takes bits 0..9 of the data (R23). -/
def State.setMask (s : State) (data : Word) : State := s.updPort fun p => { p with attnMask := data.setWidth 10 }

/-- The control window (R3), for an aligned full word. -/
def State.writeControl (s : State) (a : Nat) (data : Word) : State :=
  if a < 0x100 then
    (if a % 8 = 0 then s.postSlot (Fin.ofNat 32 (a / 8)) else s.releaseSlot (Fin.ofNat 32 (a / 8)))
  else if a = 0x100 then s.clearCauses data
  else if a = 0x104 then s.setMask data
  else s.recordError .readOnly a .control

/-- A host write inside its window: ignored while HRST is asserted, refused when misaligned or partial (R1). -/
def State.hostWrite (s : State) (w : Window) (offset : Nat) (lanes : BitVec 4) (data : Word) : State :=
  if s.port.hrst then s
  else if offset % 4 ≠ 0 ∨ lanes ≠ 0xF then s.recordError .misaligned offset w
  else
    match w with
    | .exchange => s.writeExchange offset data
    | .control => s.writeControl offset data

/-- A host access with a row of its own is a full aligned word write, ignored while HRST is asserted (R1). -/
def State.whenOpen (s : State) (f : State → State) : State := if s.port.hrst then s else f s

/-! ## Requests as the host makes them (log 5) -/

/-- Parameter words written from index i upward. -/
def State.writeParams (s : State) (n : Fin 32) (i : Nat) : List Word → State
  | [] => s
  | w :: ws => State.writeParams (s.writeSlotWord (slotBase n + 4 + 4 * i) w) n (i + 1) ws

/-- The accesses of a request: the first slot word with code and tag, the parameter words, and the POST. -/
def State.makeRequest (s : State) (n : Fin 32) (r : Request) (tag : Half) (params : List Word) : State :=
  s.whenOpen fun s =>
    ((s.writeSlotWord (slotBase n) (word (256 * r.code + 65536 * tag.toNat))).writeParams n 0 params).postSlot n

end Sys2Proof.Machine
end

