-- ==== Sys2Proof/Machine/Start.lean ====
section
/-! DEFINITION. Power-on reset (R37), the end of the self-check (R38) and host reset (R39 to R41, with R14, R96, R125, R144,
R172 and R186). -/

namespace Sys2Proof.Machine

/-! ## Power-on (R37) -/

/-- A debounced line after power-on reset: the line keeps its level, the debounced level is false. -/
def DebouncedLine.powerOn (d : DebouncedLine) : DebouncedLine := { quietLine with line := d.line }

/-- Power-on reset: every unit takes its power-on value; the levels of the part's input lines and the VBASE voltage are
not the part's to change, nor are the model's queue and counter (log 8, log 9). -/
def State.powerOn (s : State) : State :=
  { State.reset with
    port := { PortUnit.reset with hrst := s.port.hrst }
    sensor := { SensorUnit.reset with lidClosed := s.sensor.lidClosed.powerOn, foldBack := s.sensor.foldBack.powerOn }
    attach := { AttachUnit.reset with detect := s.attach.detect.powerOn }
    pen := { PenUnit.reset with penIn := s.pen.penIn.powerOn }
    sleep := { SleepUnit.reset with button := s.sleep.button.powerOn }
    allot := { AllotUnit.reset with voltageLow := s.allot.voltageLow }
    pending := s.pending
    choices := s.choices }

/-! ## The end of the self-check (R38) -/

/-- The sampled hall levels become the debounced levels and seed the side memory; each line's debounce begins. -/
def State.takeHalls (s : State) (lidClosed foldBack : Bool) : State :=
  let started := s.start 20
  (s.updSensor fun u =>
    { u with lidClosed := { u.lidClosed with level := lidClosed }.begin started
             foldBack := { u.foldBack with level := foldBack }.begin started }).seedSide foldBack

/-- A failed signature read: LID_SENSOR active, F 3 and G 0 (R38, R45). -/
def State.failSignature (s : State) : State :=
  (s.reportActive .lidSensor).updSensor fun u => { u with failRun := 3, goodRun := 0 }

/-- Every unit begins its operation: the lines are watched, and the first sample period starts. -/
def State.beginOperation (s : State) : State :=
  let detect := s.start 50
  let penIn := s.start 100
  let button := s.start 30
  let s := s.updPort fun p => { p with phase := .running, selfCheck := .done }
  let s := s.updAttach fun u => { u with detect := u.detect.begin detect }
  let s := s.updPen fun u => { u with penIn := u.penIn.begin penIn }
  let s := s.updSleep fun u => { u with button := u.button.begin button }
  s.startPeriod.handLast .considerQueue

/-- The end of the self-check; a ROM entry other than 512 ends nothing and leaves the part BOOTING (R38). -/
def State.endSelfCheck (s : State) (romEntry : Half) (status : Byte) (lidClosed foldBack : Bool) : State :=
  if s.port.selfCheck = .underway then
    if romEntry = 512 then
      let s := s.takeHalls lidClosed foldBack
      let s := if signatureGood status then s else s.failSignature
      s.beginOperation
    else s.updPort fun p => { p with selfCheck := .failed }
  else s

/-! ## Host reset (R39) -/

/-- The host-facing state of the port unit. -/
def State.resetPort (s : State) : State :=
  s.touchBoard.updPort fun p =>
    { p with hrst := false, resetKind := .hostReset, attnLatch := 0, attnMask := 0, capture := Capture.empty }

/-- The dispatcher, the journals and the settings unit; the fault table is kept (R14, R15, R27, R36). -/
def State.resetHostSide (s : State) : State :=
  let s := s.updDispatch fun _ => Dispatcher.reset
  let s := s.updJournal fun _ => JournalUnit.reset
  let s := s.updSettings fun u =>
    { u with active := Settings.defaults, generation := 0, locked := false, table := defaultTable }
  s.setMem (s.mem.clear 0x0100 0x0D00)

/-- The budget and the withdrawal of the coil claim, in either order (R172; log 10). -/
def budgetAndClaim (budgetFirst : Bool) (phase : Option ReleasePhase) : List Task :=
  if budgetFirst then .selectBudget 3 :: resetAttachTasks phase else resetAttachTasks phase ++ [.selectBudget 3]

/-- Host reset, taken when HRST is released (R39, R40; log 24). A release is handled by the phase that stands when the reset
is taken (R144), and the receive queue is served at the end, by the gate of the fresh posture (R125). -/
def State.hostReset (s : State) : State :=
  let s := (s.resetPort.resetHostSide.setCalibration none).resetPosture
  let s := (s.updAllot fun u => { u with source := .battery }).closeGate
  let phase := s.attach.phase
  let s := s.resetSleep.resetAttach
  let (choice, s) := s.nextChoice
  s.hand
    (.setPower .active 4 :: budgetAndClaim (Config.budgetTakenFirst choice) phase ++
      [.reviewBase, .freshEvaluation 5, .resetSleepEnd, .serveAfterReset])

end Sys2Proof.Machine
end

