-- ==== Sys2Proof/Machine/Cascade.lean ====
section
/-! DEFINITION. What one unit hands to another inside an event, carried to the end (spec/00, "Events"; log 1, log 2); the
frame every command's meaning goes through. -/

namespace Sys2Proof.Machine

/-- Carries one hand-on: the receiving unit's own rule, on the state as it stands. -/
def doTask (t : Task) (s : State) : State :=
  match t with
  | .considerQueue => s.considerQueue
  | .serve n r => s.serve n r
  | .finish u code detail words => s.finishUnit u code detail words
  | .finishLoad n => s.finishLoad n
  | .finishBacklight => s.finishBacklight
  | .finishSource before => s.finishSource before
  | .finishLock shown => s.finishLock shown
  | .finishMode mode => s.finishMode mode
  | .serveReceiveQueue => s.serveReceiveQueue
  | .serveAfterReset => s.serveReceiveQueue
  | .servePacket r => s.servePacket r
  | .evaluateOrientation set => s.evaluateOrientation set
  | .commitPosture p band cause => s.commitPosture p band cause
  | .reportPosture before cause => s.reportPosture before cause
  | .gateRotation => s.gateRotation
  | .freshEvaluation cause => s.freshEvaluation cause
  | .publishFlags => s.publishFlags
  | .sleepCommit before => s.sleepCommit before
  | .sleepRefresh => s.sleepRefresh
  | .activity => s.activity
  | .wakeEvent w => s.wakeEvent w
  | .postureAttach => s.commitDetached
  | .angleAttach => s.angleDetached
  | .sensorAttach => s.sensorAttach
  | .linkAttach => s.followGate
  | .sleepAttach before after => s.sleepAttach before after
  | .attachLink => s.attachLink
  | .linkDetect => s.linkDetect
  | .allotDetect => s.allotDetect
  | .askQuiesce => s.askQuiesce
  | .askResume => s.askResume
  | .awaitRemoval => s.awaitRemoval
  | .returnToRest cause => s.returnToRest cause
  | .ackQuiesce => s.ackQuiesce
  | .detachClaim c => s.detachClaim c
  | .coilDemand up => s.coilDemand up
  | .coilAnswer => s.coilAnswer
  | .offerWelcome => s.offerWelcome
  | .stateBacklight => s.stateBacklight
  | .penDemand d => s.penDemand d
  | .penDecide => s.penDecide
  | .reviewBase => s.reviewBase
  | .baseFaultedOff => s.baseFaultedOff
  | .selectBudget cause => s.selectBudget cause
  | .recompute => s.recompute
  | .linkGrant => s.linkGrant
  | .penGrant => s.penGrant
  | .backlightGrant => s.backlightGrant
  | .settleIncreases => s.settleIncreases
  | .confirmDecrease c => s.confirmDecrease c
  | .ackLight => s.ackLight
  | .setPower after cause => s.setPower after cause
  | .reportPower before cause => s.reportPower before cause
  | .sensorPower before => s.sensorPower before
  | .anglePower => s.anglePower
  | .posturePower => s.posturePower
  | .withdrawBase => s.withdrawBase
  | .startDozeTimer => s.startDozeTimer
  | .resumeHost wasOn => s.resumeHost wasOn
  | .resetSleepEnd => s.resetSleepEnd
  | .offerRate => s.offerRate

/-- Carries the hand-ons that wait, front first, up to a number of them. -/
def runTasks : Nat → State → State
  | 0, s => s
  | n + 1, s =>
    match s.tasks with
    | [] => s
    | t :: rest => runTasks n (doTask t (s.setTasks rest))

/-- An event begins with no hand-on waiting and no board field rewritten. -/
def State.openEvent (s : State) : State := (s.setTasks []).updPort fun p => { p with boardTouched := false }

/-- The whole of an event: what is done at its unit, every hand-on, and the Status Board's bracket (log 2). -/
def State.event (s : State) (f : State → State) : State :=
  ((runTasks Config.handOnLimit (f s.openEvent)).setTasks []).closeBoard s

/-- A timer's expiry event: part time reaches the expiry; a stopped timer has none (log 4). -/
def State.atExpiry (s : State) (t : Timer) (f : State → State) : State :=
  match t with
  | none => s
  | some expiry => f (s.reach expiry)

/-- The outcome of a command that is an event of the part. -/
def takeEvent (s : State) (f : State → State) : Host.Outcome State Fault Refusal := .next (s.event f)

end Sys2Proof.Machine
end

