-- ==== Sys2Proof/Machine/AttachCommands.lean ====
section
/-! DEFINITION. The events of the attachment unit. -/

namespace Sys2Proof.Machine

/-- DETECT_LINE_CHANGE (R126). -/
def execDetectLineChange (present : Bool) (s : State) : Host.Outcome State Fault Refusal :=
  takeEvent s fun s => s.detectChange present

/-- DETECT_DEBOUNCE_EXPIRY (R126). -/
def execDetectDebounceExpiry (s : State) : Host.Outcome State Fault Refusal :=
  takeEvent s fun s => s.atExpiry s.attach.detect.timer State.detectSettle

/-- QUIESCE_TIMER_EXPIRY (R133). -/
def execQuiesceTimerExpiry (s : State) : Host.Outcome State Fault Refusal :=
  takeEvent s fun s => s.atExpiry s.attach.quiesceTimer State.quiesceExpired

/-- COIL_CURRENT_SEEN (R136). -/
def execCoilCurrentSeen (s : State) : Host.Outcome State Fault Refusal := takeEvent s State.coilCurrent

/-- SENSE_TIMER_EXPIRY (R136). -/
def execSenseTimerExpiry (s : State) : Host.Outcome State Fault Refusal :=
  takeEvent s fun s => s.atExpiry s.attach.senseTimer State.senseExpired

/-- PULSE_TIMER_EXPIRY (R140). -/
def execPulseTimerExpiry (s : State) : Host.Outcome State Fault Refusal :=
  takeEvent s fun s => s.atExpiry s.attach.pulseTimer State.pulseExpired

/-- WINDOW_TIMER_EXPIRY (R140). -/
def execWindowTimerExpiry (s : State) : Host.Outcome State Fault Refusal :=
  takeEvent s fun s => s.atExpiry s.attach.windowTimer State.windowExpired

/-- PULSE_AGE_OUT (R139): 60000 ms after the start of the oldest entry. -/
def execPulseAgeOut (s : State) : Host.Outcome State Fault Refusal :=
  takeEvent s fun s => s.atExpiry (s.attach.pulses.head?.map fun start => start + 60000) State.agePulse

end Sys2Proof.Machine
end

