-- ==== Sys2Proof/Machine/HostCommands.lean ====
section
/-! DEFINITION. The resets, HRST and the host's accesses. -/

namespace Sys2Proof.Machine

/-- POWER_ON_RESET (R37). -/
def execPowerOnReset (s : State) : Host.Outcome State Fault Refusal := .next s.powerOn

/-- SELF_CHECK_END (R38). -/
def execSelfCheckEnd (romEntry : Half) (status : Byte) (lidClosed foldBack : Bool) (s : State) :
    Host.Outcome State Fault Refusal :=
  takeEvent s fun s => s.endSelfCheck romEntry status lidClosed foldBack

/-- HRST_ASSERT (R1). -/
def execHrstAssert (s : State) : Host.Outcome State Fault Refusal :=
  takeEvent s fun s => s.updPort fun p => { p with hrst := true }

/-- HOST_RESET (R39). -/
def execHostReset (s : State) : Host.Outcome State Fault Refusal := takeEvent s State.hostReset

/-- HOST_WRITE (R2); an offset in neither window does not exist on the part. -/
def execHostWrite (w : Window) (offset : Nat) (lanes : BitVec 4) (data : Word) (s : State) :
    Host.Outcome State Fault Refusal :=
  if windowSize w ≤ offset then .fault (.outsideWindows w offset)
  else takeEvent s fun s => s.hostWrite w offset lanes data

/-- READ_COUNT_WRITE (R17). -/
def execReadCountWrite (j : Fin 3) (data : Word) (s : State) : Host.Outcome State Fault Refusal :=
  takeEvent s fun s => s.whenOpen fun s => s.moveReadCount j data

/-- POST (R7). -/
def execPost (n : Fin 32) (s : State) : Host.Outcome State Fault Refusal :=
  takeEvent s fun s => s.whenOpen fun s => s.postSlot n

/-- RELEASE (R8). -/
def execRelease (n : Fin 32) (s : State) : Host.Outcome State Fault Refusal :=
  takeEvent s fun s => s.whenOpen fun s => s.releaseSlot n

/-- ATTN_LATCH_WRITE (R22). -/
def execAttnLatchWrite (data : Word) (s : State) : Host.Outcome State Fault Refusal :=
  takeEvent s fun s => s.whenOpen fun s => s.clearCauses data

/-- ATTN_MASK_WRITE (R23). -/
def execAttnMaskWrite (data : Word) (s : State) : Host.Outcome State Fault Refusal :=
  takeEvent s fun s => s.whenOpen fun s => s.setMask data

/-- INPUT_QUIET_FLUSH_EXPIRY (R19). -/
def execInputQuietFlushExpiry (s : State) : Host.Outcome State Fault Refusal :=
  takeEvent s fun s => s.atExpiry s.journal.quiet fun s =>
    let s := s.updJournal fun u => { u with quiet := none }
    if 0 < s.used inputJournal then s.latch .input else s

end Sys2Proof.Machine
end

