-- ==== Sys2Proof/Machine/LinkCommands.lean ====
section
/-! DEFINITION. The events of the base link unit. -/

namespace Sys2Proof.Machine

/-- PACKET_ARRIVAL (R116); bytes that spell no good packet are a discard (R106; log 13). -/
def execPacketArrival (bytes : List Byte) (s : State) : Host.Outcome State Fault Refusal :=
  takeEvent s fun s =>
    match parsePacket bytes with
    | some p => s.packetArrived p
    | none => s.discardPacket (discardReason bytes)

/-- PACKET_DISCARD (R106). -/
def execPacketDiscard (reason : DiscardReason) (s : State) : Host.Outcome State Fault Refusal :=
  takeEvent s fun s => s.discardPacket reason

/-- TRANSMIT_COMPLETE (R107). -/
def execTransmitComplete (s : State) : Host.Outcome State Fault Refusal := takeEvent s State.transmitDone

/-- The link timer's expiry, if it runs as the given kind. -/
def State.linkTimer (s : State) (k : LinkTimerKind) : Timer :=
  match s.link.timer with
  | some (kind, expiry) => if kind = k then some expiry else none
  | none => none

/-- POWER_UP_TIMER_EXPIRY (R110, R111). -/
def execPowerUpTimerExpiry (s : State) : Host.Outcome State Fault Refusal :=
  takeEvent s fun s => s.atExpiry (s.linkTimer .powerUp) fun s => s.enterGreeting 0

/-- GREETING_TIMER_EXPIRY (R111). -/
def execGreetingTimerExpiry (s : State) : Host.Outcome State Fault Refusal :=
  takeEvent s fun s => s.atExpiry (s.linkTimer .greeting) State.greetingExpired

/-- SUPERVISION_TIMER_EXPIRY (R112, R113). -/
def execSupervisionTimerExpiry (s : State) : Host.Outcome State Fault Refusal :=
  takeEvent s fun s => s.atExpiry (s.linkTimer .supervision) fun s => s.enterLost 3

/-- RECOVERY_TIMER_EXPIRY (R113). -/
def execRecoveryTimerExpiry (s : State) : Host.Outcome State Fault Refusal :=
  takeEvent s fun s => s.atExpiry (s.linkTimer .recovery) State.recoveryExpired

/-- RXB_REST_TWO_BYTE_TIMES (R105): the receiver takes bytes again. -/
def execRxbRestTwoByteTimes (s : State) : Host.Outcome State Fault Refusal :=
  takeEvent s fun s => s.updLink fun u => { u with ignoring := false }

end Sys2Proof.Machine
end

