-- ==== Sys2Proof/Machine/PenCommands.lean ====
section
/-! DEFINITION. The events of the pen unit. -/

namespace Sys2Proof.Machine

/-- PEN_IN_LINE_CHANGE (R146). -/
def execPenInLineChange (present : Bool) (s : State) : Host.Outcome State Fault Refusal :=
  takeEvent s fun s => s.penInChange present

/-- PEN_IN_DEBOUNCE_EXPIRY (R146, R147, R157). -/
def execPenInDebounceExpiry (s : State) : Host.Outcome State Fault Refusal :=
  takeEvent s fun s => s.atExpiry s.pen.penIn.timer State.penInSettle

/-- REPORT (R148, R150). -/
def execReport (r : Sys2Proof.PenReport) (s : State) : Host.Outcome State Fault Refusal :=
  takeEvent s fun s => s.takeReport r

/-- RESPONSE_TIMER_EXPIRY (R149). -/
def execResponseTimerExpiry (s : State) : Host.Outcome State Fault Refusal :=
  takeEvent s fun s => s.atExpiry s.pen.response State.responseExpired

/-- POLL_TIMER_EXPIRY (R154). -/
def execPollTimerExpiry (s : State) : Host.Outcome State Fault Refusal :=
  takeEvent s fun s => s.atExpiry s.pen.poll State.pollExpired

/-- PEN_DECREASE_CONFIRM (R155, R168). -/
def execPenDecreaseConfirm (s : State) : Host.Outcome State Fault Refusal := takeEvent s State.confirmPen

end Sys2Proof.Machine
end

