-- ==== Sys2Proof/Machine/PowerCommands.lean ====
section
/-! DEFINITION. The events of the allotment unit. -/

namespace Sys2Proof.Machine

/-- The deadline of a claimant's entry in the awaiting list (R168). -/
def State.awaitingDeadline (s : State) (c : Awaited) : Timer :=
  (s.allot.awaiting.find? fun e => decide (e.claimant = c)).map (·.deadline)

/-- AWAITING_DEADLINE_EXPIRY (R169): the decrease is taken as confirmed. -/
def execAwaitingDeadlineExpiry (c : Awaited) (s : State) : Host.Outcome State Fault Refusal :=
  takeEvent s fun s => s.atExpiry (s.awaitingDeadline c) fun s => s.confirmDecrease c

/-- VBASE_VOLTAGE_CHANGE (R171). -/
def execVbaseVoltageChange (below : Bool) (s : State) : Host.Outcome State Fault Refusal :=
  takeEvent s fun s => s.voltageChange below

/-- UNDER_VOLTAGE_TIMER_EXPIRY (R171). -/
def execUnderVoltageTimerExpiry (s : State) : Host.Outcome State Fault Refusal :=
  takeEvent s fun s => s.atExpiry s.allot.underVoltage State.underVoltageExpired

end Sys2Proof.Machine
end

