-- ==== Sys2Proof/Machine/RequestCommands.lean ====
section
/-! DEFINITION. The fifteen requests, each as the host's accesses that make it: first slot word, parameter words and POST
(log 5). What a unit then does is its own rule, reached through the dispatcher (R11, R12). -/

namespace Sys2Proof.Machine

/-- APPLY_SETTINGS (R28). -/
def execApplySettings (n : Fin 32) (tag : Half) (s : State) : Host.Outcome State Fault Refusal :=
  takeEvent s fun s => s.makeRequest n .applySettings tag []

/-- LOCK_SETTINGS (R31). -/
def execLockSettings (n : Fin 32) (tag : Half) (s : State) : Host.Outcome State Fault Refusal :=
  takeEvent s fun s => s.makeRequest n .lockSettings tag []

/-- LOAD_POSTURE_TABLE (R87). -/
def execLoadPostureTable (n : Fin 32) (tag : Half) (count : Word) (s : State) : Host.Outcome State Fault Refusal :=
  takeEvent s fun s => s.makeRequest n .loadPostureTable tag [count]

/-- RESET_JOURNAL (R32). -/
def execResetJournal (n : Fin 32) (tag : Half) (journal : Word) (s : State) : Host.Outcome State Fault Refusal :=
  takeEvent s fun s => s.makeRequest n .resetJournal tag [journal]

/-- ACK_FAULT (R35). -/
def execAckFault (n : Fin 32) (tag : Half) (kind : Word) (s : State) : Host.Outcome State Fault Refusal :=
  takeEvent s fun s => s.makeRequest n .ackFault tag [kind]

/-- CALIBRATE_HINGE (R77). -/
def execCalibrateHinge (n : Fin 32) (tag : Half) (s : State) : Host.Outcome State Fault Refusal :=
  takeEvent s fun s => s.makeRequest n .calibrateHinge tag []

/-- SET_ROTATION_LOCK (R103, R104). -/
def execSetRotationLock (n : Fin 32) (tag : Half) (lock orientation : Word) (s : State) :
    Host.Outcome State Fault Refusal :=
  takeEvent s fun s => s.makeRequest n .setRotationLock tag [lock, orientation]

/-- DETACH (R131). -/
def execDetach (n : Fin 32) (tag : Half) (s : State) : Host.Outcome State Fault Refusal :=
  takeEvent s fun s => s.makeRequest n .detach tag []

/-- SET_BACKLIGHT (R145). -/
def execSetBacklight (n : Fin 32) (tag : Half) (level : Word) (s : State) : Host.Outcome State Fault Refusal :=
  takeEvent s fun s => s.makeRequest n .setBacklight tag [level]

/-- PEN_ACCEPT (R159). -/
def execPenAccept (n : Fin 32) (tag : Half) (identity : Word) (s : State) : Host.Outcome State Fault Refusal :=
  takeEvent s fun s => s.makeRequest n .penAccept tag [identity]

/-- PEN_FORGET (R160). -/
def execPenForget (n : Fin 32) (tag : Half) (selector identity : Word) (s : State) :
    Host.Outcome State Fault Refusal :=
  takeEvent s fun s => s.makeRequest n .penForget tag [selector, identity]

/-- PEN_CHARGE_MODE (R161). -/
def execPenChargeMode (n : Fin 32) (tag : Half) (mode : Word) (s : State) : Host.Outcome State Fault Refusal :=
  takeEvent s fun s => s.makeRequest n .penChargeMode tag [mode]

/-- SET_POWER_SOURCE (R164). -/
def execSetPowerSource (n : Fin 32) (tag : Half) (source : Word) (s : State) : Host.Outcome State Fault Refusal :=
  takeEvent s fun s => s.makeRequest n .setPowerSource tag [source]

/-- SLEEP_ENTER, the HOST_STATE request with action 1 (R179). -/
def execSleepEnter (n : Fin 32) (tag : Half) (mask standby : Word) (s : State) : Host.Outcome State Fault Refusal :=
  takeEvent s fun s => s.makeRequest n .hostState tag [1, mask, standby]

/-- HOST_ON, the HOST_STATE request with action 0 (R181). -/
def execHostOn (n : Fin 32) (tag : Half) (s : State) : Host.Outcome State Fault Refusal :=
  takeEvent s fun s => s.makeRequest n .hostState tag [0]

/-- HOLD_AWAKE (R177). -/
def execHoldAwake (n : Fin 32) (tag : Half) (duration : Word) (s : State) : Host.Outcome State Fault Refusal :=
  takeEvent s fun s => s.makeRequest n .holdAwake tag [duration]

end Sys2Proof.Machine
end

