-- ==== Sys2Proof/Machine/SensorCommands.lean ====
section
/-! DEFINITION. The events of the sensor sequencer, the hall lines and the posture unit's timers. -/

namespace Sys2Proof.Machine

/-- SAMPLE_PERIOD_EXPIRY (R42, R50). -/
def execSamplePeriodExpiry (s : State) : Host.Outcome State Fault Refusal :=
  takeEvent s fun s => s.atExpiry s.sensor.timer State.periodExpired

/-- The completion of a lid read (R55 to R60, R75, R83): judged, assembled and handed on; a read to be discarded builds no
set, and without a read in flight nothing completes (R52). -/
def State.completeRead (s : State) (status : Byte) (x y z : Half) : State :=
  match s.sensor.read with
  | .idle => s
  | .discarding => s.updSensor fun u => { u with read := .idle }
  | .inFlight period =>
    let good := readGood status
    let s := s.judgeRead good
    let set := s.assembleSet good x y z period
    let (s, result) := (s.handSet set).angleSet set
    ((s.offerSample set result).postureSet set).calibrateSet result

/-- LID_READ_COMPLETION (R55). -/
def execLidReadCompletion (status : Byte) (x y z : Half) (s : State) : Host.Outcome State Fault Refusal :=
  takeEvent s fun s => s.completeRead status x y z

/-- HALL_LINE_CHANGE (R48). -/
def execHallLineChange (l : HallLine) (active : Bool) (s : State) : Host.Outcome State Fault Refusal :=
  takeEvent s fun s => s.hallChange l active

/-- HALL_DEBOUNCE_EXPIRY (R48, R49). -/
def execHallDebounceExpiry (l : HallLine) (s : State) : Host.Outcome State Fault Refusal :=
  takeEvent s fun s => s.atExpiry (s.sensor.hall l).timer fun s => s.hallSettle l

/-- POSTURE_DWELL_EXPIRY (R91). -/
def execPostureDwellExpiry (s : State) : Host.Outcome State Fault Refusal :=
  takeEvent s fun s => s.atExpiry s.posture.dwell State.dwellExpired

/-- UNAVAILABLE_TIMER_EXPIRY (R94). -/
def execUnavailableTimerExpiry (s : State) : Host.Outcome State Fault Refusal :=
  takeEvent s fun s => s.atExpiry s.posture.unavailable State.signalLost

/-- ORIENTATION_DWELL_EXPIRY (R100). -/
def execOrientationDwellExpiry (s : State) : Host.Outcome State Fault Refusal :=
  takeEvent s fun s => s.atExpiry s.posture.orientationDwell State.orientationDwellExpired

end Sys2Proof.Machine
end

