-- ==== Sys2Proof/Machine/SleepCommands.lean ====
section
/-! DEFINITION. The events of the sleep unit. -/

namespace Sys2Proof.Machine

/-- HOLD_AWAKE_DEADLINE_EXPIRY (R177). -/
def execHoldAwakeDeadlineExpiry (s : State) : Host.Outcome State Fault Refusal :=
  takeEvent s fun s => s.atExpiry s.sleep.holdAwake State.holdAwakeExpired

/-- The idle timer's expiry and the next rewrite of its remaining time, while it runs (R176). -/
def IdleTimer.expiry : IdleTimer → Timer
  | .running expiry _ => some expiry
  | .stopped => none
  | .elapsed => none

def IdleTimer.rewrite : IdleTimer → Timer
  | .running _ rewrite => some rewrite
  | .stopped => none
  | .elapsed => none

/-- IDLE_TIMER_EXPIRY (R176). -/
def execIdleTimerExpiry (s : State) : Host.Outcome State Fault Refusal :=
  takeEvent s fun s => s.atExpiry s.sleep.idle.expiry State.idleExpired

/-- IDLE_REMAINING_REWRITE (R176). -/
def execIdleRemainingRewrite (s : State) : Host.Outcome State Fault Refusal :=
  takeEvent s fun s => s.atExpiry s.sleep.idle.rewrite State.rewriteIdle

/-- GRACE_TIMER_EXPIRY (R178). -/
def execGraceTimerExpiry (s : State) : Host.Outcome State Fault Refusal :=
  takeEvent s fun s => s.atExpiry s.sleep.grace State.graceExpired

/-- DOZE_TO_STANDBY_EXPIRY (R180). -/
def execDozeToStandbyExpiry (s : State) : Host.Outcome State Fault Refusal :=
  takeEvent s fun s => s.atExpiry s.sleep.dozeTimer State.dozeExpired

/-- ANSWER_TIMER_EXPIRY (R184). -/
def execAnswerTimerExpiry (s : State) : Host.Outcome State Fault Refusal :=
  takeEvent s fun s => s.atExpiry s.sleep.answerTimer State.answerExpired

/-- GAP_TIMER_EXPIRY (R184). -/
def execGapTimerExpiry (s : State) : Host.Outcome State Fault Refusal :=
  takeEvent s fun s => s.atExpiry s.sleep.gapTimer State.gapExpired

/-- POWER_BUTTON_LINE_CHANGE (R185). -/
def execPowerButtonLineChange (pressed : Bool) (s : State) : Host.Outcome State Fault Refusal :=
  takeEvent s fun s => s.buttonChange pressed

/-- POWER_BUTTON_DEBOUNCE_EXPIRY (R185). -/
def execPowerButtonDebounceExpiry (s : State) : Host.Outcome State Fault Refusal :=
  takeEvent s fun s => s.atExpiry s.sleep.button.timer State.buttonSettle

end Sys2Proof.Machine
end

