-- ==== Sys2Proof/Machine/Dispatch.lean ====
section
/-! DEFINITION. One arm per command, each one call of its meaning. -/

namespace Sys2Proof.Machine

def exec (i : Instr) (s : State) : Host.Outcome State Fault Refusal :=
  match i with
  | .powerOnReset => Sys2Proof.Machine.execPowerOnReset s
  | .selfCheckEnd romEntry status lidClosed foldBack => Sys2Proof.Machine.execSelfCheckEnd romEntry status lidClosed foldBack s
  | .hrstAssert => Sys2Proof.Machine.execHrstAssert s
  | .hostReset => Sys2Proof.Machine.execHostReset s
  | .hostWrite window offset lanes data => Sys2Proof.Machine.execHostWrite window offset lanes data s
  | .readCountWrite journal data => Sys2Proof.Machine.execReadCountWrite journal data s
  | .post slot => Sys2Proof.Machine.execPost slot s
  | .release slot => Sys2Proof.Machine.execRelease slot s
  | .attnLatchWrite data => Sys2Proof.Machine.execAttnLatchWrite data s
  | .attnMaskWrite data => Sys2Proof.Machine.execAttnMaskWrite data s
  | .applySettings slot tag => Sys2Proof.Machine.execApplySettings slot tag s
  | .lockSettings slot tag => Sys2Proof.Machine.execLockSettings slot tag s
  | .loadPostureTable slot tag count => Sys2Proof.Machine.execLoadPostureTable slot tag count s
  | .resetJournal slot tag journal => Sys2Proof.Machine.execResetJournal slot tag journal s
  | .ackFault slot tag kind => Sys2Proof.Machine.execAckFault slot tag kind s
  | .inputQuietFlushExpiry => Sys2Proof.Machine.execInputQuietFlushExpiry s
  | .samplePeriodExpiry => Sys2Proof.Machine.execSamplePeriodExpiry s
  | .lidReadCompletion status x y z => Sys2Proof.Machine.execLidReadCompletion status x y z s
  | .hallLineChange line active => Sys2Proof.Machine.execHallLineChange line active s
  | .hallDebounceExpiry line => Sys2Proof.Machine.execHallDebounceExpiry line s
  | .calibrateHinge slot tag => Sys2Proof.Machine.execCalibrateHinge slot tag s
  | .postureDwellExpiry => Sys2Proof.Machine.execPostureDwellExpiry s
  | .unavailableTimerExpiry => Sys2Proof.Machine.execUnavailableTimerExpiry s
  | .orientationDwellExpiry => Sys2Proof.Machine.execOrientationDwellExpiry s
  | .setRotationLock slot tag lock orientation => Sys2Proof.Machine.execSetRotationLock slot tag lock orientation s
  | .packetArrival bytes => Sys2Proof.Machine.execPacketArrival bytes s
  | .packetDiscard reason => Sys2Proof.Machine.execPacketDiscard reason s
  | .transmitComplete => Sys2Proof.Machine.execTransmitComplete s
  | .powerUpTimerExpiry => Sys2Proof.Machine.execPowerUpTimerExpiry s
  | .greetingTimerExpiry => Sys2Proof.Machine.execGreetingTimerExpiry s
  | .supervisionTimerExpiry => Sys2Proof.Machine.execSupervisionTimerExpiry s
  | .recoveryTimerExpiry => Sys2Proof.Machine.execRecoveryTimerExpiry s
  | .detectLineChange present => Sys2Proof.Machine.execDetectLineChange present s
  | .detectDebounceExpiry => Sys2Proof.Machine.execDetectDebounceExpiry s
  | .detach slot tag => Sys2Proof.Machine.execDetach slot tag s
  | .quiesceTimerExpiry => Sys2Proof.Machine.execQuiesceTimerExpiry s
  | .coilCurrentSeen => Sys2Proof.Machine.execCoilCurrentSeen s
  | .senseTimerExpiry => Sys2Proof.Machine.execSenseTimerExpiry s
  | .pulseTimerExpiry => Sys2Proof.Machine.execPulseTimerExpiry s
  | .windowTimerExpiry => Sys2Proof.Machine.execWindowTimerExpiry s
  | .pulseAgeOut => Sys2Proof.Machine.execPulseAgeOut s
  | .setBacklight slot tag level => Sys2Proof.Machine.execSetBacklight slot tag level s
  | .penInLineChange present => Sys2Proof.Machine.execPenInLineChange present s
  | .penInDebounceExpiry => Sys2Proof.Machine.execPenInDebounceExpiry s
  | .report r => Sys2Proof.Machine.execReport r s
  | .responseTimerExpiry => Sys2Proof.Machine.execResponseTimerExpiry s
  | .pollTimerExpiry => Sys2Proof.Machine.execPollTimerExpiry s
  | .penDecreaseConfirm => Sys2Proof.Machine.execPenDecreaseConfirm s
  | .penAccept slot tag identity => Sys2Proof.Machine.execPenAccept slot tag identity s
  | .penForget slot tag selector identity => Sys2Proof.Machine.execPenForget slot tag selector identity s
  | .penChargeMode slot tag mode => Sys2Proof.Machine.execPenChargeMode slot tag mode s
  | .setPowerSource slot tag source => Sys2Proof.Machine.execSetPowerSource slot tag source s
  | .awaitingDeadlineExpiry claimant => Sys2Proof.Machine.execAwaitingDeadlineExpiry claimant s
  | .vbaseVoltageChange below => Sys2Proof.Machine.execVbaseVoltageChange below s
  | .underVoltageTimerExpiry => Sys2Proof.Machine.execUnderVoltageTimerExpiry s
  | .sleepEnter slot tag mask standby => Sys2Proof.Machine.execSleepEnter slot tag mask standby s
  | .hostOn slot tag => Sys2Proof.Machine.execHostOn slot tag s
  | .holdAwake slot tag duration => Sys2Proof.Machine.execHoldAwake slot tag duration s
  | .holdAwakeDeadlineExpiry => Sys2Proof.Machine.execHoldAwakeDeadlineExpiry s
  | .idleTimerExpiry => Sys2Proof.Machine.execIdleTimerExpiry s
  | .idleRemainingRewrite => Sys2Proof.Machine.execIdleRemainingRewrite s
  | .graceTimerExpiry => Sys2Proof.Machine.execGraceTimerExpiry s
  | .dozeToStandbyExpiry => Sys2Proof.Machine.execDozeToStandbyExpiry s
  | .answerTimerExpiry => Sys2Proof.Machine.execAnswerTimerExpiry s
  | .gapTimerExpiry => Sys2Proof.Machine.execGapTimerExpiry s
  | .powerButtonLineChange pressed => Sys2Proof.Machine.execPowerButtonLineChange pressed s
  | .powerButtonDebounceExpiry => Sys2Proof.Machine.execPowerButtonDebounceExpiry s
  | .rxbRestTwoByteTimes => Sys2Proof.Machine.execRxbRestTwoByteTimes s

end Sys2Proof.Machine
end

