-- ==== Sys2Proof/Machine/Step.lean ====
section
/-! DEFINITION. One step: the command at the front of the queue, or a millisecond of part time. -/

namespace Sys2Proof.Machine

/-- One step: exec of the front command on the state with the queue's rest; on an empty queue part time advances by one
millisecond (log 3). -/
def step (s : State) : Host.Outcome State Fault Refusal :=
  match s.pending with
  | [] => .next (s.setNow (s.now + 1))
  | i :: rest => exec i (s.setPending rest)

/-- The command a word spells, put at the front of the queue; no row of the table gives bits, so no word spells one. -/
def State.withFetchWord (s : State) (nbits w : Nat) : State :=
  match decodeTableWord nbits w with
  | some i => s.setPending (i :: s.pending)
  | none => s

end Sys2Proof.Machine
end

