-- ==== Sys2Proof/WellFormed.lean ====
section
/-! DEFINITION. Well-formed commands: a host write names an offset inside its window, a packet that arrives is a good packet.
Every other operand admits all values of its type. -/

namespace Sys2Proof

/-- A command the part can be sent. -/
def Instr.wf : Instr → Bool
  | .hostWrite w offset _ _ => decide (offset < Machine.windowSize w)
  | .packetArrival bytes => (Machine.parsePacket bytes).isSome
  | _ => true

end Sys2Proof
end

