-- ==== Sys2Proof/Safety.lean ====
section
/-! DEFINITION. What claims about the FJ3220 speak of: the results a slot shows, when a request is taken at once, and the
properties every step keeps. -/

namespace Sys2Proof.Machine

/-! ## A slot's results (spec/01, "Request slot") -/

def State.resultCode (s : State) (n : Fin 32) : Nat := s.mem.getLE (slotBase n + 0x24) 2
def State.resultDetail (s : State) (n : Fin 32) : Nat := s.mem.getLE (slotBase n + 0x26) 2
def State.resultWord (s : State) (n : Fin 32) (i : Fin 4) : Nat := s.mem.getLE (slotBase n + 0x28 + 4 * i.val) 4

/-- The slot is DONE with a code and a detail. -/
def State.answered (s : State) (n : Fin 32) (code : ResultCode) (detail : Nat) : Prop :=
  s.slotState n = .done ∧ s.resultCode n = code.code ∧ s.resultDetail n = detail

/-! ## Journal records (spec/01, "Notice record", "Input record", "Sample record") -/

/-- Where a notice written at a write count stands. -/
def noticePlace (w : Half) : Nat := 0x2800 + 16 * (w.toNat % 128)

/-- The notice written at a write count: part time, sequence number, kind, cause, old and new value, argument. -/
abbrev State.noticeAt (s : State) (w : Half) (time : PartTime) (kind : NoticeKind) (cause old new arg : Nat) : Prop :=
  s.mem.getLE (noticePlace w) 4 = time.toNat ∧ s.mem.getLE (noticePlace w + 4) 2 = w.toNat ∧
    s.mem.getLE (noticePlace w + 6) 1 = kind.code ∧ s.mem.getLE (noticePlace w + 7) 1 = cause ∧
    s.mem.getLE (noticePlace w + 8) 1 = old ∧ s.mem.getLE (noticePlace w + 9) 1 = new ∧
    s.mem.getLE (noticePlace w + 10) 2 = 0 ∧ s.mem.getLE (noticePlace w + 12) 4 = arg

/-- Where an Input record written at a write count stands. -/
def inputPlace (w : Half) : Nat := 0x2000 + 8 * (w.toNat % 256)

/-- The Input record written at a write count: kind, code or buttons, dx, dy and the low half of a part time. -/
abbrev State.inputAt (s : State) (w : Half) (kind : InputKind) (code dx dy : Byte) (time : PartTime) : Prop :=
  s.mem.getLE (inputPlace w) 1 = kind.code ∧ s.mem.get (inputPlace w + 1) = code ∧ s.mem.get (inputPlace w + 2) = dx ∧
    s.mem.get (inputPlace w + 3) = dy ∧ s.mem.getLE (inputPlace w + 4) 2 = time.toNat % 65536 ∧
    s.mem.getLE (inputPlace w + 6) 2 = 0

/-- Where a Sample record written at a write count stands. -/
def samplePlace (w : Half) : Nat := 0x1000 + 32 * (w.toNat % 128)

/-- The 16 bits of a signed field. -/
def field16 (i : Int) : Nat := (BitVec.ofInt 16 i).toNat

/-- The Sample record written at a write count for a set, with what the angle unit returned and reports (R59). -/
abbrev State.sampleAt (s : State) (w : Half) (set : SampleSet) (r : AngleResult) (q : Quality) (angle : Nat) : Prop :=
  s.mem.getLE (samplePlace w) 4 = set.time.toNat ∧ s.mem.getLE (samplePlace w + 4) 2 = set.seq.toNat ∧
    s.mem.getLE (samplePlace w + 6) 2 =
      (if set.fresh then 0 else 1) + (if set.saturated then 2 else 0) + (if r.degenerateLid then 4 else 0) +
        (if r.degenerateBase then 8 else 0) + (if set.lidClosed then 16 else 0) + (if set.foldBack then 32 else 0) +
        64 * q.code ∧
    s.mem.getLE (samplePlace w + 8) 2 = field16 set.lidX ∧ s.mem.getLE (samplePlace w + 10) 2 = field16 set.lidY ∧
    s.mem.getLE (samplePlace w + 12) 2 = field16 set.lidZ ∧ s.mem.getLE (samplePlace w + 14) 2 = field16 set.baseX ∧
    s.mem.getLE (samplePlace w + 16) 2 = field16 set.baseY ∧ s.mem.getLE (samplePlace w + 18) 2 = field16 set.baseZ ∧
    s.mem.getLE (samplePlace w + 20) 2 = r.difference % 65536 ∧ s.mem.getLE (samplePlace w + 22) 2 = angle % 65536 ∧
    s.mem.getLE (samplePlace w + 24) 2 = r.lidAngle % 65536 ∧ s.mem.getLE (samplePlace w + 26) 2 = r.baseAngle % 65536

/-- The bytes of a packet from the base with its check byte: their sum is 0 modulo 256 (R106). -/
def packet (body : List Byte) : List Byte := body ++ [0 - body.sum]

/-- A count that stops at 65535 (R18, R20, R121). -/
def countUp (n : Nat) : Nat := if n < 65535 then n + 1 else n

/-! ## When a request is taken at once -/

/-- Between events nothing waits to be handed on, and no board field is marked rewritten. -/
def State.betweenEvents (s : State) : Prop := s.tasks = [] ∧ s.port.boardTouched = false

/-- Exchange memory is in its canonical form. -/
def MemoryCanonical (s : State) : Prop := s.mem.wf = true

/-- What every step leaves and every reset gives: between events, with exchange memory in its canonical form. -/
def State.sound (s : State) : Prop := s.betweenEvents ∧ MemoryCanonical s

/-- HRST is not asserted, the part is RUNNING, the slot is FREE, no slot waits, and the unit of the request is idle. -/
def State.takesAtOnce (s : State) (n : Fin 32) (u : ServingUnit) : Prop :=
  s.port.hrst = false ∧ s.port.phase = .running ∧ s.slotState n = .free ∧ s.dispatch.queue = [] ∧
    s.servingSlot u = none

/-- Nothing draws or claims accessory power, nothing is awaited, and no base is present. -/
def State.nothingDraws (s : State) : Prop :=
  s.allot.demand = ⟨0, 0, 0, 0⟩ ∧ s.allot.grant = ⟨0, 0, 0, 0⟩ ∧ s.allot.increases = noIncreases ∧
    s.allot.awaiting = [] ∧ s.attach.detect.level = false

/-- No packet, no owed release and no held key or button waits at the base link unit. -/
def State.noInputWaits (s : State) : Prop :=
  s.link.receiveQueue = [] ∧ s.link.owed = [] ∧ s.link.pressed = [] ∧ s.link.buttons = 0

/-- The COIL and BASE_BASIC claimants alone: no pen and no backlight has a demand or a grant, nothing is awaited. -/
def State.coilAndBaseOnly (s : State) : Prop :=
  s.allot.demand.pen = 0 ∧ s.allot.demand.backlight = 0 ∧ s.allot.grant.pen = 0 ∧ s.allot.grant.backlight = 0 ∧
    s.allot.awaiting = []

/-- The link in READY or QUIESCED takes bytes, nothing waits in it, and the host is ON. -/
def State.linkListens (s : State) : Prop :=
  (s.link.state = .ready ∨ s.link.state = .quiesced) ∧ s.link.ignoring = false ∧ s.link.receiveQueue = [] ∧
    s.link.owed = [] ∧ s.hostOn = true

/-- The base link unit after a good packet that leaves the queue as it arrives: supervision starts again (R112, R117). -/
def State.linkHeard (s : State) : LinkUnit :=
  { s.link with timer := some (.supervision, s.after 300), hold := false }

/-! ## What a command may touch -/

/-- The port unit but for the Status Board's update count and time. -/
def PortUnit.sameButBoard (p q : PortUnit) : Prop := q = { p with updateCount := q.updateCount, boardTime := q.boardTime }

/-- Exchange memory but for the 64 bytes of slot n. -/
def State.slotOnly (s t : State) (n : Fin 32) : Prop :=
  ∀ a, a < slotBase n ∨ slotBase n + 64 ≤ a → t.mem.get a = s.mem.get a

/-- From s to t, slot n has been written, taken and answered in one event, REQUEST_DONE is latched, and nothing else has
changed but the Status Board's count and time (R12, R13). -/
def State.slotAnswered (s t : State) (n : Fin 32) (code : ResultCode) (detail : Nat) : Prop :=
  t.answered n code detail ∧ s.slotOnly t n ∧ (∀ k, k ≠ n → t.slotState k = s.slotState k) ∧
    t.dispatch.queue = s.dispatch.queue ∧ t.dispatch.serving = s.dispatch.serving ∧
    t = { s with mem := t.mem, dispatch := t.dispatch, port := t.port } ∧
    PortUnit.sameButBoard { s.port with attnLatch := s.port.attnLatch ||| Cause.requestDone.mask } t.port

/-- What activity leaves of the idle timer and the idle time remaining, by the committed posture's timeout (R175, R176). -/
def State.idleRestarted (s : State) : IdleTimer × Word :=
  match s.idleTimeout with
  | some t => (.running (s.after (t * 1000)) (s.after 1000), word (t * 1000))
  | none => (.stopped, 0xFFFFFFFF)

/-- The sleep unit after a wake event of a source at a part time (R182, R183): with the source enabled its reason is added,
the part is ACTIVE, and WAKE is asserted for 10 s where neither it nor a timer of it stands; a disabled source does
nothing. -/
def State.wokenBy (s : State) (w : WakeSource) (now : PartTime) : SleepUnit :=
  if s.sleep.wakeMask.getLsbD w.bit then
    let u := { s.sleep with wakeReasons := s.sleep.wakeReasons ||| BitVec.ofNat 8 (2 ^ w.bit), power := .active }
    let u := if s.sleep.power = .active then u else { u with dozeTimer := none, withdrawal := false }
    if s.sleep.wake = false ∧ s.sleep.answerTimer = none ∧ s.sleep.gapTimer = none then
      { u with wake := true, assertions := 1, answerTimer := some (now + 10000), gapTimer := none }
    else u
  else s.sleep

/-- The paired-pen table after a session's state of charge reaches the entry of an identity, if there is one (R150, R157). -/
def State.tableRefreshed (s : State) (identity : Word) (soc : Nat) (now : PartTime) (table : Vector PairedPen 4) : Prop :=
  ((identity = 0 ∨ ∀ i : Fin 4, s.pen.table[i].identity ≠ identity) → table = s.pen.table) ∧
    ∀ i : Fin 4, identity ≠ 0 → s.pen.table[i].identity = identity → (∀ j < i, s.pen.table[j].identity ≠ identity) →
      table = s.pen.table.set i { identity := identity, soc := soc, lastSeen := now }

/-- An entry of the post queue waits for its unit, which is busy (R11). -/
def State.waitsForUnit (s : State) (n : Fin 32) : Prop :=
  ∃ r, Request.ofCode (s.requestCode n) = some r ∧ s.servingSlot r.servedBy ≠ none

/-- The link can do nothing but what its own timers ask: DETECT is present, no release runs, the host is ON, and no claim
but BASE_BASIC stands (R108 to R115). -/
def State.linkAlone (s : State) : Prop :=
  s.noInputWaits ∧ s.coilAndBaseOnly ∧ s.allot.demand.coil = 0 ∧ s.attach.detect.level = true ∧
    s.attach.state.inRelease = false ∧ s.hostOn = true ∧ s.dispatch.queue = []

/-- A part that a host reset finds at rest: ACTIVE, no release and no input waiting, with the budget and the base's claim as
the reset itself selects them. -/
def State.atRestForReset (s : State) : Prop :=
  s.sleep.power = .active ∧ s.attach.phase = none ∧ s.noInputWaits ∧ s.allot.budget = 1500 ∧
    s.allot.demand.base =
      (if s.attach.detect.level = true ∧ s.allot.faultedOff = false ∧ s.allot.lockout = false then 250 else 0)

/-- The demand R152 gives a charging pen: whole below 80 %, then falling, and capped for a pen that is not paired. -/
def State.demandRule (s : State) (soc : Nat) (identity : Word) : Nat :=
  let maximum := s.settings.active.penMaximum
  let d := if soc < 80 then maximum else max 150 (maximum * (100 - soc) / 20)
  if ∃ i : Fin 4, s.pen.table[i].identity = identity then d else min d 300

/-- The refusals of host writes by the region access table and the control window's table (R1, R2, R3, R6). -/
def State.refusal (s : State) (w : Window) (offset : Nat) (lanes : BitVec 4) : Option CaptureKind :=
  if offset % 4 ≠ 0 ∨ lanes ≠ 0xF then some .misaligned
  else
    match w with
    | .exchange =>
      if offset < 0x0100 then some .partRegion
      else if offset < 0x0500 then (if s.settings.locked then some .settingsLocked else none)
      else if offset < 0x0D00 then
        (match s.slotState (Fin.ofNat 32 ((offset - 0x0500) / 64)) with
        | .free | .done => none
        | .posted | .taken _ => some .slotBusy)
      else if offset < 0x0D30 then (if offset % 16 = 4 then none else some .partRegion)
      else if offset < 0x0E00 then some .outside
      else if offset < 0x1000 then none
      else if offset < 0x3000 then some .partRegion
      else some .outside
    | .control => if 0x108 ≤ offset then some .readOnly else none

/-- The capture after a recorded misuse (R4). -/
def Capture.after (c : Capture) (kind : CaptureKind) (offset : Nat) (w : Window) : Capture :=
  if c.kind = .none then { kind := kind, offset := offset, window := w, more := false } else { c with more := true }

/-- The commands that are host accesses. -/
def hostAccess : Instr → Bool
  | .hostWrite _ _ _ _ | .readCountWrite _ _ | .post _ | .release _ | .attnLatchWrite _ | .attnMaskWrite _
  | .applySettings _ _ | .lockSettings _ _ | .loadPostureTable _ _ _ | .resetJournal _ _ _ | .ackFault _ _ _
  | .calibrateHinge _ _ | .setRotationLock _ _ _ _ | .detach _ _ | .setBacklight _ _ _ | .penAccept _ _ _
  | .penForget _ _ _ _ | .penChargeMode _ _ _ | .setPowerSource _ _ _ | .sleepEnter _ _ _ _ | .hostOn _ _
  | .holdAwake _ _ _ => true
  | _ => false

/-- The commands that are events of the part itself: its timers, its lines, its sensors, the base and the pen. -/
def partEvent : Instr → Bool
  | .powerOnReset | .selfCheckEnd _ _ _ _ | .hrstAssert | .hostReset => false
  | c => !hostAccess c

/-- The timer a command is the expiry of. -/
def State.timerOf (s : State) : Instr → Option Timer
  | .inputQuietFlushExpiry => some s.journal.quiet
  | .samplePeriodExpiry => some s.sensor.timer
  | .hallDebounceExpiry l => some (s.sensor.hall l).timer
  | .postureDwellExpiry => some s.posture.dwell
  | .unavailableTimerExpiry => some s.posture.unavailable
  | .orientationDwellExpiry => some s.posture.orientationDwell
  | .powerUpTimerExpiry => some (s.linkTimer .powerUp)
  | .greetingTimerExpiry => some (s.linkTimer .greeting)
  | .supervisionTimerExpiry => some (s.linkTimer .supervision)
  | .recoveryTimerExpiry => some (s.linkTimer .recovery)
  | .detectDebounceExpiry => some s.attach.detect.timer
  | .quiesceTimerExpiry => some s.attach.quiesceTimer
  | .senseTimerExpiry => some s.attach.senseTimer
  | .pulseTimerExpiry => some s.attach.pulseTimer
  | .windowTimerExpiry => some s.attach.windowTimer
  | .pulseAgeOut => some (s.attach.pulses.head?.map fun start => start + 60000)
  | .penInDebounceExpiry => some s.pen.penIn.timer
  | .responseTimerExpiry => some s.pen.response
  | .pollTimerExpiry => some s.pen.poll
  | .awaitingDeadlineExpiry c => some (s.awaitingDeadline c)
  | .underVoltageTimerExpiry => some s.allot.underVoltage
  | .holdAwakeDeadlineExpiry => some s.sleep.holdAwake
  | .idleTimerExpiry => some s.sleep.idle.expiry
  | .idleRemainingRewrite => some s.sleep.idle.rewrite
  | .graceTimerExpiry => some s.sleep.grace
  | .dozeToStandbyExpiry => some s.sleep.dozeTimer
  | .answerTimerExpiry => some s.sleep.answerTimer
  | .gapTimerExpiry => some s.sleep.gapTimer
  | .powerButtonDebounceExpiry => some s.sleep.button.timer
  | _ => none

/-! ## What every step keeps -/

/-- No journal holds more records than its capacity (R15). -/
def JournalsBounded (s : State) : Prop := ∀ j : Fin 3, s.used j ≤ journalCapacity j

/-- The filter accumulator and the reported angle stay in their ranges (spec/04). -/
def HingeBounded (s : State) : Prop := s.angle.accumulator ≤ 65536 ∧ s.angle.reported ≤ 4096

/-- The pulse list holds at most 8 entries, and the pulse limit in force is at most 8 (R139). -/
def PulsesBounded (s : State) : Prop := s.attach.pulses.length ≤ 8 ∧ s.settings.active.pulseLimit ≤ 8

/-- The pen top-up threshold in force lies below the charge target in force (R29). -/
def TopUpBelowTarget (s : State) : Prop := s.settings.active.penTopUp < s.settings.active.penTarget

/-- The receive queue holds at most 16 packets, and HOLD follows its length (R116, R117). -/
def HoldFollowsQueue (s : State) : Prop :=
  s.link.receiveQueue.length ≤ 16 ∧ (12 ≤ s.link.receiveQueue.length → s.link.hold = true) ∧
    (s.link.receiveQueue.length ≤ 4 → s.link.hold = false)

/-- The pressed-key set holds at most 16 keys, each once (R121). -/
def PressedBounded (s : State) : Prop := s.link.pressed.length ≤ 16 ∧ s.link.pressed.Nodup

/-- The sum of four allotments. -/
def Allotments.sum (a : Allotments) : Nat := a.coil + a.base + a.pen + a.backlight

/-- No allotment of the first exceeds the second's. -/
def Allotments.le (a b : Allotments) : Prop :=
  a.coil ≤ b.coil ∧ a.base ≤ b.base ∧ a.pen ≤ b.pen ∧ a.backlight ≤ b.backlight

/-- The values a grant can take (R155, R166). -/
def Allotments.legal (a : Allotments) : Prop :=
  (a.coil = 0 ∨ a.coil = 1200) ∧ (a.base = 0 ∨ a.base = 250) ∧ (a.pen = 0 ∨ 150 ≤ a.pen) ∧ a.backlight % 150 = 0

/-- The grants in force lie within the targets of the budget and the demands, and the pending increases make up the rest
(R166, R167). -/
def GrantsWithinTargets (s : State) : Prop :=
  s.allot.grant.le (targets s.allot.budget s.allot.demand) ∧
    raised s.allot.grant s.allot.increases = targets s.allot.budget s.allot.demand ∧ s.allot.grant.legal

/-- The attachment state is DETACHED exactly while the debounced DETECT level is absent (R126, R127, R142). -/
def AttachFollowsDetect (s : State) : Prop := s.attach.state = .detached ↔ s.attach.detect.level = false

/-- A slot is in the post queue exactly while POSTED and once only; a slot a unit serves is TAKEN, by one unit (R10, R11). -/
def SlotsConsistent (s : State) : Prop :=
  s.dispatch.queue.Nodup ∧ (∀ n, n ∈ s.dispatch.queue ↔ s.slotState n = .posted) ∧
    (∀ u n, s.servingSlot u = some n → ∃ a, s.slotState n = .taken a) ∧
    ∀ u v n, s.servingSlot u = some n → s.servingSlot v = some n → u = v

/-- The update count is even between events (R25). -/
def BoardClosed (s : State) : Prop := s.port.updateCount.getLsbD 0 = false ∧ s.betweenEvents

end Sys2Proof.Machine
end

