-- ==== Sys2Proof/Certificates/Slice0/Obligations.lean ====
section
/-! DEFINITION. The statements for the provers. Each docstring names the rule or section it rests on and, where a clause
rests on a choice of the model, the log entry. -/

open Sys2Proof Sys2Proof.Machine

/-! ## The machine -/

/-- A step is exec of the front command on the state with the queue's rest (spec/00, "Events"). On an empty queue part
time advances by one millisecond: the model's choice, log 3. -/
def Obligations.StepRunsFrontCommand : Prop :=
  (∀ (c : Instr) (q : List Instr) (s : State), step (s.setPending (c :: q)) = exec c (s.setPending q)) ∧
    ∀ s : State, s.pending = [] → step s = .next { s with now := s.now + 1 }

/-- Every command answers a next state with the queue as it was and no hand-on left over, but for a host write outside
both windows, which faults: no such address exists (spec/00, "The host connection"; log 2, log 7). -/
def Obligations.EveryCommandAnswers : Prop :=
  (∀ (c : Instr) (s : State), (∀ w offset lanes data, c = .hostWrite w offset lanes data → offset < windowSize w) →
      ∃ t, exec c s = .next t ∧ t.pending = s.pending ∧ t.tasks = []) ∧
    ∀ (w : Window) (offset : Nat) (lanes : BitVec 4) (data : Word) (s : State), windowSize w ≤ offset →
      exec (.hostWrite w offset lanes data) s = .fault (.outsideWindows w offset)

/-- The part after power-on reset as the host reads it (R26, R27, R36, R37): PART_STATE, the attention registers, the
Settings Block at its defaults, empty journals, FREE slots, an inactive fault table, the default posture table. -/
def Obligations.ResetState : Prop :=
  State.reset.hostRead .control 0x10C = 0x32201000 ∧ State.reset.hostRead .control 0x100 = 0 ∧
    State.reset.hostRead .control 0x104 = 0 ∧ State.reset.hostRead .control 0x108 = 31 ∧
    State.reset.hostRead .exchange 0 = 2 ∧ State.reset.now = 0 ∧
    (∀ i : Fin 31,
      (State.reset.hostRead .exchange (0x100 + 4 * i.val)).toNat = (settingRanges.map (·.default)).getD i.val 0) ∧
    (∀ j : Fin 3, State.reset.used j = 0 ∧ State.reset.room j = journalCapacity j) ∧
    (∀ n : Fin 32, State.reset.slotState n = .free) ∧
    (∀ k : FaultKind, State.reset.faultEntry k = { active := false, count := 0, firstActive := 0 }) ∧
    State.reset.settings.table = defaultTable ∧ State.reset.settings.active = Settings.defaults ∧
    State.reset.settings.locked = false ∧ State.reset.settings.generation = 0

/-! ## What every step keeps -/

/-- The properties that every step keeps hold after power-on reset. -/
def Obligations.InvariantsAtReset : Prop :=
  MemoryCanonical State.reset ∧ JournalsBounded State.reset ∧ HingeBounded State.reset ∧ PulsesBounded State.reset ∧
    TopUpBelowTarget State.reset ∧ HoldFollowsQueue State.reset ∧ PressedBounded State.reset ∧
    GrantsWithinTargets State.reset ∧ SlotsConsistent State.reset ∧ BoardClosed State.reset ∧
    AttachFollowsDetect State.reset

/-- Exchange memory stays in its canonical form: a byte that reads as after reset has no cell (log 12). -/
def Obligations.StepKeepsCanonicalMemory : Prop :=
  ∀ s t : State, MemoryCanonical s → step s = .next t → MemoryCanonical t

/-- "For each journal, the part's write count minus read count, modulo 65536, lies within 0..capacity" (R15). -/
def Obligations.StepKeepsJournalBounds : Prop :=
  ∀ s t : State, JournalsBounded s → step s = .next t → JournalsBounded t

/-- "The filter accumulator stays within 0..65536, and the reported hinge angle within 0..4096" (R72). -/
def Obligations.StepKeepsHingeRange : Prop :=
  ∀ s t : State, HingeBounded s → step s = .next t → HingeBounded t

/-- The pulse list holds at most 8 entries under a limit of at most 8 (R139), the top-up threshold in force lies below the
charge target in force (R29), and the attachment state is DETACHED exactly while DETECT is absent (R126, R127, R142). -/
def Obligations.StepKeepsAttachmentAndSettings : Prop :=
  (∀ s t : State, PulsesBounded s → step s = .next t → PulsesBounded t) ∧
    (∀ s t : State, TopUpBelowTarget s → step s = .next t → TopUpBelowTarget t) ∧
    ∀ s t : State, AttachFollowsDetect s → step s = .next t → AttachFollowsDetect t

/-- The receive queue holds at most 16 packets and HOLD follows its length (R116, R117); the pressed-key set holds at
most 16 distinct key codes (R121). -/
def Obligations.StepKeepsInputPath : Prop :=
  (∀ s t : State, HoldFollowsQueue s → step s = .next t → HoldFollowsQueue t) ∧
    ∀ s t : State, PressedBounded s → step s = .next t → PressedBounded t

/-- The grants in force stay within the targets of the budget and the demands, the pending increases make up the rest,
and each grant is one its claimant can be given (R155, R166, R167). -/
def Obligations.StepKeepsGrants : Prop :=
  ∀ s t : State, GrantsWithinTargets s → step s = .next t → GrantsWithinTargets t

/-- The post queue holds exactly the POSTED slots, each once, and a slot a unit serves is TAKEN, by one unit (R10, R11). -/
def Obligations.StepKeepsSlots : Prop :=
  ∀ s t : State, SlotsConsistent s → step s = .next t → SlotsConsistent t

/-- The update count is even between events (R25; an event's bracket adds two at once, log 17). -/
def Obligations.StepKeepsBoardClosed : Prop :=
  ∀ s t : State, BoardClosed s → step s = .next t → BoardClosed t

/-! ## What commands leave alone -/

/-- No event of the part changes HRST, the phase, the self-check, the reset kind, ATTN_MASK or the error capture, nor
clears a latched cause (R4, R5, R22, R23, R24). With no slot waiting it changes no setting, lock, read count, host state,
wake mask, power source, rotation lock, backlight wish or charge mode, and no byte below the journals but in a slot that a
unit serves. -/
def Obligations.PartEventsKeepHostSide : Prop :=
  ∀ (c : Instr) (s t : State), partEvent c = true → exec c s = .next t →
    (t.port.hrst = s.port.hrst ∧ t.port.phase = s.port.phase ∧ t.port.selfCheck = s.port.selfCheck ∧
      t.port.resetKind = s.port.resetKind ∧ t.port.attnMask = s.port.attnMask ∧ t.port.capture = s.port.capture ∧
      s.port.attnLatch &&& t.port.attnLatch = s.port.attnLatch) ∧
      (s.dispatch.queue = [] →
        t.dispatch.queue = [] ∧ t.settings.active = s.settings.active ∧ t.settings.generation = s.settings.generation ∧
        t.settings.locked = s.settings.locked ∧ t.settings.table = s.settings.table ∧
        (∀ j, (t.journalOf j).readCount = (s.journalOf j).readCount ∧
          (t.journalOf j).invalidCount = (s.journalOf j).invalidCount) ∧
        t.sleep.host = s.sleep.host ∧ t.sleep.wakeMask = s.sleep.wakeMask ∧
        t.sleep.standbyAllowed = s.sleep.standbyAllowed ∧ t.allot.source = s.allot.source ∧
        t.posture.lock = s.posture.lock ∧ t.attach.wish = s.attach.wish ∧ t.pen.mode = s.pen.mode ∧
        (MemoryCanonical s → ∀ a, a < 0x1000 →
          (∀ u n, s.servingSlot u = some n → a < slotBase n ∨ slotBase n + 64 ≤ a) → t.mem.get a = s.mem.get a))

/-- Posture Table Staging holds what the host last wrote: no command but a host write and power-on reset changes a byte
of it (R2, R40). -/
def Obligations.StagingIsTheHosts : Prop :=
  ∀ (c : Instr) (s t : State), MemoryCanonical s → c ≠ .powerOnReset →
    (∀ w offset lanes data, c ≠ .hostWrite w offset lanes data) → exec c s = .next t →
    ∀ a, 0x0E00 ≤ a → a < 0x1000 → t.mem.get a = s.mem.get a

/-- Two ways a command comes to nothing: the expiry of a timer that is stopped is no event, the model's choice (log 4); and
while HRST is asserted host accesses change nothing (R1). -/
def Obligations.CommandsWithoutEffect : Prop :=
  (∀ (c : Instr) (s : State), s.betweenEvents → s.timerOf c = some none → exec c s = .next s) ∧
    ∀ (c : Instr) (s : State), s.betweenEvents → s.port.hrst = true → hostAccess c = true →
      (∀ w offset lanes data, c = .hostWrite w offset lanes data → offset < windowSize w) → exec c s = .next s

/-! ## Resets and start-up -/

/-- POWER_ON_RESET (R37): every unit at its power-on value. The lines keep their levels and HRST, the VBASE voltage, the
queue and the model's counter stand (log 8, log 9, log 10). -/
def Obligations.PowerOnReset : Prop :=
  ∀ s : State, exec .powerOnReset s = .next
    { State.reset with
      port := { PortUnit.reset with hrst := s.port.hrst }
      sensor := { SensorUnit.reset with
                  lidClosed := { line := s.sensor.lidClosed.line, level := false, timer := none }
                  foldBack := { line := s.sensor.foldBack.line, level := false, timer := none } }
      attach := { AttachUnit.reset with detect := { line := s.attach.detect.line, level := false, timer := none } }
      pen := { PenUnit.reset with penIn := { line := s.pen.penIn.line, level := false, timer := none } }
      sleep := { SleepUnit.reset with button := { line := s.sleep.button.line, level := false, timer := none } }
      allot := { AllotUnit.reset with voltageLow := s.allot.voltageLow }
      pending := s.pending
      choices := s.choices }

/-- SELF_CHECK_END (R38): with a good ROM entry the part is RUNNING, the sampled levels are the debounced levels and seed
the side memory (R48, R70), the first period runs (R50), and a bad signature makes LID_SENSOR active with F 3 and G 0
(R45). With a bad ROM entry, or once the check is over, the part stays as it is (log 14). -/
def Obligations.SelfCheckEnd : Prop :=
  (∀ (s : State) (status : Byte) (lid fold : Bool), s.port.selfCheck = .underway →
    ∃ t, exec (.selfCheckEnd 512 status lid fold) s = .next t ∧
      t.port.phase = .running ∧ t.port.selfCheck = .done ∧
      t.sensor.lidClosed.level = lid ∧ t.sensor.foldBack.level = fold ∧
      t.angle.side = (if fold then .high else .low) ∧
      (s.dispatch.queue = [] → s.sleep.power = .active →
        t.sensor.timer = some (s.now + BitVec.ofNat 32 s.settings.active.periodActive) ∧
        t.sensor.period = s.settings.active.periodActive ∧
        (status.toNat / 16 = 9 → t.settings.faults = s.settings.faults ∧ t.sensor.failRun = s.sensor.failRun) ∧
        (status.toNat / 16 ≠ 9 →
          (t.faultEntry .lidSensor).active = true ∧ t.sensor.failRun = 3 ∧ t.sensor.goodRun = 0))) ∧
    (∀ (s : State) (romEntry : Half) (status : Byte) (lid fold : Bool), s.betweenEvents → romEntry ≠ 512 →
      s.port.selfCheck = .underway →
      exec (.selfCheckEnd romEntry status lid fold) s = .next { s with port := { s.port with selfCheck := .failed } }) ∧
    ∀ (s : State) (romEntry : Half) (status : Byte) (lid fold : Bool), s.betweenEvents → s.port.selfCheck ≠ .underway →
      exec (.selfCheckEnd romEntry status lid fold) s = .next s

/-- HOST_RESET (R39, R40, with R5, R14, R15, R23, R24, R27, R86, R96, R125, R144, R172, R186). In every state: the
host-facing state at its power-on value, what R40 keeps kept; with no packet waiting also the pulse list, and a release
handled by the phase it stood in (R144). At rest (ACTIVE, no release, no input waiting, the budget and the base's
claim as the reset selects them) the units' state is kept whole and the posture unit re-evaluates its posture; with
DETACHED committed and nothing to notice the journals are empty and no cause is latched. The line is released whether or
not it was asserted (log 6), and the order of the units inside the reset is log 24. -/
def Obligations.HostReset : Prop :=
  ∀ s : State, ∃ t, exec .hostReset s = .next t ∧
    (t.port.hrst = false ∧ t.port.resetKind = .hostReset ∧ t.port.attnMask = 0 ∧
      t.port.capture = { kind := .none, offset := 0, window := .exchange, more := false } ∧
      t.dispatch = Dispatcher.reset ∧
      t.journalOf sampleJournal = { writeCount := 0, readCount := 0, drops := 0, full := false, invalidCount := false } ∧
      (∀ j, (t.journalOf j).readCount = 0 ∧ (t.journalOf j).invalidCount = false) ∧
      t.settings.active = Settings.defaults ∧ t.settings.generation = 0 ∧ t.settings.locked = false ∧
      t.settings.table = defaultTable ∧ (t.faultEntry .wakeUnanswered).active = false ∧ t.allot.source = .battery ∧
      t.sleep.host = .on ∧ t.sleep.power = .active ∧ t.sleep.advice = .none ∧ t.sleep.wakeMask = 0x6B ∧
      t.sleep.standbyAllowed = false ∧ t.sleep.holdAwake = none ∧ t.sleep.wakeReasons = 0 ∧ t.sleep.wake = false ∧
      t.sleep.answerTimer = none ∧ t.sleep.gapTimer = none ∧ t.sleep.assertions = 0 ∧ t.sleep.dozeTimer = none ∧
      t.sleep.withdrawal = false ∧ t.posture.lock = none ∧ t.angle.calibration = none ∧ t.attach.request = none ∧
      (MemoryCanonical s → ∀ a, 0x0100 ≤ a → a < 0x0D00 → t.mem.get a = resetByte a)) ∧
    (t.now = s.now ∧ t.port.phase = s.port.phase ∧ t.port.selfCheck = s.port.selfCheck ∧
      t.sensor.lidClosed = s.sensor.lidClosed ∧ t.sensor.foldBack = s.sensor.foldBack ∧
      t.sensor.seq = s.sensor.seq ∧ t.attach.detect = s.attach.detect ∧ t.pen.penIn = s.pen.penIn ∧
      t.sleep.button = s.sleep.button ∧ t.angle.side = s.angle.side ∧ t.angle.accumulator = s.angle.accumulator ∧
      t.angle.reported = s.angle.reported ∧ t.angle.correction = s.angle.correction ∧
      t.posture.lastAngle = s.posture.lastAngle ∧ t.posture.lastQuality = s.posture.lastQuality ∧
      t.posture.basePose = s.posture.basePose ∧ t.posture.sensed = s.posture.sensed ∧ t.posture.flat = s.posture.flat ∧
      t.pen.identity = s.pen.identity ∧ t.pen.table = s.pen.table ∧ t.pen.mode = s.pen.mode ∧
      t.attach.wish = s.attach.wish) ∧
    (s.link.receiveQueue = [] →
      t.attach.pulses = s.attach.pulses ∧
      (s.attach.phase = some .quiescing ∨ s.attach.phase = some .claiming →
        t.attach.phase = none ∧ t.attach.quiesceTimer = none ∧ t.attach.state.inRelease = false ∧
          t.allot.demand.coil = 0) ∧
      (s.attach.phase = some .pulse →
        t.attach.phase = some .window ∧ t.attach.coil = false ∧ t.attach.pulseTimer = none ∧ t.attach.senseTimer = none ∧
          t.attach.windowTimer = some (s.now + 3000) ∧ t.allot.demand.coil = 0 ∧
          (s.attach.state = .releasing → t.attach.state = .awaitingRemoval)) ∧
      (s.attach.phase = some .window → t.attach.phase = some .window ∧ t.attach.windowTimer = s.attach.windowTimer)) ∧
    (s.atRestForReset →
      t.link = { s.link with keyboardFlag := t.link.keyboardFlag, touchpadFlag := t.link.touchpadFlag } ∧
      t.attach = { s.attach with request := none } ∧ t.angle = { s.angle with calibration := none } ∧ t.pen = s.pen ∧
      t.sensor = s.sensor ∧ t.allot = { s.allot with source := .battery } ∧
      t.settings.faults = s.settings.faults.set 7 { s.faultEntry .wakeUnanswered with active := false } ∧
      t.journalOf inputJournal = { writeCount := 0, readCount := 0, drops := 0, full := false, invalidCount := false } ∧
      t.journal.gap = 0 ∧ t.journal.quiet = none ∧
      (t.posture.posture, t.posture.band) =
        (if s.posture.posture = .detached then (.detached, s.posture.band)
         else if s.baseAttached = true ∧ s.posture.lastQuality ≠ .unavailable then
           (match firstFit s.posture.lastAngle s.posture.basePose 0 defaultTable with
            | some (i, b) => (b.posture, some i)
            | none => (.unknown, none))
         else (.unknown, none)) ∧
      (s.posture.posture = .detached → s.posture.sensed = s.posture.oriented →
        t.posture = { s.posture with
                      dwell := none, unavailable := none, orientationDwell := none, candidate := none, lock := none
                      orientationCandidate := s.posture.oriented } ∧
        t.link = s.link ∧
        ((s.faultEntry .wakeUnanswered).active = false →
          t.port.attnLatch = 0 ∧
            t.journalOf noticeJournal =
              { writeCount := 0, readCount := 0, drops := 0, full := false, invalidCount := false })))

/-! ## Host accesses -/

/-- HOST_WRITE where it is taken (R2, R6): the word holds the data and every other byte stands. In the first word of a
FREE or DONE slot the state byte is the dispatcher's; the rest takes the data (log 12). -/
def Obligations.HostWriteStores : Prop :=
  (∀ (s : State) (a : Nat) (data : Word), s.sound → s.port.hrst = false → a % 4 = 0 →
    (0x0100 ≤ a ∧ a < 0x0500 ∧ s.settings.locked = false ∨ 0x0E00 ≤ a ∧ a < 0x1000) →
    ∃ t, exec (.hostWrite .exchange a 0xF data) s = .next t ∧ t = { s with mem := t.mem } ∧ t.mem.getWord a = data ∧
      ∀ b, b < a ∨ a + 4 ≤ b → t.mem.get b = s.mem.get b) ∧
    ∀ (s : State) (n : Fin 32) (k : Fin 16) (data : Word), s.sound → s.port.hrst = false →
      (s.slotState n = .free ∨ s.slotState n = .done) →
      ∃ t, exec (.hostWrite .exchange (slotBase n + 4 * k.val) 0xF data) s = .next t ∧ t = { s with mem := t.mem } ∧
        (k.val ≠ 0 → t.mem.getWord (slotBase n + 4 * k.val) = data) ∧
        (k.val = 0 → t.mem.getLE (slotBase n + 1) 3 = data.toNat / 256) ∧
        ∀ b, b < slotBase n + 4 * k.val + (if k.val = 0 then 1 else 0) ∨ slotBase n + 4 * k.val + 4 ≤ b →
          t.mem.get b = s.mem.get b

/-- HOST_WRITE where it is refused (R1 to R4, R6): ACCESS_ERROR is latched, an empty capture takes the refusal, any other
sets MORE, and nothing else changes. -/
def Obligations.RefusedHostWrite : Prop :=
  ∀ (s : State) (w : Window) (offset : Nat) (lanes : BitVec 4) (data : Word) (kind : CaptureKind), s.betweenEvents →
    s.port.hrst = false → offset < windowSize w → s.refusal w offset lanes = some kind →
    ∃ t, exec (.hostWrite w offset lanes data) s = .next t ∧ t = { s with port := t.port } ∧
      PortUnit.sameButBoard
        { s.port with attnLatch := s.port.attnLatch ||| Cause.accessError.mask
                      capture := s.port.capture.after kind offset w } t.port

/-- A full word write to a post word, a register of the control window or a read-count word is the command of that row
(R2, R3; log 7). -/
def Obligations.HostWriteReachesRows : Prop :=
  ∀ (s : State) (data : Word),
    (∀ n : Fin 32, exec (.hostWrite .control (8 * n.val) 0xF data) s = exec (.post n) s) ∧
      (∀ n : Fin 32, exec (.hostWrite .control (8 * n.val + 4) 0xF data) s = exec (.release n) s) ∧
      exec (.hostWrite .control 0x100 0xF data) s = exec (.attnLatchWrite data) s ∧
      exec (.hostWrite .control 0x104 0xF data) s = exec (.attnMaskWrite data) s ∧
      ∀ j : Fin 3, exec (.hostWrite .exchange (0x0D04 + 16 * j.val) 0xF data) s = exec (.readCountWrite j data) s

/-- READ_COUNT_WRITE (R16, R17): a valid count is taken, any other leaves the journal empty with the invalid-count flag and
COUNT_INVALID captured. For the Input Journal the statement is of a link with nothing waiting for room, for the Notice
Journal of one without a gap; with a gap pending the room that the count gives lets the GAP notice be written (R20, R21). -/
def Obligations.ReadCountWrite : Prop :=
  (∀ (s : State) (j : Fin 3) (data : Word), s.sound → s.port.hrst = false →
    (j = inputJournal → s.link.receiveQueue = [] ∧ s.link.owed = []) → (j = noticeJournal → s.journal.gap = 0) →
    let q := s.journalOf j
    let valid := (q.writeCount - data.setWidth 16).toNat ≤ journalCapacity j
    ∃ t, exec (.readCountWrite j data) s = .next t ∧ t = { s with port := t.port, journal := t.journal } ∧
      (∀ k, k ≠ j → t.journalOf k = s.journalOf k) ∧ t.journal.gap = s.journal.gap ∧ t.journal.quiet = s.journal.quiet ∧
      (valid →
        t.journalOf j = { q with readCount := data.setWidth 16, invalidCount := false
                                 full := (q.writeCount - data.setWidth 16).toNat == journalCapacity j } ∧
        PortUnit.sameButBoard s.port t.port) ∧
      (¬ valid →
        t.journalOf j = { q with readCount := q.writeCount, invalidCount := true, full := false } ∧
        PortUnit.sameButBoard
          { s.port with attnLatch := s.port.attnLatch ||| Cause.accessError.mask
                        capture := s.port.capture.after .countInvalid (0x0D04 + 16 * j.val) .exchange } t.port)) ∧
    ∀ (s : State) (data : Word), s.sound → s.port.hrst = false → 0 < s.journal.gap → s.journal.gap ≤ 65535 →
      let q := s.journalOf noticeJournal
      let valid := (q.writeCount - data.setWidth 16).toNat ≤ 128
      let used := if valid then (q.writeCount - data.setWidth 16).toNat else 0
      let place := noticePlace q.writeCount
      ∃ t, exec (.readCountWrite noticeJournal data) s = .next t ∧
        t = { s with mem := t.mem, port := t.port, journal := t.journal } ∧
        (∀ k, k ≠ noticeJournal → t.journalOf k = s.journalOf k) ∧ t.journal.quiet = s.journal.quiet ∧
        (used = 128 →
          t.mem = s.mem ∧ t.journal.gap = s.journal.gap ∧
          t.journalOf noticeJournal = { q with readCount := data.setWidth 16, invalidCount := false, full := true }) ∧
        (used < 128 →
          t.journal.gap = 0 ∧ t.noticeAt q.writeCount s.now .gap 0 0 0 s.journal.gap ∧
          t.journalOf noticeJournal =
            { q with writeCount := q.writeCount + 1, readCount := if valid then data.setWidth 16 else q.writeCount
                     invalidCount := decide (¬ valid), full := used + 1 == 128 } ∧
          (s.settings.active.noticeWatermark ≤ used + 1 → t.port.attnLatch.getLsbD Cause.notice.bit = true) ∧
          ∀ a, a < place ∨ place + 16 ≤ a → t.mem.get a = s.mem.get a)

/-- A notice that a unit offers (R20, R21): each row of R20's table, by the gap count and the room. The records written, the
counts and the full flag, NOTICE by the watermark, and nothing else. -/
def Obligations.NoticeOffer : Prop :=
  ∀ (s : State) (kind : NoticeKind) (cause old new arg : Nat), MemoryCanonical s → cause < 256 → old < 256 → new < 256 →
    arg < 2 ^ 32 → s.journal.gap ≤ 65535 →
    let q := s.journalOf noticeJournal
    let gap := s.journal.gap
    let room := s.room noticeJournal
    let written := min room (if gap = 0 then 1 else 2)
    let lost := room = 0 ∨ 0 < gap ∧ room = 1
    let used := s.used noticeJournal + written
    let t := s.offerNotice kind cause old new arg
    (gap = 0 → 1 ≤ room → t.noticeAt q.writeCount s.now kind cause old new arg ∧ t.journal.gap = 0) ∧
      (gap = 0 → room = 0 → t.journal.gap = 1) ∧
      (0 < gap → 2 ≤ room →
        t.noticeAt q.writeCount s.now .gap 0 0 0 gap ∧ t.noticeAt (q.writeCount + 1) s.now kind cause old new arg ∧
          t.journal.gap = 0) ∧
      (0 < gap → room = 1 → t.noticeAt q.writeCount s.now .gap 0 0 0 gap ∧ t.journal.gap = 1) ∧
      (0 < gap → room = 0 → t.journal.gap = countUp gap) ∧
      t.journalOf noticeJournal =
        { q with writeCount := q.writeCount + BitVec.ofNat 16 written
                 drops := if lost then countUp q.drops else q.drops
                 full := if written = 0 then q.full else used == 128 } ∧
      t.port = { s.port with
                 attnLatch := if written ≠ 0 ∧ s.settings.active.noticeWatermark ≤ used then
                     s.port.attnLatch ||| Cause.notice.mask
                   else s.port.attnLatch } ∧
      (∀ k, k ≠ noticeJournal → t.journalOf k = s.journalOf k) ∧ t.journal.quiet = s.journal.quiet ∧
      t = { s with mem := t.mem, port := t.port, journal := t.journal } ∧
      ∀ a, (∀ i, i < written → let place := noticePlace (q.writeCount + BitVec.ofNat 16 i); a < place ∨ place + 16 ≤ a) →
        t.mem.get a = s.mem.get a

/-- POST (R7, R11, R12): while BOOTING a FREE slot is queued and not taken; a slot that is not FREE is left alone and
POST_NOT_FREE captured; RUNNING, with entries waiting for busy units, a slot whose code names no unit passes them and is
finished BAD_REQUEST with the code as detail, one whose unit is busy waits behind them, and one whose unit is idle (here
CALIBRATE_HINGE, which stays TAKEN) is taken past them. -/
def Obligations.Post : Prop :=
  (∀ (s : State) (n : Fin 32), s.betweenEvents → s.port.hrst = false → s.port.phase = .booting → s.slotState n = .free →
    exec (.post n) s = .next
      { s with dispatch := { s.dispatch with slots := s.dispatch.slots.set n .posted
                                             queue := s.dispatch.queue ++ [n] } }) ∧
    (∀ (s : State) (n : Fin 32), s.betweenEvents → s.port.hrst = false → s.slotState n ≠ .free →
      ∃ t, exec (.post n) s = .next t ∧ t = { s with port := t.port } ∧
        PortUnit.sameButBoard
          { s.port with attnLatch := s.port.attnLatch ||| Cause.accessError.mask
                        capture := s.port.capture.after .postNotFree (8 * n.val) .control } t.port) ∧
    ∀ (s : State) (n : Fin 32), s.sound → s.port.hrst = false → s.port.phase = .running → s.slotState n = .free →
      n ∉ s.dispatch.queue → (∀ m ∈ s.dispatch.queue, s.waitsForUnit m) →
      (Request.ofCode (s.requestCode n) = none →
        ∃ t, exec (.post n) s = .next t ∧ s.slotAnswered t n .badRequest (s.requestCode n)) ∧
        (s.waitsForUnit n →
          exec (.post n) s = .next
            { s with dispatch := { s.dispatch with slots := s.dispatch.slots.set n .posted
                                                   queue := s.dispatch.queue ++ [n] } }) ∧
        (Request.ofCode (s.requestCode n) = some .calibrateHinge → s.servingSlot .angle = none →
          ∃ t, exec (.post n) s = .next t ∧ s.slotOnly t n ∧
            t = { s with mem := t.mem, angle := t.angle
                         dispatch := { s.dispatch with
                                       slots := s.dispatch.slots.set n (.taken false)
                                       serving := s.dispatch.serving.set ServingUnit.angle.index (some n) } })

/-- RELEASE (R8, R9, R81): by the slot's state. A calibration is cancelled with the correction kept; a TAKEN slot that is
not cancellable is marked abandoned. -/
def Obligations.Release : Prop :=
  (∀ (s : State) (n : Fin 32), s.betweenEvents → s.port.hrst = false →
    (s.slotState n = .free ∨ s.slotState n = .taken true) → exec (.release n) s = .next s) ∧
    (∀ (s : State) (n : Fin 32), s.betweenEvents → s.port.hrst = false → s.slotState n = .posted →
      exec (.release n) s = .next
        { s with dispatch := { s.dispatch with slots := s.dispatch.slots.set n .free
                                               queue := s.dispatch.queue.filter (· ≠ n) } }) ∧
    (∀ (s : State) (n : Fin 32), s.betweenEvents → s.port.hrst = false → s.slotState n = .done →
      exec (.release n) s = .next { s with dispatch := { s.dispatch with slots := s.dispatch.slots.set n .free } }) ∧
    (∀ (s : State) (n : Fin 32), s.betweenEvents → s.port.hrst = false → s.slotState n = .taken false →
      s.unitServing n ≠ some .angle → (s.unitServing n = some .base → s.detachCancellable n = false) →
      exec (.release n) s = .next { s with dispatch := { s.dispatch with slots := s.dispatch.slots.set n (.taken true) } }) ∧
    ∀ (s : State) (n : Fin 32), s.sound → s.port.hrst = false → s.slotState n = .taken false →
      s.unitServing n = some .angle → s.dispatch.queue = [] →
      ∃ t, exec (.release n) s = .next t ∧ t = { s with mem := t.mem, dispatch := t.dispatch, angle := t.angle } ∧
        t.slotState n = .free ∧ t.resultCode n = ResultCode.cancelled.code ∧ t.servingSlot .angle = none ∧
        t.angle = { s.angle with calibration := none } ∧ s.slotOnly t n

/-- HRST_ASSERT, ATTN_MASK_WRITE and ATTN_LATCH_WRITE (R1, R5, R22, R23), each with its whole effect; and the ATTN line and
ATTN_TOP by the causes both latched and enabled (R23). -/
def Obligations.Attention : Prop :=
  (∀ (s : State) (data : Word), s.betweenEvents →
    exec .hrstAssert s = .next { s with port := { s.port with hrst := true } } ∧
      (s.port.hrst = false →
        exec (.attnMaskWrite data) s = .next { s with port := { s.port with attnMask := data.setWidth 10 } } ∧
        ∃ t, exec (.attnLatchWrite data) s = .next t ∧ t = { s with port := t.port } ∧
          PortUnit.sameButBoard
            { s.port with
              attnLatch := s.port.attnLatch &&& ~~~(data.setWidth 10)
              capture :=
                if data.getLsbD 9 then { kind := .none, offset := 0, window := .exchange, more := false }
                else s.port.capture } t.port)) ∧
    (∀ s : State,
        (s.attnLine = true ↔ ∃ i, i < 10 ∧ s.port.attnLatch.getLsbD i = true ∧ s.port.attnMask.getLsbD i = true) ∧
          (s.attnLine = false → s.attnTop = 31) ∧
          (s.attnLine = true →
            s.attnTop < 10 ∧ s.port.attnLatch.getLsbD s.attnTop = true ∧ s.port.attnMask.getLsbD s.attnTop = true ∧
            ∀ i, i < s.attnTop → ¬ (s.port.attnLatch.getLsbD i = true ∧ s.port.attnMask.getLsbD i = true)))

/-- INPUT_QUIET_FLUSH_EXPIRY (R19): the timer stops, and INPUT is latched when the Input Journal holds a record. Part
time reaches the expiry by log 4. -/
def Obligations.InputQuietFlush : Prop :=
  ∀ (s : State) (e : PartTime), s.betweenEvents → s.journal.quiet = some e →
    exec .inputQuietFlushExpiry s = .next
      { s with
        now := (s.reach e).now
        journal := { s.journal with quiet := none }
        port := { s.port with
                  attnLatch := if 0 < s.used inputJournal then s.port.attnLatch ||| Cause.input.mask
                               else s.port.attnLatch } }

/-! ## Requests of the settings unit -/

/-- APPLY_SETTINGS (R28, R82, R163; log 29): LOCKED under the lock, nothing else changing; else the settings of the block
are active and counted, and, where they select the budget in force or nothing is drawn from it, the request is answered OK
with the number of words changed, the first of them, and the generation, a changed OFFSET restarts a collection, and a
changed budget is taken. LOCK_SETTINGS (R31): OK and the lock set, or LOCKED where it is set already; nothing outside the slot
changes but the lock, REQUEST_DONE and the board. -/
def Obligations.ApplyAndLockSettings : Prop :=
  (∀ (s : State) (n : Fin 32) (tag : Half), s.sound → s.takesAtOnce n .settings →
    let given := s.mem.settingWords
    let taken := Machine.settle given
    let changed := changedOffsets 0 given taken
    ∃ t, exec (.applySettings n tag) s = .next t ∧
      (s.settings.locked = true → s.slotAnswered t n .locked 0) ∧
      (s.settings.locked = false →
        t.settings.active = Settings.ofList taken ∧ t.settings.generation = s.settings.generation + 1 ∧
        t.settings.locked = false ∧ t.settings.table = s.settings.table) ∧
      (s.settings.locked = false →
        let budget := State.selectedBudget { s with settings := { s.settings with active := Settings.ofList taken } }
        budget = s.allot.budget ∨ s.nothingDraws →
        t.answered n .ok 0 ∧ t.resultWord n 0 = changed.length ∧ t.resultWord n 1 = changed.headD 0 ∧
        t.resultWord n 2 = (s.settings.generation + 1).toNat ∧ t.mem.settingWords = taken ∧
        (∀ k, k ≠ n → t.slotState k = s.slotState k) ∧ t.dispatch.queue = [] ∧
        t.dispatch.serving = s.dispatch.serving ∧
        t.settings = { s.settings with active := Settings.ofList taken, generation := s.settings.generation + 1 } ∧
        t.allot = { s.allot with budget := budget } ∧
        t.angle = { s.angle with
                    calibration := if t.settings.active.offset = s.settings.active.offset then s.angle.calibration
                                   else s.angle.calibration.map fun c => { run := 0, sum := 0, sets := c.sets } } ∧
        t = { s with mem := t.mem, dispatch := t.dispatch, port := t.port, journal := t.journal, settings := t.settings
                     angle := t.angle, allot := t.allot } ∧
        (budget = s.allot.budget →
          t.journal = s.journal ∧
            PortUnit.sameButBoard { s.port with attnLatch := s.port.attnLatch ||| Cause.requestDone.mask } t.port ∧
            ∀ a, a < slotBase n ∨ slotBase n + 64 ≤ a → a < settingsBase ∨ settingOffset 31 ≤ a →
              t.mem.get a = s.mem.get a))) ∧
    (∀ (s : State) (n : Fin 32) (tag : Half), s.sound → s.takesAtOnce n .settings →
        ∃ t, exec (.lockSettings n tag) s = .next t ∧
          State.slotAnswered { s with settings := { s.settings with locked := true } } t n
            (if s.settings.locked then .locked else .ok) 0)

/-- "After each field is clamped to its own range, if the top-up threshold is not below the charge target, the settings
unit sets the threshold to the charge target minus one" (R29). A word is counted once where the value taken differs from
the value given, and not at all where it does not: that the count is net is the model's choice (log 29). -/
def Obligations.TopUpBelowTargetRule : Prop :=
  ∀ v : List Nat, v.length = 31 →
    (Machine.settle v).getD penTopUpIndex 0 < (Machine.settle v).getD penTargetIndex 0 ∧
      ((clampOwn v).getD penTopUpIndex 0 < (clampOwn v).getD penTargetIndex 0 → Machine.settle v = clampOwn v) ∧
      (¬ (clampOwn v).getD penTopUpIndex 0 < (clampOwn v).getD penTargetIndex 0 →
        Machine.settle v = (clampOwn v).set penTopUpIndex ((clampOwn v).getD penTargetIndex 0 - 1)) ∧
      ((clampOwn v).getD penTargetIndex 0 = 50 → (Machine.settle v).getD penTopUpIndex 0 = 49) ∧
      ∀ i, i < 31 →
        (changedOffsets 0 v (Machine.settle v)).count (0x0100 + 4 * i) =
          if (Machine.settle v).getD i 0 = v.getD i 0 then 0 else 1

/-- LOAD_POSTURE_TABLE (R87): a bad count, or the first bad band with its reason, is refused and the table stands; a sound
run of bands becomes the active table. For a committed DETACHED whose orientation follows the lid the request is answered
in its event with the posture kept (R88). -/
def Obligations.LoadPostureTable : Prop :=
  ∀ (s : State) (n : Fin 32) (tag : Half) (count : Word), s.sound → s.takesAtOnce n .settings →
    ∃ t, exec (.loadPostureTable n tag count) s = .next t ∧
      (count = 0 ∨ 16 < count.toNat →
        t.answered n .badParameter 0 ∧ t.settings = s.settings ∧ t.posture = s.posture ∧ s.slotOnly t n) ∧
      (count ≠ 0 → count.toNat ≤ 16 → ∀ i reason, s.mem.readBands 0 count.toNat = .inr (i, reason) →
        t.answered n .badParameter 1 ∧ t.resultWord n 0 = i ∧ t.resultWord n 1 = reason ∧ t.settings = s.settings ∧
        s.slotOnly t n) ∧
      (count ≠ 0 → count.toNat ≤ 16 → ∀ bands, s.mem.readBands 0 count.toNat = .inl bands →
        t.settings.table = bands ∧ bands.length = count.toNat ∧
        (s.posture.posture = .detached → s.posture.lock = none → s.posture.sensed = s.posture.oriented →
          t.answered n .ok 0 ∧ t.resultWord n 0 = count.toNat ∧ t.resultWord n 1 = Posture.detached.code ∧
          t.posture.posture = .detached ∧ t.posture.dwell = none ∧ t.posture.unavailable = none))

/-- RESET_JOURNAL (R32) and ACK_FAULT (R35). The Input Journal is taken with nothing waiting for its room. -/
def Obligations.ResetJournalAndAckFault : Prop :=
  (∀ (s : State) (n : Fin 32) (tag : Half) (number : Word), s.sound → s.takesAtOnce n .settings →
    (number = 1 → s.link.receiveQueue = [] ∧ s.link.owed = []) →
    ∃ t, exec (.resetJournal n tag number) s = .next t ∧ s.slotOnly t n ∧
      (2 < number.toNat → t.answered n .badParameter 0 ∧ t.journal = s.journal) ∧
      ∀ j : Fin 3, number.toNat = j.val →
        t.answered n .ok 0 ∧ t.resultWord n 0 = s.used j ∧ t.resultWord n 1 = (word (s.journalOf j).drops).toNat ∧
        t.journalOf j = { writeCount := 0, readCount := 0, drops := 0, full := false, invalidCount := false } ∧
        (∀ k, k ≠ j → t.journalOf k = s.journalOf k) ∧
        t.journal.gap = (if j = noticeJournal then 0 else s.journal.gap) ∧
        t.journal.quiet = (if j = inputJournal then none else s.journal.quiet)) ∧
    ∀ (s : State) (n : Fin 32) (tag : Half) (kind : Word), s.sound → s.takesAtOnce n .settings →
      ∃ t, exec (.ackFault n tag kind) s = .next t ∧
        (7 < kind.toNat → s.slotAnswered t n .badParameter 0) ∧
        ∀ k : FaultKind, kind.toNat = k.index.val →
          ((s.faultEntry k).active = true → s.slotAnswered t n .notNow 1) ∧
          ((s.faultEntry k).active = false →
            State.slotAnswered
              { s with settings := { s.settings with
                                     faults := s.settings.faults.set k.index
                                       { active := false, count := 0, firstActive := 0 } } }
              t n .ok 0 ∧
            t.resultWord n 0 = (word (s.faultEntry k).count).toNat)

/-! ## Requests of the other units -/

/-- CALIBRATE_HINGE (R77, R78, R80): the request is taken and collects from nothing with the correction kept; each set is
counted, a GOOD one summed, a HELD or HALL one restarts the run; at the end of a collection the correction cancels the
mean, or the request is refused NOT_CLOSED; a set without a value, the 200th set, the loss of the base and STANDBY end it
FAILED, and a 200th set without a value by what was lost (log 35). -/
def Obligations.CalibrateHinge : Prop :=
  (∀ (s : State) (n : Fin 32) (tag : Half), s.sound → s.takesAtOnce n .angle →
    ∃ t, exec (.calibrateHinge n tag) s = .next t ∧ t.slotState n = .taken false ∧ t.servingSlot .angle = some n ∧
      t.dispatch = { s.dispatch with
                     slots := s.dispatch.slots.set n (.taken false)
                     serving := s.dispatch.serving.set ServingUnit.angle.index (some n) } ∧
      t.angle = { s.angle with calibration := some { run := 0, sum := 0, sets := 0 } } ∧ s.slotOnly t n ∧
      t = { s with mem := t.mem, dispatch := t.dispatch, port := t.port, angle := t.angle } ∧
      PortUnit.sameButBoard s.port t.port) ∧
    (∀ (s : State) (n : Fin 32) (sum : Int), MemoryCanonical s → s.servingSlot .angle = some n →
      s.slotState n = .taken false →
      let mean := (sum + 16) / 32
      let t := s.completeCalibration sum
      t.angle.calibration = none ∧ t.servingSlot .angle = none ∧
        (-512 ≤ mean → mean ≤ 512 →
          t.angle.correction = (if mean = -512 then 511 else -mean) ∧ t.answered n .ok 0 ∧
          t.resultWord n 0 = (BitVec.ofInt 32 t.angle.correction).toNat ∧
          t.resultWord n 1 = (BitVec.ofInt 32 sum).toNat ∧
          t.resultWord n 2 = (BitVec.ofInt 32 s.angle.correction).toNat) ∧
        (mean < -512 ∨ 512 < mean →
          t.angle.correction = s.angle.correction ∧ t.answered n .badParameter 3 ∧
          t.resultWord n 1 = (BitVec.ofInt 32 sum).toNat ∧
          t.resultWord n 2 = (BitVec.ofInt 32 s.angle.correction).toNat)) ∧
    (∀ (s : State) (c : Calibration) (r : AngleResult), s.angle.calibration = some c →
      let sets := c.sets + 1
      let d0 := ((r.difference : Int) - s.angle.correction) % 4096
      let sum := c.sum + (if 3841 ≤ d0 then d0 - 4096 else d0)
      let collects (run : Nat) (sum : Int) : State :=
        { s with angle := { s.angle with calibration := some { run := run, sum := sum, sets := sets } } }
      let t := s.calibrateSet r
      (s.angle.quality = .good →
        (c.run + 1 = 32 → t = s.completeCalibration sum) ∧
        (c.run + 1 ≠ 32 → sets ≠ 200 → t = collects (c.run + 1) sum) ∧
        (c.run + 1 ≠ 32 → sets = 200 → t = (collects (c.run + 1) sum).failCalibration 2)) ∧
      (s.angle.quality = .held ∨ s.angle.quality = .hall →
        t = if sets = 200 then (collects 0 0).failCalibration 2 else collects 0 0) ∧
      (s.angle.quality = .unavailable →
        t = (collects c.run c.sum).failCalibration (if r.loss = .base then 1 else 2))) ∧
    ∀ (s : State) (c : Calibration) (n : Fin 32) (detail : Nat), MemoryCanonical s → s.angle.calibration = some c →
      s.servingSlot .angle = some n → s.slotState n = .taken false → detail < 65536 → c.run < 2 ^ 32 → c.sets < 2 ^ 32 →
      let ended (t : State) (detail : Nat) : Prop :=
        t.answered n .failed detail ∧ t.resultWord n 0 = c.run ∧ t.resultWord n 1 = c.sets ∧
          t.angle.calibration = none ∧ t.angle.correction = s.angle.correction ∧ t.servingSlot .angle = none
      ended (s.failCalibration detail) detail ∧ ended s.angleDetached 1 ∧
        (s.sleep.power = .standby → ended s.anglePower 2)

/-- SET_ROTATION_LOCK (R103, R104): a bad word changes nothing; the lock keeps the orientation named, or the committed one,
and commits it where the committed posture lets the display rotate, in STANDBY too (log 36); the lock off lets the sensed
orientation decide. -/
def Obligations.SetRotationLock : Prop :=
  ∀ (s : State) (n : Fin 32) (tag : Half) (w0 w1 : Word), s.sound → s.takesAtOnce n .posture →
    ∃ t, exec (.setRotationLock n tag w0 w1) s = .next t ∧
      (1 < w0.toNat → s.slotAnswered t n .badParameter 0) ∧
      (w0 = 1 → 3 < w1.toNat → w1 ≠ 255 → s.slotAnswered t n .badParameter 1) ∧
      (w0 = 1 → w1.toNat ≤ 3 ∨ w1 = 255 →
        let o := if w1 = 255 then s.posture.oriented else Orientation.ofCode w1.toNat
        t.answered n .ok 0 ∧ t.resultWord n 0 = o.code ∧ t.resultWord n 1 = t.posture.oriented.code ∧
          t.posture = { s.posture with
                        lock := some o, orientationDwell := none
                        oriented := if s.rotationAllowed then o else s.posture.oriented
                        orientationCandidate := if s.rotationAllowed then o else s.posture.oriented }) ∧
      (w0 = 0 → t.answered n .ok 0 ∧ t.resultWord n 0 = 255 ∧ t.resultWord n 1 = t.posture.oriented.code ∧
        t.posture.lock = none ∧
        (s.posture.lock = none ∨ s.rotationAllowed = false ∨ s.posture.sensed = s.posture.oriented →
          t.posture.oriented = s.posture.oriented) ∧
        (s.posture.lock = none ∨ s.rotationAllowed = false → t.posture = { s.posture with lock := none }))

/-- The refusals of a DETACH (R131), in their order, each with its code, detail and result word 0; nothing else changes. -/
def Obligations.DetachRefused : Prop :=
  ∀ (s : State) (n : Fin 32) (tag : Half), s.sound → s.takesAtOnce n .base → s.attach.state.inRelease = false →
    ∃ t, exec (.detach n tag) s = .next t ∧
      let seated := s.attach.state = .attached ∨ s.attach.state = .degraded
      let warm := s.attach.pulses.length < s.settings.active.pulseLimit
      (¬ seated → s.slotAnswered t n .notNow 1 ∧ t.resultWord n 0 = 0) ∧
      (seated → s.detachAllowed = false → s.slotAnswered t n .notNow 2 ∧ t.resultWord n 0 = 0) ∧
      (seated → s.detachAllowed = true → s.sleep.power ≠ .active →
        s.slotAnswered t n .notNow 3 ∧ t.resultWord n 0 = 0) ∧
      (seated → s.detachAllowed = true → s.sleep.power = .active → ¬ warm → s.attach.pulses ≠ [] →
        s.slotAnswered t n .notNow 4 ∧
          t.resultWord n 0 = (s.attach.pulses.headD 0 + 60000 - s.now).toNat) ∧
      (seated → s.detachAllowed = true → s.sleep.power = .active → warm → s.allot.budget < 1200 →
        s.slotAnswered t n .noPower 0 ∧ t.resultWord n 0 = s.allot.budget)

/-- An accepted DETACH quiesces a READY link for 100 ms (R133), and with a link that is not READY goes straight to CLAIMING
(R134), with the power at hand into the pulse (R135); one taken in a release begun by the button joins it (R132). Released
while QUIESCING or CLAIMING it is cancelled: the base returns to its resting state with the link resumed, or, of a release
begun by the button, only the request goes (R138, R143). The coil time is counted by log 20. -/
def Obligations.DetachAcceptedAndCancelled : Prop :=
  (∀ (s : State) (n : Fin 32) (tag : Half), s.sound → s.takesAtOnce n .base → s.noInputWaits →
    s.attach.state = .attached ∨ s.attach.state = .degraded → s.detachAllowed = true → s.sleep.power = .active →
    s.attach.pulses.length < s.settings.active.pulseLimit → 1200 ≤ s.allot.budget →
    let accepted : AttachUnit :=
      { s.attach with state := .releasing, origin := .request, request := some n, coilTime := 0 }
    let active (u : SleepUnit) : Prop :=
      u = if s.hostOn then
            { s.sleep with idle := s.idleRestarted.1, idleShown := s.idleRestarted.2
                           advice := if s.sleep.advice = .idle then .none else s.sleep.advice }
          else s.sleep
    let elsewhere (t : State) : Prop :=
      t.slotState n = .taken false ∧ t.servingSlot .base = some n ∧ active t.sleep ∧ t.posture = s.posture ∧
        t.angle = s.angle ∧ t.sensor = s.sensor ∧ t.settings = s.settings ∧ t.now = s.now
    (s.link.state = .ready →
      ∃ t, exec (.detach n tag) s = .next t ∧
        t.attach = { accepted with phase := some .quiescing, quiesceTimer := some (s.now + 100) } ∧
        t.link.state = .quiesced ∧ t.allot = s.allot ∧ t.pen = s.pen ∧ elsewhere t) ∧
      (s.link.state ≠ .ready → s.allot.demand = ⟨0, 0, 0, 0⟩ → s.allot.grant = ⟨0, 0, 0, 0⟩ → s.allot.awaiting = [] →
        ∃ t, exec (.detach n tag) s = .next t ∧
          t.attach = { accepted with
                       phase := some .pulse, quiesceTimer := none, coil := true, currentSeen := false, coilSince := s.now
                       pulses := s.attach.pulses ++ [s.now], senseTimer := some (s.now + 20)
                       pulseTimer := some (s.now + BitVec.ofNat 32 s.settings.active.pulseTime) } ∧
          t.allot = { s.allot with
                      demand := ⟨1200, 0, 0, 0⟩, grant := ⟨1200, 0, 0, 0⟩, increases := noIncreases } ∧
          t.link = s.link ∧ t.pen = s.pen ∧ elsewhere t) ∧
      ∀ p, s.link.state ≠ .ready → s.allot.demand = ⟨0, 0, p, 0⟩ → s.allot.grant = ⟨0, 0, p, 0⟩ → s.allot.awaiting = [] →
        150 ≤ p → s.allot.budget < 1200 + p →
        ∃ t, exec (.detach n tag) s = .next t ∧
          t.attach = { accepted with phase := some .claiming, quiesceTimer := none } ∧
          t.allot.demand = ⟨1200, 0, p, 0⟩ ∧ t.allot.grant = ⟨0, 0, (targets s.allot.budget t.allot.demand).pen, 0⟩ ∧
          t.allot.increases = { noIncreases with coil := some 1200 } ∧ t.allot.awaiting = [⟨.pen, s.now + 100⟩] ∧
          t.link = s.link ∧ elsewhere t) ∧
    (∀ (s : State) (n : Fin 32) (tag : Half), s.sound → s.takesAtOnce n .base → s.attach.state.inRelease = true →
      s.attach.request = none →
      ∃ t, exec (.detach n tag) s = .next t ∧ t.attach = { s.attach with request := some n } ∧ s.slotOnly t n ∧
        t = { s with mem := t.mem, attach := t.attach
                     dispatch := { s.dispatch with
                                   slots := s.dispatch.slots.set n (.taken false)
                                   serving := s.dispatch.serving.set ServingUnit.base.index (some n) } }) ∧
    ∀ (s : State) (n : Fin 32), s.sound → s.port.hrst = false → s.dispatch.queue = [] → s.slotState n = .taken false →
      s.unitServing n = some .base → s.attach.state = .releasing →
      s.attach.phase = some .quiescing ∨ s.attach.phase = some .claiming → s.attach.request = some n →
      let cancelled (t : State) : Prop :=
        t.slotState n = .free ∧ t.resultCode n = ResultCode.cancelled.code ∧ t.servingSlot .base = none
      let ended : AttachUnit :=
        { s.attach with phase := none, request := none, quiesceTimer := none, senseTimer := none, pulseTimer := none
                        windowTimer := none }
      (s.attach.origin = .button →
        ∃ t, exec (.release n) s = .next t ∧ cancelled t ∧ s.slotOnly t n ∧
          t = { s with mem := t.mem, dispatch := t.dispatch, attach := { s.attach with request := none } }) ∧
        (s.attach.origin = .request → s.noInputWaits → s.attach.coil = false → s.attach.detect.level = true →
          (s.allot.demand.coil = 0 → s.link.state = .quiesced →
            ∃ t, exec (.release n) s = .next t ∧ cancelled t ∧ t.attach = { ended with state := .attached } ∧
              t.link.state = .ready ∧ t.allot = s.allot ∧ t.pen = s.pen ∧ t.posture = s.posture) ∧
            (GrantsWithinTargets s → s.allot.demand.coil = 1200 → s.link.state = .quiesced ∨ s.link.state = .faulted →
              ∃ t, exec (.release n) s = .next t ∧ cancelled t ∧
                t.attach = { ended with state := if s.link.state = .quiesced then .attached else .degraded } ∧
                t.link.state = (if s.link.state = .quiesced then .ready else .faulted) ∧
                t.allot.demand = { s.allot.demand with coil := 0 } ∧ t.allot.grant.coil = 0 ∧
                t.allot.increases.coil = none ∧ t.posture = s.posture))

/-- SET_BACKLIGHT (R145, R166, R170): with the allotment at rest the grant follows the demand of the wish, the level
follows the grant, and the slot shows it. SET_POWER_SOURCE (R163, R164): the source is taken, and a budget that it changes
is noticed; with nothing drawn no grant changes. -/
def Obligations.AllotmentRequests : Prop :=
  (∀ (s : State) (n : Fin 32) (tag : Half) (level : Word), s.sound → s.takesAtOnce n .base →
    ∃ t, exec (.setBacklight n tag level) s = .next t ∧
      (3 < level.toNat → s.slotAnswered t n .badParameter 0) ∧
      (level.toNat ≤ 3 →
        let d := if s.link.capBacklight then 150 * level.toNat else 0
        t.attach.wish = level.toNat ∧
        (s.allot.demand.backlight = d →
          State.slotAnswered { s with attach := { s.attach with wish := level.toNat } } t n .ok 0 ∧
            t.resultWord n 0 = (word s.allot.level).toNat) ∧
        (GrantsWithinTargets s → s.allot.increases = noIncreases → s.allot.awaiting = [] → s.attach.phase = none →
          s.allot.level = s.allot.grant.backlight / 150 →
          t.answered n .ok 0 ∧ t.attach = { s.attach with wish := level.toNat } ∧
          t.allot.demand = { s.allot.demand with backlight := d } ∧
          t.allot.grant = targets s.allot.budget t.allot.demand ∧ t.allot.level = t.allot.grant.backlight / 150 ∧
          t.resultWord n 0 = t.allot.level ∧ t.resultWord n 1 = t.allot.level))) ∧
    (∀ (s : State) (n : Fin 32) (tag : Half) (code : Word), s.sound → s.takesAtOnce n .power →
        ∃ t, exec (.setPowerSource n tag code) s = .next t ∧
          (2 < code.toNat → s.slotAnswered t n .badParameter 0) ∧
          ∀ source : PowerSource, code.toNat = source.code →
            let b := State.selectedBudget { s with allot := { s.allot with source := source } }
            t.allot.source = source ∧
            (b = s.allot.budget →
              State.slotAnswered { s with allot := { s.allot with source := source } } t n .ok 0 ∧
                t.resultWord n 0 = (word b).toNat ∧ t.resultWord n 1 = s.allot.source.code) ∧
            (s.nothingDraws →
              t.answered n .ok 0 ∧ t.resultWord n 0 = (word b).toNat ∧ t.resultWord n 1 = s.allot.source.code ∧
                t.allot = { s.allot with source := source, budget := b } ∧
                t = { s with mem := t.mem, dispatch := t.dispatch, port := t.port, journal := t.journal, allot := t.allot }))

/-- PEN_ACCEPT (R159) and PEN_FORGET (R160): the entry written, found or evicted, and the entries emptied. A demand of the
seated pen above 300 is capped when its entry goes (R158). -/
def Obligations.PenTable : Prop :=
  (∀ (s : State) (n : Fin 32) (tag : Half) (identity : Word), s.sound → s.takesAtOnce n .pen →
    let session := identity = s.pen.identity
    let age (i : Fin 4) : Nat := elapsed s.now s.pen.table[i].lastSeen
    let fresh : PairedPen := { identity := identity, soc := if session then s.pen.soc else 0, lastSeen := s.now }
    ∃ t, exec (.penAccept n tag identity) s = .next t ∧
      (identity = 0 → s.slotAnswered t n .badParameter 0) ∧
      (identity ≠ 0 → ∀ i : Fin 4, s.pen.table[i].identity = identity → (∀ j < i, s.pen.table[j].identity ≠ identity) →
        State.slotAnswered
          { s with pen := { s.pen with
                            table := s.pen.table.set i
                              { fresh with soc := if session then s.pen.soc else s.pen.table[i].soc } } } t n .ok 1 ∧
          t.resultWord n 0 = i.val ∧ t.resultWord n 1 = 0 ∧ t.resultWord n 2 = occupied t.pen.table) ∧
      (identity ≠ 0 → (∀ j : Fin 4, s.pen.table[j].identity ≠ identity) →
        ∀ i : Fin 4, s.pen.table[i].identity = 0 → (∀ j < i, s.pen.table[j].identity ≠ 0) →
        State.slotAnswered { s with pen := { s.pen with table := s.pen.table.set i fresh } } t n .ok 0 ∧
          t.resultWord n 0 = i.val ∧ t.resultWord n 1 = 0 ∧ t.resultWord n 2 = occupied t.pen.table) ∧
      (identity ≠ 0 → (∀ j : Fin 4, s.pen.table[j].identity ≠ identity ∧ s.pen.table[j].identity ≠ 0) →
        ∀ i : Fin 4, (∀ j, age j ≤ age i) → (∀ j < i, age j < age i) →
        t.pen.table = s.pen.table.set i fresh ∧
        (s.pen.table[i].identity ≠ s.pen.identity ∨ s.allot.demand.pen ≤ 300 →
          State.slotAnswered { s with pen := { s.pen with table := s.pen.table.set i fresh } } t n .ok 2 ∧
            t.resultWord n 0 = i.val ∧ t.resultWord n 1 = s.pen.table[i].identity.toNat ∧ t.resultWord n 2 = 4) ∧
        (s.pen.table[i].identity = s.pen.identity → (∀ j ≠ i, s.pen.table[j].identity ≠ s.pen.identity) →
          300 < s.allot.demand.pen → t.allot.demand.pen = 300))) ∧
    ∀ (s : State) (n : Fin 32) (tag : Half) (selector identity : Word), s.sound → s.takesAtOnce n .pen →
      let none4 : PairedPen := { identity := 0, soc := 0, lastSeen := 0 }
      ∃ t, exec (.penForget n tag selector identity) s = .next t ∧
        (1 < selector.toNat → s.slotAnswered t n .badParameter 0) ∧
        (selector = 0 → identity = 0 → s.slotAnswered t n .badParameter 1) ∧
        (selector = 0 → identity ≠ 0 → (∀ j : Fin 4, s.pen.table[j].identity ≠ identity) →
          s.slotAnswered t n .ok 1 ∧ t.resultWord n 0 = 0) ∧
        (selector = 1 → t.pen.table = Vector.replicate 4 none4 ∧
          (s.allot.demand.pen ≤ 300 →
            State.slotAnswered { s with pen := { s.pen with table := Vector.replicate 4 none4 } } t n .ok 0 ∧
              t.resultWord n 0 = occupied s.pen.table) ∧
          (s.pen.identity ≠ 0 → (∃ i : Fin 4, s.pen.table[i].identity = s.pen.identity) → 300 < s.allot.demand.pen →
            t.allot.demand.pen = 300)) ∧
        (selector = 0 → identity ≠ 0 → ∀ i : Fin 4, s.pen.table[i].identity = identity →
          (∀ j < i, s.pen.table[j].identity ≠ identity) →
          t.pen.table = s.pen.table.set i none4 ∧
          (s.allot.demand.pen ≤ 300 →
            State.slotAnswered { s with pen := { s.pen with table := s.pen.table.set i none4 } } t n .ok 0 ∧
              t.resultWord n 0 = 1) ∧
          (identity = s.pen.identity → (∀ j ≠ i, s.pen.table[j].identity ≠ identity) → 300 < s.allot.demand.pen →
            t.allot.demand.pen = 300))

/-- PEN_CHARGE_MODE (R161): HOLD takes a charging, deferred, topped or paused pen to HELD without coil power or demand;
elsewhere only the mode changes; NORMAL begins an exchange for a held pen. -/
def Obligations.PenChargeMode : Prop :=
  ∀ (s : State) (n : Fin 32) (tag : Half) (mode : Word), s.sound → s.takesAtOnce n .pen →
    ∃ t, exec (.penChargeMode n tag mode) s = .next t ∧
      (1 < mode.toNat → s.slotAnswered t n .badParameter 0) ∧
      (mode = 1 → t.pen.mode = .hold) ∧ (mode = 0 → t.pen.mode = .normal) ∧
      (mode = 1 →
        s.pen.state = .absent ∨ s.pen.state = .identifying ∨ s.pen.state = .held ∨ s.pen.state = .fault →
        State.slotAnswered { s with pen := { s.pen with mode := .hold } } t n .ok 0 ∧
          t.resultWord n 0 = 1 ∧ t.resultWord n 1 = s.pen.state.code) ∧
      (mode = 1 →
        s.pen.state = .charging ∨ s.pen.state = .deferred ∨ s.pen.state = .topped ∨ s.pen.state = .pausedTemp →
        t.pen.state = .held ∧ t.pen.coilPower = 0 ∧ t.allot.demand.pen = 0) ∧
      (mode = 0 → s.pen.state ≠ .held →
        State.slotAnswered { s with pen := { s.pen with mode := .normal } } t n .ok 0 ∧
          t.resultWord n 0 = 0 ∧ t.resultWord n 1 = s.pen.state.code) ∧
      (mode = 0 → s.pen.state = .held →
        State.slotAnswered
          { s with pen := { s.pen with
                            mode := .normal, poll := none
                            response := if s.pen.response.isSome then s.pen.response else some (s.now + 20) } }
          t n .ok 0 ∧
          t.resultWord n 0 = 0 ∧ t.resultWord n 1 = PenState.held.code)

/-- HOLD_AWAKE (R177): refused for a long duration or a sleeping host; else the deadline is set or cleared and the request
counts as activity (R175). -/
def Obligations.HoldAwakeRequest : Prop :=
  ∀ (s : State) (n : Fin 32) (tag : Half) (duration : Word), s.sound → s.takesAtOnce n .sleep →
    ∃ t, exec (.holdAwake n tag duration) s = .next t ∧
      (3600000 < duration.toNat → s.slotAnswered t n .badParameter 0) ∧
      (duration.toNat ≤ 3600000 → s.sleep.host = .sleeping → s.slotAnswered t n .notNow 1) ∧
      (duration.toNat ≤ 3600000 → s.sleep.host = .on →
        t.answered n .ok 0 ∧ t.resultWord n 0 = duration.toNat ∧
        t.resultWord n 1 = (if duration = 0 then 0 else (s.now + duration).toNat) ∧
        t.sleep = { s.sleep with
                    holdAwake := if duration = 0 then none else some (s.now + duration)
                    idle := s.idleRestarted.1
                    idleShown := s.idleRestarted.2
                    advice := if s.sleep.advice = .idle then .none else s.sleep.advice } ∧
        t = { s with mem := t.mem, dispatch := t.dispatch, port := t.port, journal := t.journal, sleep := t.sleep })

/-- SLEEP_ENTER (R179) and HOST_ON (R181). The sleeping part is stated for nothing drawn, where a change of budget moves no
grant; ON with the host ON is stated of every state. A SLEEP_ENTER with both words bad is answered for word 1, the model's
choice (log 32); with CLOSED committed ON starts the grace (R181), which commits at once where it is 0 (log 19). -/
def Obligations.HostStateRequest : Prop :=
  (∀ (s : State) (n : Fin 32) (tag : Half) (mask standby : Word), s.sound → s.takesAtOnce n .sleep →
    ∃ t, exec (.sleepEnter n tag mask standby) s = .next t ∧
      (255 < mask.toNat → s.slotAnswered t n .badParameter 1) ∧
      (mask.toNat ≤ 255 → 1 < standby.toNat → s.slotAnswered t n .badParameter 2) ∧
      (mask.toNat ≤ 255 → standby.toNat ≤ 1 →
        t.sleep.host = .sleeping ∧ t.sleep.wakeMask = mask.setWidth 8 ∧ t.sleep.standbyAllowed = (standby == 1) ∧
        t.sleep.holdAwake = none ∧
        (s.nothingDraws → s.sleep.power = .active →
          t.answered n .ok 0 ∧ t.resultWord n 0 = mask.toNat ∧
          t.sleep = { s.sleep with
                      host := .sleeping, power := .doze, advice := .none, idle := .stopped, idleShown := 0xFFFFFFFF
                      grace := none, holdAwake := none, wakeMask := mask.setWidth 8, standbyAllowed := standby == 1
                      dozeTimer :=
                        if standby = 1 then some (s.after (1000 * s.settings.active.dozeToStandby)) else none
                      wakeReasons := 0, wake := false, answerTimer := none, gapTimer := none, assertions := 0
                      withdrawal := false } ∧
          t.allot = { s.allot with
                      budget := State.selectedBudget { s with sleep := { s.sleep with power := .doze } } } ∧
          t.sensor = { s.sensor with lidSupply := true } ∧
          t = { s with mem := t.mem, dispatch := t.dispatch, port := t.port, journal := t.journal, sleep := t.sleep
                       allot := t.allot, sensor := t.sensor }))) ∧
    ∀ (s : State) (n : Fin 32) (tag : Half), s.sound → s.takesAtOnce n .sleep →
      ∃ t, exec (.hostOn n tag) s = .next t ∧ t.sleep.host = .on ∧
        (s.sleep.host = .on →
          t.answered n .ok 0 ∧ t.resultWord n 0 = s.sleep.wakeReasons.toNat ∧
          t.sleep = { s.sleep with
                      wake := false, answerTimer := none, gapTimer := none, assertions := 0, dozeTimer := none } ∧
          (t.faultEntry .wakeUnanswered).active = false) ∧
        (s.sleep.host = .sleeping → s.sleep.power = .active ∨ s.nothingDraws →
          t.answered n .ok 0 ∧ t.resultWord n 0 = s.sleep.wakeReasons.toNat ∧ t.sleep.power = .active ∧
          t.sleep.wake = false ∧ t.sleep.answerTimer = none ∧ t.sleep.gapTimer = none ∧ t.sleep.assertions = 0 ∧
          t.sleep.dozeTimer = none ∧ t.sleep.idle = s.idleRestarted.1 ∧
          (t.faultEntry .wakeUnanswered).active = false ∧
          (s.posture.posture ≠ .closed → t.sleep.grace = s.sleep.grace ∧ t.sleep.advice = s.sleep.advice) ∧
          (s.posture.posture = .closed →
            (s.settings.active.lidCloseGrace ≠ 0 →
              t.sleep.grace = some (s.after s.settings.active.lidCloseGrace) ∧ t.sleep.advice = s.sleep.advice) ∧
            (s.settings.active.lidCloseGrace = 0 →
              t.sleep.grace = none ∧ t.sleep.advice = .lidClosed ∧
                t.port.attnLatch.getLsbD Cause.sleepAdvice.bit = true)))

/-! ## Events of the sensors and of the posture unit -/

/-- SAMPLE_PERIOD_EXPIRY (R42, R50, R51): a lid read begins with the length of the period that ended, the next period
starts with the length in force, and a changed length is offered to the base: sent at once where the transmitter is free,
listed where it is not. Part time reaches the expiry by log 4. -/
def Obligations.SamplePeriodExpiry : Prop :=
  ∀ (s : State) (e : PartTime), s.betweenEvents → s.sensor.timer = some e →
    let length := s.periodInForce
    ∃ t, exec .samplePeriodExpiry s = .next t ∧ t.now = (s.reach e).now ∧
      t.sensor = { s.sensor with
                   timer := some ((s.reach e).after length), period := length, read := .inFlight s.sensor.period } ∧
      t = { s with now := t.now, sensor := t.sensor, link := t.link } ∧
      (length = s.sensor.period ∨ (s.link.state ≠ .ready ∧ s.link.state ≠ .quiesced) → t.link = s.link) ∧
      (length ≠ s.sensor.period → s.link.state = .ready ∨ s.link.state = .quiesced →
        (s.link.sending = none → s.link.transmitList = [] →
          t.link = { s.link with sending := some (.rate length), lastPeriodSent := length }) ∧
          ∀ p, s.link.sending = some p →
            ((∀ q ∈ s.link.transmitList, ∀ n, q ≠ .rate n) →
              t.link = { s.link with transmitList := s.link.transmitList ++ [.rate length] }) ∧
              ∀ before n after, s.link.transmitList = before ++ .rate n :: after →
                (∀ q ∈ before ++ after, ∀ m, q ≠ .rate m) →
                t.link = { s.link with transmitList := before ++ .rate length :: after })

/-- LID_READ_COMPLETION (R43 to R47, R52, R55 to R59, R83, R84): the read is over, the set is assembled and counted, the
runs of good and failed reads and LID_SENSOR follow the judgement; the set goes through the angle unit, whose values and
the set's make the Sample record of a part in ACTIVE, and to the posture unit. Without a read in flight nothing completes
(log 4). -/
def Obligations.LidReadCompletion : Prop :=
  ∀ (s : State) (status : Byte) (x y z : Half), s.betweenEvents →
    (s.sensor.read = .idle → exec (.lidReadCompletion status x y z) s = .next s) ∧
      (s.sensor.read = .discarding →
        exec (.lidReadCompletion status x y z) s = .next { s with sensor := { s.sensor with read := .idle } }) ∧
      ∀ period, s.sensor.read = .inFlight period → s.dispatch.queue = [] → s.sensor.goodRun ≤ 10 → s.sensor.failRun ≤ 3 →
        let good : Bool := status.toNat / 16 = 9 ∧ status.getLsbD 0 = true
        let goodRun := if good then min 10 (s.sensor.goodRun + 1) else 0
        let failRun := if good then 0 else min 3 (s.sensor.failRun + 1)
        let judged : State :=
          State.judgeRead s good
        let active : Bool :=
          if goodRun = 10 then false else if failRun = 3 then true else (s.faultEntry .lidSensor).active
        let lid (w : Half) : Int := if good then max (-32767) w.toInt else 0
        let held := s.sensor.holding.filter fun h => decide ((s.now - h.arrival).toNat ≤ 2 * period)
        let base (f : BaseReading → Int) : Int := (held.map f).getD 0
        let set : SampleSet :=
          { seq := s.sensor.seq, time := s.now, lidGood := good, lidSensor := active, lidX := lid x, lidY := lid y
            lidZ := lid z, fresh := held.isSome, baseX := base (·.x), baseY := base (·.y), baseZ := base (·.z)
            saturated := decide (∃ w ∈ [lid x, lid y, lid z, base (·.x), base (·.y), base (·.z)], w.natAbs = 32767)
            lidClosed := s.sensor.lidClosed.level, foldBack := s.sensor.foldBack.level, period := period }
        let v := (State.angleSet judged set).1
        let r := (State.angleSet judged set).2
        let q := s.journalOf sampleJournal
        ∃ t, exec (.lidReadCompletion status x y z) s = .next t ∧ t.sensor.read = .idle ∧
          t.sensor.seq = s.sensor.seq + 1 ∧ t.sensor.goodRun = goodRun ∧ t.sensor.failRun = failRun ∧
          (t.faultEntry .lidSensor).active = active ∧
          t.angle.side = v.angle.side ∧ t.angle.accumulator = v.angle.accumulator ∧ t.angle.reported = v.angle.reported ∧
          t.posture.lastAngle = v.angle.reported ∧ t.posture.lastQuality = v.angle.quality ∧
          t.posture.basePose =
            (if set.fresh = false then .unknown else if 3547 ≤ set.baseZ.natAbs then .flat
             else if set.baseZ.natAbs ≤ 2048 then .upright else s.posture.basePose) ∧
          (s.noInputWaits → AttachFollowsDetect s →
            t.angle.quality = v.angle.quality ∧ t.angle.hasValue = v.angle.hasValue ∧
              t.angle.holdCount = v.angle.holdCount ∧ t.sensor.holding = (if set.fresh then s.sensor.holding else none)) ∧
          (s.sleep.power = .active → 1 ≤ s.room sampleJournal →
            (MemoryCanonical s → t.sampleAt q.writeCount set r v.angle.quality v.angle.reported) ∧
              t.journalOf sampleJournal =
                { q with writeCount := q.writeCount + 1, full := s.used sampleJournal + 1 == 128 } ∧
              (s.settings.active.sampleWatermark ≤ s.used sampleJournal + 1 →
                t.port.attnLatch.getLsbD Cause.sample.bit = true)) ∧
          (s.sleep.power = .active → s.room sampleJournal = 0 →
            t.journalOf sampleJournal = { q with drops := countUp q.drops }) ∧
          (s.sleep.power ≠ .active → t.journalOf sampleJournal = q)

/-- The five line changes (R48, R126, R146, R185; log 8): while the part is RUNNING a change away from the debounced level
starts the line's debounce, one back to it stops it; while BOOTING the level alone is taken. The debounce expiries of the
hall lines, PEN_IN and POWER_BUTTON (R48, R146, R147, R157, R185): the debounced level takes the line's level, and a pen
session begins or ends with it, a removal with the pen's faults inactive and its entry of the table brought up to date.
With the host SLEEPING and nothing drawn, LID_CLOSED going inactive, a pen insert or removal and a press are the wake events
LID_OPEN, PEN_INSERTED, PEN_REMOVED and POWER_BUTTON (R182, R183), and nothing wakes otherwise. Part time reaches the expiry
by log 4. -/
def Obligations.DebouncedLines : Prop :=
  (∀ (s : State) (level : Bool), s.betweenEvents →
    let after (d : DebouncedLine) (ms : Nat) : DebouncedLine :=
      if s.port.phase = .running then
        (if d.line = level then d
         else { line := level, level := d.level, timer := if level = d.level then none else some (s.after ms) })
      else { line := level, level := d.level, timer := d.timer }
    exec (.hallLineChange .lidClosed level) s =
        .next { s with sensor := { s.sensor with lidClosed := after s.sensor.lidClosed 20 } } ∧
      exec (.hallLineChange .foldBack level) s =
        .next { s with sensor := { s.sensor with foldBack := after s.sensor.foldBack 20 } } ∧
      exec (.detectLineChange level) s = .next { s with attach := { s.attach with detect := after s.attach.detect 50 } } ∧
      exec (.penInLineChange level) s = .next { s with pen := { s.pen with penIn := after s.pen.penIn 100 } } ∧
      exec (.powerButtonLineChange level) s = .next { s with sleep := { s.sleep with button := after s.sleep.button 30 } }) ∧
    (∀ (s : State) (e : PartTime), s.betweenEvents → s.dispatch.queue = [] →
        (s.sensor.lidClosed.timer = some e →
          ∃ t, exec (.hallDebounceExpiry .lidClosed) s = .next t ∧ t.now = (s.reach e).now ∧
            t.sensor.lidClosed = { line := s.sensor.lidClosed.line, level := s.sensor.lidClosed.line, timer := none } ∧
            (s.hostOn = true ∨ s.sensor.lidClosed.line = true ∨ s.sensor.lidClosed.level = false →
              t = { s with now := t.now, sensor := { s.sensor with lidClosed := t.sensor.lidClosed } }) ∧
            (s.hostOn = false → s.nothingDraws → s.sensor.lidClosed.line = false → s.sensor.lidClosed.level = true →
              t.sleep = s.wokenBy .lidOpen t.now)) ∧
          (s.sensor.foldBack.timer = some e →
            exec (.hallDebounceExpiry .foldBack) s = .next
              { s with
                now := (s.reach e).now
                sensor := { s.sensor with
                            foldBack :=
                              { line := s.sensor.foldBack.line, level := s.sensor.foldBack.line, timer := none } } }) ∧
          (s.pen.penIn.timer = some e →
            ∃ t, exec .penInDebounceExpiry s = .next t ∧ t.now = (s.reach e).now ∧
              t.pen.penIn = { line := s.pen.penIn.line, level := s.pen.penIn.line, timer := none } ∧
              t.pen.identity = 0 ∧ t.pen.soc = 0 ∧ t.pen.temperature = 0 ∧ t.pen.retries = 0 ∧ t.allot.demand.pen = 0 ∧
              (s.pen.penIn.line = true →
                t.pen.state = .identifying ∧
                  t.pen.response = (if s.pen.response.isSome then s.pen.response else some ((s.reach e).after 20))) ∧
              (s.pen.penIn.line = false →
                t.pen.state = .absent ∧ t.pen.response = none ∧ t.pen.poll = none ∧ t.pen.coilPower = 0 ∧
                  (t.faultEntry .penUnresponsive).active = false ∧ (t.faultEntry .penBattery).active = false ∧
                  s.tableRefreshed s.pen.identity s.pen.soc t.now t.pen.table) ∧
              (s.hostOn = false → s.nothingDraws →
                t.sleep = s.wokenBy (if s.pen.penIn.line then .penInserted else .penRemoved) t.now)) ∧
          (s.sleep.button.timer = some e →
            ∃ t, exec .powerButtonDebounceExpiry s = .next t ∧ t.now = (s.reach e).now ∧
              t.sleep.button = { line := s.sleep.button.line, level := s.sleep.button.line, timer := none } ∧
              (s.hostOn = true → s.sleep.button.line = true → s.sleep.button.level = false →
                t.sleep.idle = (s.setNow t.now).idleRestarted.1 ∧ t.sleep.idleShown = (s.setNow t.now).idleRestarted.2 ∧
                  t.sleep.advice = (if s.sleep.advice = .idle then .none else s.sleep.advice)) ∧
              (s.sleep.button.line = false ∨ s.sleep.button.level = true →
                t = { s with now := t.now, sleep := { s.sleep with button := t.sleep.button } }) ∧
              (s.hostOn = false → s.nothingDraws → s.sleep.button.line = true → s.sleep.button.level = false →
                t.sleep = { s.wokenBy .powerButton t.now with button := t.sleep.button })))

/-- DETECT_DEBOUNCE_EXPIRY (R126, R109, R110, R165, R95), in either order of its two readers (log 10): a seating raises
BASE_BASIC and powers the link; a loss takes the base to DETACHED, its link to ABSENT and its grant away. A loss in a
release ends it with the base removed (R142): OK, EARLY_REMOVAL before the window. Part time reaches the expiry by log 4,
the coil time is counted by log 20. -/
def Obligations.DetectSettles : Prop :=
  ∀ (s : State) (e : PartTime), s.betweenEvents → s.dispatch.queue = [] → s.attach.detect.timer = some e →
    s.noInputWaits → s.coilAndBaseOnly → s.hostOn = true →
    (s.allot.demand.coil = 0 → s.attach.detect.line = true → s.attach.state = .detached → s.link.state = .absent →
      s.allot.demand.base = 0 → s.allot.grant = ⟨0, 0, 0, 0⟩ → s.allot.increases = noIncreases → s.allot.faultedOff = false →
      s.allot.lockout = false → s.sleep.withdrawal = false → 250 ≤ s.allot.budget →
      ∃ t, exec .detectDebounceExpiry s = .next t ∧ t.now = (s.reach e).now ∧
        t.attach.detect = { line := true, level := true, timer := none } ∧ t.attach.state = .seating ∧
        t.link.state = .powering ∧ t.link.timer = some (.powerUp, t.now + 20) ∧ t.allot.demand.base = 250 ∧
        t.allot.grant = ⟨0, 250, 0, 0⟩) ∧
      (s.allot.demand.coil = 0 → s.attach.state.inRelease = false → s.attach.detect.line = false →
        s.attach.state ≠ .detached →
        ∃ t, exec .detectDebounceExpiry s = .next t ∧ t.now = (s.reach e).now ∧
          t.attach.detect = { line := false, level := false, timer := none } ∧ t.attach.state = .detached ∧
          t.link.state = .absent ∧ t.posture.posture = .detached ∧ t.angle.quality = .unavailable ∧
          t.angle.calibration = none ∧ t.sensor.holding = none ∧ t.allot.faultedOff = false ∧ t.allot.lockout = false ∧
          (t.faultEntry .baseSupply).active = false ∧ t.allot.demand.base = 0 ∧
          (s.allot.demand.base = 250 → t.allot.grant.base = 0)) ∧
      (s.attach.state.inRelease = true → s.attach.detect.line = false →
        ∃ t, exec .detectDebounceExpiry s = .next t ∧ t.now = (s.reach e).now ∧
          t.attach = { s.attach with
                       detect := { line := false, level := false, timer := none }, state := .detached, phase := none
                       request := none, quiesceTimer := none, senseTimer := none, pulseTimer := none
                       windowTimer := none, coil := false
                       coilTime := s.attach.coilTime +
                         (if s.attach.coil then (t.now - s.attach.coilSince).toNat else 0) } ∧
          t.link.state = .absent ∧ t.posture.posture = .detached ∧ t.allot.demand = ⟨0, 0, 0, 0⟩ ∧
          ∀ n, MemoryCanonical s → SlotsConsistent s → s.attach.request = some n → s.servingSlot .base = some n →
            (s.slotState n = .taken false →
              t.answered n .ok (if s.attach.phase = some .window then 0 else 1) ∧
                t.resultWord n 0 = (word t.attach.coilTime).toNat ∧ t.resultWord n 1 = t.now.toNat) ∧
            (s.slotState n = .taken true → t.slotState n = .free) ∧ t.servingSlot .base = none)

/-- The three timers of the posture unit (R91, R94, R100, with R85, R92 and R102). Part time reaches the expiry by log 4;
UNKNOWN is committed for a base that is detached again too by log 34, an orientation in STANDBY too by log 36. -/
def Obligations.PostureTimers : Prop :=
  (∀ (s : State) (e : PartTime) (i : Nat) (b : Band), s.betweenEvents → s.dispatch.queue = [] → s.hostOn = true →
    s.noInputWaits → s.posture.dwell = some e → s.posture.candidate = some i → s.settings.table[i]? = some b →
    b.posture ≠ .detached → b.posture ≠ .unknown →
    ∃ t, exec .postureDwellExpiry s = .next t ∧ t.now = (s.reach e).now ∧ t.posture.posture = b.posture ∧
      t.posture.band = some i ∧ t.posture.candidate = none ∧ t.posture.dwell = none ∧
      t.link.keyboardFlag = b.keyboard ∧ t.link.touchpadFlag = b.touchpad ∧
      t.port.attnLatch.getLsbD Cause.posture.bit = true ∧
      (b.rotation = false → t.posture.oriented = .landscape) ∧
      (∀ o, b.rotation = true → s.posture.lock = some o → t.posture.oriented = o)) ∧
    (∀ (s : State) (e : PartTime), s.betweenEvents → s.dispatch.queue = [] → s.hostOn = true → s.noInputWaits →
      s.posture.unavailable = some e →
      ∃ t, exec .unavailableTimerExpiry s = .next t ∧ t.now = (s.reach e).now ∧ t.posture.posture = .unknown ∧
        t.posture.band = none ∧ t.posture.candidate = none ∧ t.posture.dwell = none ∧ t.posture.unavailable = none ∧
        t.link.keyboardFlag = true ∧ t.link.touchpadFlag = true ∧ t.posture.oriented = .landscape ∧
        t.port.attnLatch.getLsbD Cause.posture.bit = true) ∧
    ∀ (s : State) (e : PartTime), s.betweenEvents → s.posture.orientationDwell = some e →
      ∃ t, exec .orientationDwellExpiry s = .next t ∧ t.now = (s.reach e).now ∧
        t.posture = { s.posture with oriented := s.posture.orientationCandidate, orientationDwell := none } ∧
        (s.posture.orientationCandidate ≠ s.posture.oriented →
          t.port.attnLatch.getLsbD Cause.posture.bit = true) ∧
        t = { s with now := t.now, mem := t.mem, port := t.port, journal := t.journal, posture := t.posture
                     sleep := t.sleep }

/-! ## Events of the base link -/

/-- PACKET_ARRIVAL in READY and QUIESCED (R46, R105, R106, R112, R116, R119, R131, R133, R168): a BASE_SAMPLE fills the
holding register of a running sequencer and passes input that waits; BASE_STATUS, BUTTON and ACK come to the units they
are for; a good packet of any kind over a full queue is counted and lost; a receiver that is off or ignoring takes nothing
(log 13). A BUTTON that is refused is noticed with its cause and argument. An ACK of LIGHT is ignored while a LIGHT waits
whose level is not the level last sent (log 31). The coil time is counted by log 20. -/
def Obligations.PacketArrival : Prop :=
  (∀ (s : State) (x y z : Half), s.betweenEvents → (s.link.state = .ready ∨ s.link.state = .quiesced) →
    s.link.ignoring = false →
    let bytes : List Byte :=
      packet [0x46, x.setWidth 8, (x >>> 8).setWidth 8, y.setWidth 8, (y >>> 8).setWidth 8, z.setWidth 8,
              (z >>> 8).setWidth 8]
    let sensor : SensorUnit :=
      if s.sensor.timer.isSome then
        { s.sensor with
          holding := some { x := max (-32767) x.toInt, y := max (-32767) y.toInt, z := max (-32767) z.toInt
                            arrival := s.now } }
      else s.sensor
    (s.link.receiveQueue = [] → s.link.owed = [] →
      exec (.packetArrival bytes) s = .next { s with link := s.linkHeard, sensor := sensor }) ∧
      (s.room inputJournal = 0 → s.link.receiveQueue.length < 16 → (∀ r ∈ s.link.receiveQueue, r.packet.isInput = true) →
        ∃ t, exec (.packetArrival bytes) s = .next t ∧ t.sensor = sensor ∧
          t = { s with link := { s.linkHeard with hold := t.link.hold }, sensor := sensor })) ∧
    (∀ s : State, s.betweenEvents → s.linkListens →
      (∀ level : Byte,
        (level.toNat = s.link.lastLevelSent →
          exec (.packetArrival (packet [0x52, level, 0])) s = .next { s with link := s.linkHeard }) ∧
        (level.toNat ≠ s.link.lastLevelSent → s.link.capBacklight = true → s.link.sending = none →
          s.link.transmitList = [] →
          exec (.packetArrival (packet [0x52, level, 0])) s = .next
            { s with link :=
                { s.linkHeard with sending := some (.light s.allot.level), lastLevelSent := s.allot.level } })) ∧
        (∀ level faults : Byte, faults ≠ 0 → s.linkAlone →
          ∃ t, exec (.packetArrival (packet [0x52, level, faults])) s = .next t ∧ t.link.state = .faulted ∧
            t.link.holdOff = true ∧ (t.faultEntry .baseLink).active = true ∧ t.attach.state = .degraded ∧
            t.allot.faultedOff = true ∧ t.allot.demand.base = 0) ∧
        (s.link.capButton = false ∨ s.attach.state.inRelease = true →
          exec (.packetArrival (packet [0x60])) s = .next { s with link := s.linkHeard }) ∧
        (s.link.capButton = true → s.attach.state.inRelease = false → s.attach.state ≠ .attached →
          s.attach.state ≠ .degraded →
          ∃ t, exec (.packetArrival (packet [0x60])) s = .next t ∧
            let code := s.attach.state.code
            let u := State.offerNotice { s with link := s.linkHeard } .detachRefused 1 code code 0
            t = { u with port := t.port } ∧ PortUnit.sameButBoard u.port t.port) ∧
        (s.link.capButton = true → s.attach.state = .attached →
          let noticed (cause argument : Nat) : Prop :=
            ∃ t, exec (.packetArrival (packet [0x60])) s = .next t ∧
              let code := AttachState.attached.code
              let u := State.offerNotice { s with link := s.linkHeard } .detachRefused cause code code argument
              t = { u with port := t.port } ∧ PortUnit.sameButBoard u.port t.port
          let cool := s.attach.pulses.length < s.settings.active.pulseLimit
          (s.detachAllowed = false → noticed 2 0) ∧
            (s.detachAllowed = true → s.sleep.power ≠ .active → noticed 3 0) ∧
            (s.detachAllowed = true → s.sleep.power = .active → ¬ cool → s.attach.pulses ≠ [] →
              noticed 4 (s.attach.pulses.headD 0 + 60000 - s.now).toNat) ∧
            (s.detachAllowed = true → s.sleep.power = .active → cool → s.allot.budget < 1200 → noticed 5 0)) ∧
        (s.link.capButton = true → s.attach.state = .attached → s.detachAllowed = true → s.sleep.power = .active →
          s.attach.pulses.length < s.settings.active.pulseLimit → 1200 ≤ s.allot.budget → s.link.state = .ready →
          s.noInputWaits →
          ∃ t, exec (.packetArrival (packet [0x60])) s = .next t ∧
            t.attach = { s.attach with
                         state := .releasing, phase := some .quiescing, origin := .button, request := none
                         quiesceTimer := some (s.now + 100), coilTime := 0 } ∧
            t.link.state = .quiesced ∧ t.allot = s.allot) ∧
        (s.attach.phase = some .quiescing → s.attach.state = .releasing → s.allot.demand = ⟨0, 250, 0, 0⟩ →
          s.allot.grant = ⟨0, 250, 0, 0⟩ → s.allot.awaiting = [] → 1450 ≤ s.allot.budget →
          s.attach.pulses.length < s.settings.active.pulseLimit →
          ∃ t, exec (.packetArrival (packet [0x71, 0xC])) s = .next t ∧
            t.attach = { s.attach with
                         phase := some .pulse, quiesceTimer := none, coil := true, currentSeen := false, coilSince := t.now
                         pulses := s.attach.pulses ++ [t.now], senseTimer := some (t.now + 20)
                         pulseTimer := some (t.now + BitVec.ofNat 32 s.settings.active.pulseTime) }) ∧
        (s.attach.phase ≠ some .quiescing →
          exec (.packetArrival (packet [0x71, 0xC])) s = .next { s with link := s.linkHeard }) ∧
        (s.allot.awaiting = [] ∨ (∃ level, .light level ∈ s.link.transmitList ∧ level ≠ s.link.lastLevelSent) →
          exec (.packetArrival (packet [0x71, 0xB])) s = .next { s with link := s.linkHeard }) ∧
        ∀ d, s.allot.awaiting = [⟨.backlight, d⟩] →
          (∀ level, .light level ∈ s.link.transmitList → level = s.link.lastLevelSent) →
          s.allot.demand.coil = 0 → s.attach.state.inRelease = false → s.noInputWaits →
          ∃ t, exec (.packetArrival (packet [0x71, 0xB])) s = .next t ∧ t.allot.awaiting = [] ∧
            t.allot.grant = raised s.allot.grant s.allot.increases ∧ t.allot.increases = noIncreases) ∧
    (∀ (s : State) (bytes : List Byte) (p : BasePacket), parsePacket bytes = some p → s.betweenEvents →
      (s.link.state = .ready ∨ s.link.state = .quiesced) → s.link.ignoring = false →
      s.link.receiveQueue.length = 16 → s.room inputJournal = 0 →
      (∀ r ∈ s.link.receiveQueue, r.packet.isInput = true) →
      ∃ t, exec (.packetArrival bytes) s = .next t ∧
        t = { s with port := t.port
                     link := { s.link with timer := some (.supervision, s.after 300)
                                           overruns := countUp s.link.overruns } } ∧
        t.port = { s.port with updateCount := s.port.updateCount + 2, boardTime := s.now }) ∧
    ∀ (s : State) (bytes : List Byte), s.betweenEvents → s.link.state.receiving = false ∨ s.link.ignoring = true →
      exec (.packetArrival bytes) s = .next s

/-- The greeting (R106, R111, R112, R145): HELLO records the capabilities, states the backlight claim and is answered with
WELCOME (in that order, log 15); the ACK of WELCOME makes the link READY and the base ATTACHED; another version is FAULTED;
anything else is discarded; a HELLO in READY is greeted afresh. -/
def Obligations.BaseGreeting : Prop :=
  ∀ s : State, s.betweenEvents → s.link.ignoring = false → s.link.receiveQueue = [] → s.link.owed = [] →
    (∀ baseClass flags : Byte, s.link.state = .greeting →
      let claim := if flags.getLsbD 1 then 150 * s.attach.wish else 0
      let heard : LinkUnit :=
        { s.link with capBacklight := flags.getLsbD 1, capButton := flags.getLsbD 3, stage := .awaitAck, hold := false }
      (s.allot.demand.backlight = claim → s.link.sending = none → s.link.transmitList = [] →
        exec (.packetArrival (packet [0x13, 1, baseClass, flags])) s = .next
          { s with link := { heard with
                             sending := some (.welcome s.sensor.period s.allot.level)
                             lastPeriodSent := s.sensor.period, lastLevelSent := s.allot.level } }) ∧
        (s.allot.demand.backlight = claim → ∀ p, s.link.sending = some p →
          ∃ t, exec (.packetArrival (packet [0x13, 1, baseClass, flags])) s = .next t ∧
            t = { s with link := { heard with
                                   transmitList := s.link.transmitList.filter (fun q => !q.sameKind (.welcome 0 0)) ++
                                     [.welcome s.sensor.period s.allot.level] } }) ∧
        (s.noInputWaits → s.dispatch.queue = [] → s.allot.demand = ⟨0, s.allot.demand.base, 0, s.allot.demand.backlight⟩ →
          s.allot.grant = ⟨0, 250, 0, 0⟩ → s.allot.demand.base = 250 → s.allot.awaiting = [] → s.attach.phase = none →
          s.allot.level = 0 → s.hostOn = true → s.link.sending = none → s.link.transmitList = [] → 250 ≤ s.allot.budget →
          s.allot.demand.backlight ≠ claim →
          ∃ t, exec (.packetArrival (packet [0x13, 1, baseClass, flags])) s = .next t ∧
            t.allot.demand.backlight = claim ∧ t.allot.level = min claim (s.allot.budget - 250) / 150 ∧
            t.link.sending = some (.welcome s.sensor.period t.allot.level))) ∧
      (∀ version baseClass flags : Byte, version ≠ 1 → s.linkAlone →
        s.link.state = .greeting ∨ s.link.state = .ready ∨ s.link.state = .quiesced →
        ∃ t, exec (.packetArrival (packet [0x13, version, baseClass, flags])) s = .next t ∧ t.link.state = .faulted ∧
          t.link.holdOff = true ∧ (t.faultEntry .baseLink).active = true ∧ t.attach.state = .degraded ∧
          t.allot.faultedOff = true ∧ t.allot.demand.base = 0) ∧
      (s.link.state = .greeting → s.link.stage = .awaitAck → s.linkAlone → s.attach.state = .seating →
        s.sensor.period = s.link.lastPeriodSent → s.allot.level = s.link.lastLevelSent → s.link.transmitList = [] →
        ∃ t, exec (.packetArrival (packet [0x71, 9])) s = .next t ∧
          t.link = { s.link with
                     state := .ready, recoveries := 0, timer := some (.supervision, s.now + 300), hold := false } ∧
          t.attach = { s.attach with state := .attached } ∧ t.allot = s.allot ∧
          t.port.attnLatch.getLsbD Cause.attach.bit = true) ∧
      (s.link.state = .greeting →
        let discarded (body : List Byte) : Prop :=
          exec (.packetArrival (packet body)) s = .next { s with link := { s.link with hold := false } }
        (s.link.stage = .awaitHello → discarded [0x71, 9]) ∧ (∀ kind : Byte, kind ≠ 9 → discarded [0x71, kind]) ∧
          (∀ code : Byte, code ≠ 0 → code ≠ 255 → discarded [0x22, code, 1] ∧ discarded [0x22, code, 0]) ∧
          (∀ dx dy buttons : Byte, discarded [0x33, dx, dy, buttons]) ∧
          (∀ a b c d e f : Byte, discarded [0x46, a, b, c, d, e, f]) ∧
          (∀ level faults : Byte, discarded [0x52, level, faults]) ∧ discarded [0x60]) ∧
      ∀ baseClass flags : Byte, s.link.state = .ready → s.linkAlone → s.allot.demand.backlight = 0 → s.attach.wish = 0 →
        s.link.sending = none → s.link.transmitList = [] →
        ∃ t, exec (.packetArrival (packet [0x13, 1, baseClass, flags])) s = .next t ∧
          t.link = { s.link with
                     state := .greeting, stage := .awaitAck, retries := 0, timer := some (.greeting, s.now + 200)
                     capBacklight := flags.getLsbD 1, capButton := flags.getLsbD 3, hold := false
                     pressed := t.link.pressed, buttons := t.link.buttons, owed := t.link.owed
                     sending := some (.welcome s.sensor.period s.allot.level)
                     lastPeriodSent := s.sensor.period, lastLevelSent := s.allot.level } ∧
          t.attach.state = .seating

/-- The input gate (R118, R120 to R124): a press, a release or a pointer movement that the gate lets pass is a record and
activity; one it refuses is not, and a refused press is counted; without room input waits; a half that closes owes the
releases of what it delivered, and these are written, oldest first, as the Input Journal gets room. A POINTER's buttons
are the low three bits (log 13). -/
def Obligations.InputGate : Prop :=
  (∀ s : State, s.sound → s.linkListens → 1 ≤ s.room inputJournal →
    let W := (s.journalOf inputJournal).writeCount
    let delivered (body : List Byte) (kind : InputKind) (code dx dy : Byte) (link : LinkUnit) : Prop :=
      ∃ t, exec (.packetArrival (packet body)) s = .next t ∧ t.link = link ∧ t.inputAt W kind code dx dy s.now ∧
        (t.journalOf inputJournal).writeCount = W + 1 ∧ t.journal.quiet = some (s.after 20) ∧
        t.sleep.idle = s.idleRestarted.1 ∧ t.sleep.idleShown = s.idleRestarted.2
    let refused (body : List Byte) : Prop := exec (.packetArrival (packet body)) s = .next { s with link := s.linkHeard }
    let dropped : State := { s with link := { s.linkHeard with keyDropped := countUp s.link.keyDropped } }
    (∀ code : Byte, code ≠ 0 → code ≠ 255 →
      (s.keyboardOpen = true → s.link.pressed.length < 16 →
        delivered [0x22, code, 1] .keyPress code 0 0
          { s.linkHeard with
            pressed := if code ∈ s.link.pressed then s.link.pressed else s.link.pressed ++ [code] }) ∧
      (s.keyboardOpen = false →
        ∃ t, exec (.packetArrival (packet [0x22, code, 1])) s = .next t ∧ t = { dropped with port := t.port } ∧
          PortUnit.sameButBoard s.port t.port) ∧
      (s.keyboardOpen = true → 16 ≤ s.link.pressed.length →
        ∃ t, exec (.packetArrival (packet [0x22, code, 1])) s = .next t ∧
          let u := dropped.offerNotice .link 11 s.link.state.code s.link.state.code 0
          t = { u with port := t.port } ∧ PortUnit.sameButBoard u.port t.port) ∧
      (code ∈ s.link.pressed →
        delivered [0x22, code, 0] .keyRelease code 0 0 { s.linkHeard with pressed := s.link.pressed.filter (· ≠ code) }) ∧
      (code ∉ s.link.pressed → refused [0x22, code, 0])) ∧
      ∀ dx dy buttons : Byte,
        (s.pointerOpen = true →
          delivered [0x33, dx, dy, buttons] .pointer (buttons &&& 7) dx dy
            { s.linkHeard with buttons := buttons.setWidth 3 }) ∧
        (s.pointerOpen = false → refused [0x33, dx, dy, buttons])) ∧
    (∀ s : State, s.betweenEvents → s.linkListens → s.room inputJournal = 0 →
      let waits (body : List Byte) (p : BasePacket) : Prop :=
        exec (.packetArrival (packet body)) s = .next
          { s with link := { s.linkHeard with receiveQueue := [{ packet := p, arrival := s.now }] } }
      (∀ code : Byte, code ≠ 0 → code ≠ 255 →
        waits [0x22, code, 1] (.key code true) ∧ waits [0x22, code, 0] (.key code false)) ∧
        ∀ dx dy buttons : Byte, waits [0x33, dx, dy, buttons] (.pointer dx dy (buttons.setWidth 3))) ∧
    (∀ (s : State) (data : Word), s.sound → s.port.hrst = false → s.link.receiveQueue = [] →
      let q := s.journalOf inputJournal
      let used := (q.writeCount - data.setWidth 16).toNat
      let k := min s.link.owed.length (256 - used)
      used ≤ 256 → s.room inputJournal < 256 - used →
      ∃ t, exec (.readCountWrite inputJournal data) s = .next t ∧
        t.link = { s.link with owed := s.link.owed.drop k } ∧
        (t.journalOf inputJournal).writeCount = q.writeCount + BitVec.ofNat 16 k ∧
        ∀ i, i < k →
          (∀ code, s.link.owed[i]? = some (.key code) →
            t.inputAt (q.writeCount + BitVec.ofNat 16 i) .synthRelease code 0 0 s.now) ∧
            (s.link.owed[i]? = some .pointer →
              t.inputAt (q.writeCount + BitVec.ofNat 16 i) .synthPointer 0 0 0 s.now)) ∧
    ∀ s : State,
      let closed (keyboard pointer : Bool) : LinkUnit :=
        { s.link with
          owed := s.link.owed ++ (if keyboard then s.link.pressed.map .key else []) ++
            (if pointer = true ∧ s.link.buttons ≠ 0 then [.pointer] else [])
          pressed := if keyboard then [] else s.link.pressed
          buttons := if pointer then 0 else s.link.buttons }
      s.followGate.link = closed (!s.keyboardOpen) (!s.pointerOpen) ∧ s.closeGate.link = closed true true

/-- PACKET_DISCARD (R106, R113), RXB_REST_TWO_BYTE_TIMES (R105) and TRANSMIT_COMPLETE (R107): the fifth discard within
1000 ms takes the link to LOST with cause ERRORS, or to FAULTED with cause RECOVERY after three recoveries, stated for a
link alone; bytes that spell no good packet are a discard. That the LINK notice stands first of its event's notices, before
those of the attachment and the fault, is the model's choice (log 1). Log 13 and log 15 say what the receiver ignores and
which entry is sent, and a WELCOME takes P at its sending (R51). -/
def Obligations.ReceiverAndTransmitter : Prop :=
  ∀ s : State, s.betweenEvents →
    (∀ r : DiscardReason,
      let times := s.link.discards.filter (fun t => decide ((s.now - t).toNat ≤ 1000)) ++ [s.now]
      (s.link.state.receiving = true → s.link.ignoring = false → times.length < 5 →
        exec (.packetDiscard r) s = .next
          { s with link := { s.link with
                             discards := times, ignoring := decide (r = .byteError ∨ r = .overlongHeader) } }) ∧
        (s.link.state.receiving = true → s.link.ignoring = false → 5 ≤ times.length → s.linkAlone →
          let W := (s.journalOf noticeJournal).writeCount
          ∃ t, exec (.packetDiscard r) s = .next t ∧ t.link.holdOff = true ∧ t.link.discards = [] ∧
            t.link.transmitList = [] ∧
            (s.link.recoveries < 3 →
              t.link.state = .lost ∧ t.link.timer = some (.recovery, s.now + 50) ∧
              t.link.recoveries = s.link.recoveries + 1 ∧ t.attach.state = .seating ∧
              (MemoryCanonical s → s.journal.gap = 0 → 1 ≤ s.room noticeJournal →
                t.noticeAt W s.now .link 4 s.link.state.code LinkState.lost.code 0)) ∧
            (3 ≤ s.link.recoveries →
              t.link.state = .faulted ∧ t.link.timer = none ∧ (t.faultEntry .baseLink).active = true ∧
              t.attach.state = .degraded ∧ t.allot.faultedOff = true ∧ t.allot.demand.base = 0 ∧
              (MemoryCanonical s → s.journal.gap = 0 → 1 ≤ s.room noticeJournal →
                t.noticeAt W s.now .link 7 s.link.state.code LinkState.faulted.code 0))) ∧
        (s.link.state.receiving = false ∨ s.link.ignoring = true → exec (.packetDiscard r) s = .next s)) ∧
      (∀ bytes : List Byte, parsePacket bytes = none →
        exec (.packetArrival bytes) s = exec (.packetDiscard (discardReason bytes)) s) ∧
      exec .rxbRestTwoByteTimes s = .next { s with link := { s.link with ignoring := false } } ∧
      (s.link.sending = none → exec .transmitComplete s = .next s) ∧
      ∀ p, s.link.sending = some p →
        (s.link.transmitList = [] →
          exec .transmitComplete s = .next { s with link := { s.link with sending := none } }) ∧
        ∀ q rest, s.link.transmitList = q :: rest → s.link.state.allows q = true →
          ∃ t, exec .transmitComplete s = .next t ∧ t = { s with link := t.link } ∧
            t.link.sending = some (q.atSending s.sensor.period) ∧
            t.link.transmitList = rest.filter (fun x => !x.sameKind q)

/-- The four timers of the link (R110 to R115, with R108): GREETING after power-up, the greeting's retries and its failure,
LOST at the end of supervision, and the way up after the recovery pause. Part time reaches the expiry by log 4. -/
def Obligations.LinkTimers : Prop :=
  (∀ (s : State) (e : PartTime), s.betweenEvents → s.linkTimer .powerUp = some e → s.link.receiveQueue = [] →
    s.link.owed = [] → s.link.transmitList = [] → s.attach.state = .seating → s.attach.detect.level = true →
    ∃ t, exec .powerUpTimerExpiry s = .next t ∧ t.now = (s.reach e).now ∧
      t.link = { s.link with
                 state := .greeting, stage := .awaitHello, retries := 0, timer := some (.greeting, t.now + 200) } ∧
      t = { s with now := t.now, mem := t.mem, port := t.port, journal := t.journal, link := t.link }) ∧
    (∀ (s : State) (e : PartTime), s.betweenEvents → s.linkTimer .greeting = some e → s.link.retries < 3 →
      (s.link.stage = .awaitHello →
        exec .greetingTimerExpiry s = .next
          { s with
            now := (s.reach e).now
            link := { s.link with
                      retries := s.link.retries + 1, timer := some (.greeting, (s.reach e).now + 200) } }) ∧
        (s.link.stage = .awaitAck → s.link.state = .greeting → s.link.sending = none → s.link.transmitList = [] →
          exec .greetingTimerExpiry s = .next
            { s with
              now := (s.reach e).now
              link := { s.link with
                        retries := s.link.retries + 1, timer := some (.greeting, (s.reach e).now + 200)
                        sending := some (.welcome s.sensor.period s.allot.level)
                        lastPeriodSent := s.sensor.period, lastLevelSent := s.allot.level } })) ∧
    ∀ (s : State) (e : PartTime), s.betweenEvents → s.linkAlone →
      (s.linkTimer .greeting = some e → 3 ≤ s.link.retries →
        ∃ t, exec .greetingTimerExpiry s = .next t ∧ t.now = (s.reach e).now ∧ t.link.state = .faulted ∧
          t.link.holdOff = true ∧ t.link.timer = none ∧ (t.faultEntry .baseLink).active = true ∧
          t.attach.state = .degraded ∧ t.allot.faultedOff = true ∧ t.allot.demand.base = 0) ∧
        (s.linkTimer .supervision = some e → s.link.recoveries < 3 →
          ∃ t, exec .supervisionTimerExpiry s = .next t ∧ t.now = (s.reach e).now ∧ t.link.state = .lost ∧
            t.link.holdOff = true ∧ t.link.timer = some (.recovery, t.now + 50) ∧
            t.link.recoveries = s.link.recoveries + 1 ∧ t.link.transmitList = [] ∧ t.link.discards = [] ∧
            t.attach.state = .seating) ∧
        (s.linkTimer .recovery = some e →
          ∃ t, exec .recoveryTimerExpiry s = .next t ∧ t.now = (s.reach e).now ∧ t.link.holdOff = false ∧
            (0 < s.allot.grant.base →
              t.link.state = .powering ∧ t.link.timer = some (.powerUp, t.now + 20) ∧ t.attach.state = .seating) ∧
            (s.allot.grant.base = 0 →
              t.link.state = .unpowered ∧ t.link.timer = none ∧ t.attach.state = .degraded))

/-! ## Events of the attachment unit -/

/-- The timers of a release (R133 to R140): the quiesce timer's expiry claims the coil and, with the power granted, drives
it; the pulse ends in the removal window; the window's expiry ends the release FAILED, NOT_REMOVED. Part time reaches the
expiry by log 4, and the coil time is counted by log 20. -/
def Obligations.ReleaseTimers : Prop :=
  (∀ (s : State) (e : PartTime), s.betweenEvents → s.attach.quiesceTimer = some e → s.attach.phase = some .quiescing →
    s.attach.state = .releasing → s.allot.demand = ⟨0, 250, 0, 0⟩ → s.allot.grant = ⟨0, 250, 0, 0⟩ →
    s.allot.awaiting = [] → 1450 ≤ s.allot.budget → s.attach.pulses.length < s.settings.active.pulseLimit →
    ∃ t, exec .quiesceTimerExpiry s = .next t ∧ t.now = (s.reach e).now ∧
      t.attach = { s.attach with
                   phase := some .pulse, quiesceTimer := none, coil := true, currentSeen := false, coilSince := t.now
                   pulses := s.attach.pulses ++ [t.now], senseTimer := some (t.now + 20)
                   pulseTimer := some (t.now + BitVec.ofNat 32 s.settings.active.pulseTime) } ∧
      t.allot = { s.allot with demand := ⟨1200, 250, 0, 0⟩, grant := ⟨1200, 250, 0, 0⟩, increases := noIncreases } ∧
      t = { s with now := t.now, port := t.port, attach := t.attach, allot := t.allot }) ∧
    (∀ (s : State) (e : PartTime), s.betweenEvents → s.attach.pulseTimer = some e → s.attach.phase = some .pulse →
      s.attach.state = .releasing → s.attach.coil = true → s.noInputWaits → s.dispatch.queue = [] →
      s.allot.demand = ⟨1200, 250, 0, 0⟩ → s.allot.grant = ⟨1200, 250, 0, 0⟩ → s.allot.awaiting = [] →
      1450 ≤ s.allot.budget →
      ∃ t, exec .pulseTimerExpiry s = .next t ∧ t.now = (s.reach e).now ∧
        t.attach = { s.attach with
                     state := .awaitingRemoval, phase := some .window, coil := false, pulseTimer := none
                     senseTimer := none
                     coilTime := s.attach.coilTime + (t.now - s.attach.coilSince).toNat
                     windowTimer := some (t.now + BitVec.ofNat 32 s.settings.active.removalWindow) } ∧
        t.allot = { s.allot with demand := ⟨0, 250, 0, 0⟩, grant := ⟨0, 250, 0, 0⟩, increases := noIncreases } ∧
        t.port.attnLatch.getLsbD Cause.attach.bit = true) ∧
    ∀ (s : State) (e : PartTime) (n : Fin 32), s.sound → s.attach.windowTimer = some e → s.attach.phase = some .window →
      s.attach.state = .awaitingRemoval → s.attach.coil = false → s.attach.request = some n →
      s.servingSlot .base = some n → s.slotState n = .taken false → s.noInputWaits → s.dispatch.queue = [] →
      s.allot.demand.coil = 0 → s.attach.detect.level = true → s.link.state = .quiesced →
      ∃ t, exec .windowTimerExpiry s = .next t ∧ t.now = (s.reach e).now ∧
        t.attach = { s.attach with
                     state := .attached, phase := none, request := none, quiesceTimer := none, senseTimer := none
                     pulseTimer := none, windowTimer := none } ∧
        t.link.state = .ready ∧ t.answered n .failed 2 ∧ t.resultWord n 0 = (word s.attach.coilTime).toNat ∧
        t.resultWord n 1 = 0 ∧ t.servingSlot .base = none ∧ t.allot = s.allot

/-- COIL_CURRENT_SEEN, SENSE_TIMER_EXPIRY and PULSE_AGE_OUT (R136, R138, R139). Current with the coil off or seen before is
nothing, and part time reaches the expiry, by log 4; the coil time is counted by log 20. -/
def Obligations.CoilSense : Prop :=
  ∀ s : State, s.betweenEvents →
    (s.attach.coil = true → s.attach.currentSeen = false → (s.faultEntry .latchCoil).active = false →
      exec .coilCurrentSeen s = .next
        { s with attach := { s.attach with currentSeen := true, senseTimer := none } }) ∧
      (s.attach.coil = true → s.attach.currentSeen = false →
        ∃ t, exec .coilCurrentSeen s = .next t ∧ (t.faultEntry .latchCoil).active = false) ∧
      (s.attach.coil = false ∨ s.attach.currentSeen = true → exec .coilCurrentSeen s = .next s) ∧
      (∀ e, s.attach.senseTimer = some e → s.attach.currentSeen = true →
        exec .senseTimerExpiry s = .next
          { s with now := (s.reach e).now, attach := { s.attach with senseTimer := none } }) ∧
      (∀ e, s.attach.senseTimer = some e → s.attach.currentSeen = false → s.attach.phase = some .pulse →
        s.attach.state = .releasing → s.attach.coil = true → s.noInputWaits →
        s.dispatch.queue = [] → s.allot.demand = ⟨1200, 250, 0, 0⟩ → s.allot.grant = ⟨1200, 250, 0, 0⟩ →
        s.allot.awaiting = [] → 1450 ≤ s.allot.budget → s.attach.detect.level = true → s.link.state = .quiesced →
        ∃ t, exec .senseTimerExpiry s = .next t ∧ t.now = (s.reach e).now ∧
          t.attach = { s.attach with
                       state := .attached, phase := none, request := none, coil := false, quiesceTimer := none
                       senseTimer := none, pulseTimer := none, windowTimer := none
                       coilTime := s.attach.coilTime + (t.now - s.attach.coilSince).toNat } ∧
          (t.faultEntry .latchCoil).active = true ∧ t.link.state = .ready ∧
          t.allot = { s.allot with demand := ⟨0, 250, 0, 0⟩, grant := ⟨0, 250, 0, 0⟩, increases := noIncreases } ∧
          ∀ n, MemoryCanonical s → s.attach.request = some n → s.servingSlot .base = some n →
            (s.slotState n = .taken false →
              t.answered n .failed 1 ∧ t.resultWord n 0 = (word t.attach.coilTime).toNat ∧ t.resultWord n 1 = 0) ∧
            (s.slotState n = .taken true → t.slotState n = .free) ∧ t.servingSlot .base = none) ∧
      ∀ oldest rest, s.attach.pulses = oldest :: rest →
        exec .pulseAgeOut s = .next
          { s with now := (s.reach (oldest + 60000)).now, attach := { s.attach with pulses := rest } }

/-! ## Events of the pen unit -/

/-- REPORT and the timers of the exchange (R148 to R154): one that nothing awaits is discarded; a valid one is recorded
with its entry of the paired-pen table and decides the pen's state and demand; a failed exchange, by an invalid REPORT or
the expiry, is begun again, and the fourth failure in a row is FAULT with PEN_UNRESPONSIVE; a battery fault is FAULT with
PEN_BATTERY, and no other report of a pen's fault is made. Row 7
of R150 decides by the answer (log 18), the order of the other rows' hand-ons is log 1, and part time reaches the expiry by
log 4. -/
def Obligations.PenExchange : Prop :=
  ∀ s : State, s.betweenEvents → s.dispatch.queue = [] →
    let tooHot (t : Int) : Prop := if s.pen.state = .pausedTemp then t < 3 ∨ 42 < t else t < 0 ∨ 45 < t
    let tried : State := { s with pen := { s.pen with retries := s.pen.retries + 1, response := some (s.now + 20) } }
    let reported (t : State) (k : FaultKind) : Prop :=
      (t.faultEntry k).active = true ∧
        ((s.faultEntry k).active = true → t.faultEntry k = s.faultEntry k) ∧
        ((s.faultEntry k).active = false → (s.faultEntry k).count ≤ 255 →
          (t.faultEntry k).count = min 255 ((s.faultEntry k).count + 1) ∧
            t.port.attnLatch.getLsbD Cause.fault.bit = true)
    let unanswered (t : State) : Prop :=
      t.pen.state = .fault ∧ t.pen.response = none ∧ t.pen.retries = 0 ∧ t.pen.poll = none ∧ t.pen.coilPower = 0 ∧
        t.pen.identity = s.pen.identity ∧ t.pen.table = s.pen.table ∧ t.allot.demand.pen = 0 ∧
        reported t .penUnresponsive
    (∀ r : PenReport, s.pen.response = none → exec (.report r) s = .next s) ∧
      (∀ r : PenReport, s.pen.response ≠ none → reportValid r = true →
        ∃ t, exec (.report r) s = .next t ∧ t.pen.identity = r.identity ∧ t.pen.soc = r.soc.toNat ∧
          t.pen.temperature = r.temperature.toInt ∧ t.pen.response = none ∧ t.pen.retries = 0 ∧ t.pen.mode = s.pen.mode ∧
          s.tableRefreshed r.identity r.soc.toNat s.now t.pen.table ∧
          t.faultEntry .penUnresponsive = s.faultEntry .penUnresponsive ∧
          (r.flags.getLsbD 0 = false → t.faultEntry .penBattery = s.faultEntry .penBattery) ∧
          (r.flags.getLsbD 0 = true →
            t.pen.state = .fault ∧ t.pen.poll = none ∧ t.allot.demand.pen = 0 ∧ reported t .penBattery) ∧
          (r.flags.getLsbD 0 = false → s.pen.mode = .hold →
            t.pen.state = .held ∧ t.pen.poll = some (s.after 60000) ∧ t.allot.demand.pen = 0) ∧
          (r.flags.getLsbD 0 = false → s.pen.mode = .normal → tooHot r.temperature.toInt →
            t.pen.state = .pausedTemp ∧ t.pen.poll = some (s.after 1000) ∧ t.allot.demand.pen = 0) ∧
          (r.flags.getLsbD 0 = false → s.pen.mode = .normal → ¬ tooHot r.temperature.toInt →
            (r.flags.getLsbD 1 = false ∨ s.settings.active.penTarget ≤ r.soc.toNat ∨
              s.pen.state = .topped ∧ s.settings.active.penTopUp < r.soc.toNat) →
            t.pen.state = .topped ∧ t.pen.poll = some (s.after 60000) ∧ t.allot.demand.pen = 0) ∧
          (r.flags.getLsbD 0 = false → s.pen.mode = .normal → ¬ tooHot r.temperature.toInt →
            r.flags.getLsbD 1 = true → r.soc.toNat < s.settings.active.penTarget →
            ¬ (s.pen.state = .topped ∧ s.settings.active.penTopUp < r.soc.toNat) →
            t.pen.poll = some (s.after 1000) ∧ t.allot.demand.pen = s.demandRule r.soc.toNat r.identity ∧
              (s.allot.demand = ⟨0, 0, s.allot.demand.pen, 0⟩ → GrantsWithinTargets s → s.allot.awaiting = [] →
                s.attach.phase = none → s.allot.increases = noIncreases →
                t.allot.grant = targets s.allot.budget t.allot.demand ∧
                  t.pen.state = (if 150 ≤ t.allot.grant.pen then .charging else .deferred) ∧
                  t.pen.coilPower = t.allot.grant.pen))) ∧
      (∀ r : PenReport, s.pen.response ≠ none → reportValid r = false → s.pen.retries < 3 →
        exec (.report r) s = .next tried) ∧
      (∀ r : PenReport, s.pen.response ≠ none → reportValid r = false → 3 ≤ s.pen.retries →
        ∃ t, exec (.report r) s = .next t ∧ t.now = s.now ∧ unanswered t) ∧
      (∀ e, s.pen.response = some e →
        (s.pen.retries < 3 →
          exec .responseTimerExpiry s = .next
            { tried with
              now := (s.reach e).now
              pen := { tried.pen with response := some ((s.reach e).now + 20) } }) ∧
          (3 ≤ s.pen.retries →
            ∃ t, exec .responseTimerExpiry s = .next t ∧ t.now = (s.reach e).now ∧ unanswered t)) ∧
      ∀ e, s.pen.poll = some e →
        exec .pollTimerExpiry s = .next
          { s with
            now := (s.reach e).now
            pen := { s.pen with
                     poll := none
                     response := if s.pen.response.isSome then s.pen.response else some ((s.reach e).now + 20) } }

/-! ## Events of the allotment unit -/

/-- PEN_DECREASE_CONFIRM, AWAITING_DEADLINE_EXPIRY, VBASE_VOLTAGE_CHANGE and UNDER_VOLTAGE_TIMER_EXPIRY (R155, R167 to
R169, R171): the confirmation or the deadline that empties the awaiting list puts the pending increases in force, and
under-voltage locks the base out with BASE_SUPPLY. A control step with nothing lowered is none (log 18); part time reaches
the expiry by log 4. -/
def Obligations.AllotmentEvents : Prop :=
  ∀ s : State, s.betweenEvents → s.dispatch.queue = [] →
    (s.pen.confirmDue = false → exec .penDecreaseConfirm s = .next s) ∧
      (s.pen.confirmDue = true → (∀ a ∈ s.allot.awaiting, a.claimant ≠ .pen) →
        exec .penDecreaseConfirm s = .next { s with pen := { s.pen with confirmDue := false } }) ∧
      (∀ d, s.pen.confirmDue = true → s.allot.awaiting = [⟨.pen, d⟩] → s.allot.demand.coil = 0 → s.hostOn = true →
        s.noInputWaits → s.attach.state.inRelease = false →
        ∃ t, exec .penDecreaseConfirm s = .next t ∧ t.allot.awaiting = [] ∧
          t.allot.grant = raised s.allot.grant s.allot.increases ∧ t.allot.increases = noIncreases) ∧
      (∀ (c : Awaited) (d : PartTime), s.allot.awaiting = [⟨c, d⟩] → s.allot.demand.coil = 0 → s.hostOn = true →
        s.noInputWaits → s.attach.state.inRelease = false →
        ∃ t, exec (.awaitingDeadlineExpiry c) s = .next t ∧ t.now = (s.reach d).now ∧ t.allot.awaiting = [] ∧
          t.allot.grant = raised s.allot.grant s.allot.increases ∧ t.allot.increases = noIncreases) ∧
      (∀ below : Bool, exec (.vbaseVoltageChange below) s = .next
        { s with allot :=
          if s.allot.voltageLow = below then s.allot
          else
            { s.allot with
              voltageLow := below
              underVoltage :=
                if 0 < s.allot.grant.base ∧ s.link.holdOff = false then
                  (if below then some (s.after 10) else none)
                else s.allot.underVoltage } }) ∧
      ∀ e, s.allot.underVoltage = some e →
        ∃ t, exec .underVoltageTimerExpiry s = .next t ∧ t.now = (s.reach e).now ∧ t.allot.lockout = true ∧
          (t.faultEntry .baseSupply).active = true ∧ t.allot.demand.base = 0 ∧
          (s.allot.demand.base ≠ 0 → t.allot.grant.base = 0)

/-! ## Events of the sleep unit -/

/-- The timers of the sleep unit (R176 to R178, R184), each with its whole effect; a wake event of any source at the sleep
unit (R183), with the change to ACTIVE that it hands on; and DOZE_TO_STANDBY_EXPIRY (R180, R174,
with R50, R52, R53, R97 and R163), stated for nothing drawn: the lid sensor's supply is off, no period runs, the posture
timers stand still, and the budget is that of STANDBY. (Its clause outside DOZE is of states that R180 rules out.) Part
time reaches the expiry by log 4. -/
def Obligations.SleepTimers : Prop :=
  (∀ (s : State) (e : PartTime), s.betweenEvents →
    let now := (s.reach e).now
    let outside (t : State) : Prop :=
      t = { s with now := now, mem := t.mem, port := t.port, journal := t.journal, settings := t.settings
                   sleep := t.sleep } ∧ t.settings.active = s.settings.active
    (s.sleep.holdAwake = some e → ∃ t, exec .holdAwakeDeadlineExpiry s = .next t ∧ outside t ∧
      t.sleep = { s.sleep with
                  holdAwake := none
                  advice := if s.sleep.idle = .elapsed ∧ s.sleep.advice = .none then .idle else s.sleep.advice }) ∧
      (∀ w, s.sleep.idle = .running e w → ∃ t, exec .idleTimerExpiry s = .next t ∧ outside t ∧
        t.sleep = { s.sleep with
                    idle := .elapsed, idleShown := 0
                    advice := if s.sleep.advice = .none ∧ s.sleep.holdAwake = none then .idle else s.sleep.advice }) ∧
      (∀ expiry, s.sleep.idle = .running expiry e → ∃ t, exec .idleRemainingRewrite s = .next t ∧
        t = { s with now := now, port := t.port
                     sleep := { s.sleep with idle := .running expiry (e + 1000), idleShown := expiry - now } } ∧
        t.port = { s.port with updateCount := s.port.updateCount + 2, boardTime := now }) ∧
      (s.sleep.grace = some e → ∃ t, exec .graceTimerExpiry s = .next t ∧ outside t ∧
        t.sleep = { s.sleep with grace := none, advice := .lidClosed } ∧
        t.port.attnLatch.getLsbD Cause.sleepAdvice.bit = true) ∧
      (s.sleep.answerTimer = some e → ∃ t, exec .answerTimerExpiry s = .next t ∧ outside t ∧
        (s.sleep.assertions = 4 →
          t.sleep = { s.sleep with wake := false, answerTimer := none, assertions := 0 } ∧
          (t.faultEntry .wakeUnanswered).active = true) ∧
        (s.sleep.assertions ≠ 4 →
          t.sleep = { s.sleep with wake := false, answerTimer := none, gapTimer := some (now + 10) } ∧
          t.settings = s.settings)) ∧
      (s.sleep.gapTimer = some e →
        exec .gapTimerExpiry s = .next
          { s with
            now := now
            sleep := { s.sleep with
                       wake := true, assertions := s.sleep.assertions + 1, gapTimer := none
                       answerTimer := some (now + 10000) } })) ∧
    (∀ (s : State) (w : WakeSource),
        (s.hostOn = true ∨ s.sleep.wakeMask.getLsbD w.bit = false → s.wakeEvent w = s) ∧
          (s.hostOn = false → s.sleep.wakeMask.getLsbD w.bit = true →
            let fresh := s.sleep.wake = false ∧ s.sleep.answerTimer = none ∧ s.sleep.gapTimer = none
            let u := { s.sleep with wakeReasons := s.sleep.wakeReasons ||| BitVec.ofNat 8 (2 ^ w.bit) }
            s.wakeEvent w =
              { s with
                tasks := .setPower .active 2 :: s.tasks
                port := { s.port with boardTouched := true }
                sleep := if fresh then
                    { u with wake := true, assertions := 1, answerTimer := some (s.now + 10000), gapTimer := none }
                  else u })) ∧
    (∀ (s : State) (e : PartTime), s.betweenEvents → s.sleep.dozeTimer = some e →
        (s.sleep.power ≠ .doze →
          exec .dozeToStandbyExpiry s = .next
            { s with now := (s.reach e).now, sleep := { s.sleep with dozeTimer := none } }) ∧
          (s.sleep.power = .doze → s.nothingDraws → s.angle.calibration = none →
            ∃ t, exec .dozeToStandbyExpiry s = .next t ∧ t.now = (s.reach e).now ∧
              t.sleep = { s.sleep with
                          power := .standby, dozeTimer := none, withdrawal := !s.sleep.wakeMask.getLsbD 1 } ∧
              t.sensor = { s.sensor with
                           timer := none, holding := none, lidSupply := false
                           read := (match s.sensor.read with | .inFlight _ => .discarding | r => r) } ∧
              t.posture = { s.posture with
                            dwell := none, unavailable := none, orientationDwell := none, candidate := none
                            orientationCandidate := s.posture.oriented } ∧
              t.allot = { s.allot with
                          budget := State.selectedBudget { s with sleep := { s.sleep with power := .standby } } } ∧
              t = { s with now := t.now, mem := t.mem, port := t.port, journal := t.journal, sleep := t.sleep
                           sensor := t.sensor, posture := t.posture, allot := t.allot }))

/-! ## Rules of the units' arithmetic and tables -/

/-- R33 and R34 at the settings unit: a report that changes nothing; an active report counts an occurrence, latches FAULT
and is noticed; an inactive report keeps count and time. The board shows the entry. With room in the Notice Journal and no
gap the notice is read out of its record. -/
def Obligations.FaultReports : Prop :=
  ∀ (s : State) (k : FaultKind),
    let e := s.faultEntry k
    ((s.faultEntry k).active = true → s.reportActive k = s) ∧ ((s.faultEntry k).active = false → s.reportInactive k = s) ∧
      ∀ t, (e.active = false ∧ t = s.reportActive k) ∨ (e.active = true ∧ t = s.reportInactive k) → e.count ≤ 255 →
        let count := if e.active then e.count else min 255 (e.count + 1)
        let first := if e.active = false ∧ e.count = 0 then s.now else e.firstActive
        let old := if e.active then 1 else 0
        let reported : State :=
          { s with
            settings := { s.settings with
                          faults := s.settings.faults.set k.index
                            { active := !e.active, count := count, firstActive := first } }
            port := { s.port with
                      attnLatch := if e.active then s.port.attnLatch else s.port.attnLatch ||| Cause.fault.mask } }
        t = reported.offerNotice .fault k.index.val old (1 - old) count ∧
          t.faultEntry k = { active := !e.active, count := count, firstActive := first } ∧
          (∀ k', k' ≠ k → t.faultEntry k' = s.faultEntry k') ∧
          t.boardWord (0x48 + 8 * k.index.val) = bytes4 (1 - old) count 0 0 ∧ t.boardWord (0x4C + 8 * k.index.val) = first ∧
          (MemoryCanonical s → s.journal.gap = 0 → 1 ≤ s.room noticeJournal →
            let W := (s.journalOf noticeJournal).writeCount
            (t.journalOf noticeJournal).writeCount = W + 1 ∧ t.noticeAt W s.now .fault k.index.val old (1 - old) count)

/-- The stages of a set at the angle unit: the hall check (R61), eligibility and the projection magnitudes (R62, R63), the
raw difference, the side memory, the hinge angle and the filter (R67 to R69, R72), hall substitution (R71), and held and
unavailable sets (R73, R74); with what is returned for the Sample record. -/
def Obligations.AngleOfSet : Prop :=
  (∀ (s : State) (set : SampleSet),
    let t := (s.computeSet set).1
    let r := (s.computeSet set).2
    let d := r.difference
    let wrap := d < 256 ∨ 3840 < d
    let a := if d < 256 ∧ t.angle.side = .high then 4096 else if 3840 < d ∧ t.angle.side = .low then 0 else d
    let A := (s.angle.accumulator : Int)
    (d : Int) = ((r.baseAngle : Int) - r.lidAngle + s.settings.active.offset + s.angle.correction) % 4096 ∧
      r.lidAngle = atan2 set.lidY set.lidZ ∧ r.baseAngle = atan2 set.baseY set.baseZ ∧
      r.degenerateLid = false ∧ r.degenerateBase = false ∧
      (¬ wrap → t.angle.side = if d < 2048 then .low else .high) ∧
      (wrap → set.lidClosed = true → set.foldBack = false → t.angle.side = .low) ∧
      (wrap → set.lidClosed = false → set.foldBack = true → t.angle.side = .high) ∧
      (wrap → set.lidClosed = set.foldBack → t.angle.side = s.angle.side) ∧
      (s.angle.hasValue = false → t.angle.accumulator = 16 * a) ∧
      (s.angle.hasValue = true →
        (t.angle.accumulator : Int) = A + (16 * (a : Int) - A) / 2 ^ s.settings.active.filterShift) ∧
      t.angle.reported = (t.angle.accumulator + 8) / 16 ∧ t.angle.hasValue = true ∧ t.angle.holdCount = 0 ∧
      t.angle.quality = .good ∧ t.angle.calibration = s.angle.calibration ∧ t.angle.correction = s.angle.correction ∧
      t = { s with angle := t.angle }) ∧
    ∀ (s : State) (set : SampleSet),
      let low (y z : Int) : Prop :=
        max y.natAbs z.natAbs + min y.natAbs z.natAbs / 2 < s.settings.active.minProj
      let noSignal := set.lidGood = false ∨ set.lidSensor = true
      let noBase := set.fresh = false ∨ s.baseAttached = false
      let tested := ¬ noSignal ∧ ¬ noBase ∧ set.saturated = false
      let computed := tested ∧ ¬ low set.lidY set.lidZ ∧ ¬ low set.baseY set.baseZ
      let substituted := s.baseAttached = true ∧ set.lidClosed ≠ set.foldBack
      let checked :=
        if set.lidClosed = true ∧ set.foldBack = true then s.reportActive .hallConflict
        else s.reportInactive .hallConflict
      let t := (s.angleSet set).1
      let r := (s.angleSet set).2
      let a : Nat := if set.lidClosed then 0 else 4096
      let A := (s.angle.accumulator : Int)
      let acc := if s.angle.hasValue then (A + (16 * (a : Int) - A) / 2 ^ s.settings.active.filterShift).toNat else 16 * a
      ((t.faultEntry .hallConflict).active = true ↔ set.lidClosed = true ∧ set.foldBack = true) ∧
        (computed → s.angleSet set = checked.computeSet set) ∧
        (¬ computed →
          t = { checked with angle := t.angle } ∧ r.difference = 0 ∧ r.lidAngle = 0 ∧ r.baseAngle = 0 ∧
          (r.degenerateLid = true ↔ tested ∧ low set.lidY set.lidZ) ∧
          (r.degenerateBase = true ↔ tested ∧ low set.baseY set.baseZ) ∧
          (noSignal → r.loss = .signal) ∧ (¬ noSignal → noBase → r.loss = .base) ∧
          t.angle =
            if substituted then
              { s.angle with side := if set.lidClosed then .low else .high, accumulator := acc, reported := (acc + 8) / 16
                             hasValue := true, holdCount := 0, quality := .hall }
            else if ¬ noSignal ∧ ¬ noBase ∧ s.angle.hasValue = true ∧ s.angle.holdCount + 1 < 25 then
              { s.angle with holdCount := s.angle.holdCount + 1, quality := .held }
            else { s.angle with hasValue := false, holdCount := 0, quality := .unavailable })

/-- The posture unit takes a set (R83, R84) and evaluates the posture (R85, R89 to R91, R93 to R95), up to what a commit
publishes (R92, stated of the timers). The angle under a HALL quality is the filtered one (log 30); a dwell of 0 commits
in the event of the set (log 19); with DETACHED committed already a set in DETACHED leaves the unavailable timer (log 34). -/
def Obligations.PostureOfSet : Prop :=
  ∀ (s : State) (set : SampleSet),
    let u := s.postureSet set
    let pose : BasePose :=
      if set.fresh = false then .unknown else if 3547 ≤ set.baseZ.natAbs then .flat
      else if set.baseZ.natAbs ≤ 2048 then .upright else s.posture.basePose
    let a := s.angle.reported
    let admits (b : Band) : Prop := b.pose = .any ∨ b.pose = .flat ∧ pose = .flat ∨ b.pose = .upright ∧ pose = .upright
    let fits (b : Band) : Prop := b.lower ≤ a ∧ a ≤ b.upper ∧ admits b
    let kept (b : Band) : Prop := b.lower ≤ a + b.margin ∧ a ≤ b.upper + b.margin ∧ admits b
    let first (i : Nat) (b : Band) : Prop :=
      s.settings.table[i]? = some b ∧ fits b ∧ ∀ c ∈ s.settings.table.take i, ¬ fits c
    let outside := ∀ c ∈ s.settings.table, ¬ fits c
    let taken : PostureUnit := { s.posture with lastAngle := a, lastQuality := s.angle.quality, basePose := pose }
    let after (p : PostureUnit) : State := { s with posture := p, tasks := .evaluateOrientation set :: s.tasks }
    let lost := s.attach.state = .seating ∨ s.baseAttached = true ∧ s.angle.quality = .unavailable
    let measured := s.baseAttached = true ∧ s.angle.quality ≠ .unavailable
    let banded := s.posture.posture ≠ .detached ∧ s.posture.posture ≠ .unknown
    let stays (out : Bool) : PostureUnit :=
      { taken with unavailable := none, outOfTable := out, candidate := none, dwell := none }
    (s.attach.state = .detached →
      u = if s.posture.posture = .detached then after taken
          else
            (after { taken with dwell := none, unavailable := none, outOfTable := false }).commitPosture .detached
              none 1) ∧
      (lost →
        u = after { taken with
                    candidate := none, dwell := none
                    unavailable :=
                      if s.attach.state = .seating ∧ s.posture.posture = .detached then none
                      else if s.posture.posture ≠ .unknown ∧ s.posture.unavailable = none then some (s.now + 2000)
                      else s.posture.unavailable }) ∧
      (measured → banded → ∀ i b, s.posture.band = some i → s.settings.table[i]? = some b →
        (kept b ∨ first i b → u = after (stays false)) ∧
        (¬ kept b → outside → u = after (stays true)) ∧
        ∀ j c, ¬ kept b → j ≠ i → first j c →
          u = if s.posture.dwell.isSome ∧ s.posture.candidate = some j then
                after { taken with unavailable := none, outOfTable := false }
              else if s.settings.active.postureDwell = 0 then
                (after { taken with unavailable := none, outOfTable := false }).commitPosture c.posture (some j) 0
              else
                after { taken with
                        unavailable := none, outOfTable := false, candidate := some j
                        dwell := some (s.now + BitVec.ofNat 32 s.settings.active.postureDwell) }) ∧
      (measured → ¬ banded →
        (∀ j c, first j c →
          u = (after { taken with unavailable := none, outOfTable := false }).commitPosture c.posture (some j) 3) ∧
        (outside →
          u = if s.posture.posture = .detached then
                (after { taken with unavailable := none, outOfTable := true }).commitPosture .unknown none 3
              else after { taken with unavailable := none, outOfTable := true }))

/-- The orientation evaluation of a set (R98 to R100), up to what an orientation commit publishes (R101, stated of the
timers): which sets count, the flat flag, the sensed orientation and its hysteresis, the candidate and its dwell. -/
def Obligations.OrientationOfSet : Prop :=
  ∀ (s : State) (set : SampleSet),
    let t := s.evaluateOrientation set
    let x := set.lidX.natAbs
    let y := set.lidY.natAbs
    let usable :=
      set.lidGood = true ∧ set.lidSensor = false ∧ x ≠ 32767 ∧ y ≠ 32767 ∧ set.lidZ.natAbs ≠ 32767
    let flat := max x y + min x y / 2 < s.settings.active.flatMin
    let omega := atan2 set.lidX set.lidY
    let apart := (omega + 4096 - 1024 * s.posture.sensed.code) % 4096
    let turned := 512 + s.settings.active.rotationHysteresis < min apart (4096 - apart)
    let sensed := if turned then Orientation.ofCode ((omega + 512) / 1024 % 4) else s.posture.sensed
    let after (p : PostureUnit) : State := { s with posture := p }
    let seen : PostureUnit := { s.posture with flat := false, sensed := sensed }
    let free := s.rotationAllowed = true ∧ s.posture.lock = none
    (¬ usable → t = s) ∧ (usable → flat → t = after { s.posture with flat := true }) ∧
      (usable → ¬ flat → omega < 4096 ∧
        (¬ free → t = after seen) ∧
        (free → sensed = s.posture.oriented →
          t = after { seen with orientationCandidate := s.posture.oriented, orientationDwell := none }) ∧
        (free → sensed ≠ s.posture.oriented →
          t = if s.posture.orientationDwell.isSome ∧ s.posture.orientationCandidate = sensed then after seen
              else if s.settings.active.orientationDwell = 0 then (after seen).commitOrientation sensed 0
              else
                after { seen with
                        orientationCandidate := sensed
                        orientationDwell := some (s.now + BitVec.ofNat 32 s.settings.active.orientationDwell) }))

/-- R166: the targets by the fixed order, none above its demand, together within the budget; the grants that lie within
them are within the budget too, and a recomputation that finds every target in force changes nothing. (A coil claim still
to be answered, or a pulse without its grant, is R170's answer and not the recomputation's.) -/
def Obligations.GrantOrder : Prop :=
  ∀ (budget : Nat) (d : Allotments),
    let t := targets budget d
    let r1 := budget - t.coil
    let r2 := r1 - t.base
    let r3 := r2 - t.pen
    t.coil = (if d.coil = 1200 ∧ 1200 ≤ budget then 1200 else 0) ∧
      t.base = (if d.base = 250 ∧ 250 ≤ r1 then 250 else 0) ∧
      t.pen = (if 150 ≤ min d.pen r2 then min d.pen r2 else 0) ∧
      (t.base = 0 → t.backlight = 0) ∧
      (t.base ≠ 0 → t.backlight % 150 = 0 ∧ t.backlight ≤ min d.backlight r3 ∧ min d.backlight r3 < t.backlight + 150) ∧
      t.le d ∧ t.sum ≤ budget ∧
      ∀ s : State, s.allot.budget = budget → s.allot.demand = d →
        (GrantsWithinTargets s → s.allot.grant.sum ≤ budget ∧ s.allot.grant.le d) ∧
          (s.betweenEvents → s.allot.grant = t → s.allot.increases = noIncreases → s.attach.phase ≠ some .claiming →
            (s.attach.phase = some .pulse → d.coil = 1200 → t.coil = 1200) →
            ∀ n, 3 ≤ n → runTasks n s.recompute = s)
end

