-- ==== Sys2Proof/Laws/State.lean ====
section
/-! SUPPORT. Reading a field of State after an update of one of its fields. -/

namespace Sys2Proof.Machine

@[simp] theorem State.updPort_now (s : State) (f : PortUnit → PortUnit) : (s.updPort f).now = s.now := rfl
@[simp] theorem State.updPort_port (s : State) (f : PortUnit → PortUnit) : (s.updPort f).port = f s.port := rfl
@[simp] theorem State.updPort_dispatch (s : State) (f : PortUnit → PortUnit) : (s.updPort f).dispatch = s.dispatch := rfl
@[simp] theorem State.updPort_journal (s : State) (f : PortUnit → PortUnit) : (s.updPort f).journal = s.journal := rfl
@[simp] theorem State.updPort_settings (s : State) (f : PortUnit → PortUnit) : (s.updPort f).settings = s.settings := rfl
@[simp] theorem State.updPort_sensor (s : State) (f : PortUnit → PortUnit) : (s.updPort f).sensor = s.sensor := rfl
@[simp] theorem State.updPort_angle (s : State) (f : PortUnit → PortUnit) : (s.updPort f).angle = s.angle := rfl
@[simp] theorem State.updPort_posture (s : State) (f : PortUnit → PortUnit) : (s.updPort f).posture = s.posture := rfl
@[simp] theorem State.updPort_link (s : State) (f : PortUnit → PortUnit) : (s.updPort f).link = s.link := rfl
@[simp] theorem State.updPort_attach (s : State) (f : PortUnit → PortUnit) : (s.updPort f).attach = s.attach := rfl
@[simp] theorem State.updPort_pen (s : State) (f : PortUnit → PortUnit) : (s.updPort f).pen = s.pen := rfl
@[simp] theorem State.updPort_allot (s : State) (f : PortUnit → PortUnit) : (s.updPort f).allot = s.allot := rfl
@[simp] theorem State.updPort_sleep (s : State) (f : PortUnit → PortUnit) : (s.updPort f).sleep = s.sleep := rfl
@[simp] theorem State.updPort_mem (s : State) (f : PortUnit → PortUnit) : (s.updPort f).mem = s.mem := rfl
@[simp] theorem State.updPort_pending (s : State) (f : PortUnit → PortUnit) : (s.updPort f).pending = s.pending := rfl
@[simp] theorem State.updPort_tasks (s : State) (f : PortUnit → PortUnit) : (s.updPort f).tasks = s.tasks := rfl
@[simp] theorem State.updPort_choices (s : State) (f : PortUnit → PortUnit) : (s.updPort f).choices = s.choices := rfl

@[simp] theorem State.updDispatch_now (s : State) (f : Dispatcher → Dispatcher) : (s.updDispatch f).now = s.now := rfl
@[simp] theorem State.updDispatch_port (s : State) (f : Dispatcher → Dispatcher) : (s.updDispatch f).port = s.port := rfl
@[simp] theorem State.updDispatch_dispatch (s : State) (f : Dispatcher → Dispatcher) : (s.updDispatch f).dispatch = f s.dispatch := rfl
@[simp] theorem State.updDispatch_journal (s : State) (f : Dispatcher → Dispatcher) : (s.updDispatch f).journal = s.journal := rfl
@[simp] theorem State.updDispatch_settings (s : State) (f : Dispatcher → Dispatcher) : (s.updDispatch f).settings = s.settings := rfl
@[simp] theorem State.updDispatch_sensor (s : State) (f : Dispatcher → Dispatcher) : (s.updDispatch f).sensor = s.sensor := rfl
@[simp] theorem State.updDispatch_angle (s : State) (f : Dispatcher → Dispatcher) : (s.updDispatch f).angle = s.angle := rfl
@[simp] theorem State.updDispatch_posture (s : State) (f : Dispatcher → Dispatcher) : (s.updDispatch f).posture = s.posture := rfl
@[simp] theorem State.updDispatch_link (s : State) (f : Dispatcher → Dispatcher) : (s.updDispatch f).link = s.link := rfl
@[simp] theorem State.updDispatch_attach (s : State) (f : Dispatcher → Dispatcher) : (s.updDispatch f).attach = s.attach := rfl
@[simp] theorem State.updDispatch_pen (s : State) (f : Dispatcher → Dispatcher) : (s.updDispatch f).pen = s.pen := rfl
@[simp] theorem State.updDispatch_allot (s : State) (f : Dispatcher → Dispatcher) : (s.updDispatch f).allot = s.allot := rfl
@[simp] theorem State.updDispatch_sleep (s : State) (f : Dispatcher → Dispatcher) : (s.updDispatch f).sleep = s.sleep := rfl
@[simp] theorem State.updDispatch_mem (s : State) (f : Dispatcher → Dispatcher) : (s.updDispatch f).mem = s.mem := rfl
@[simp] theorem State.updDispatch_pending (s : State) (f : Dispatcher → Dispatcher) : (s.updDispatch f).pending = s.pending := rfl
@[simp] theorem State.updDispatch_tasks (s : State) (f : Dispatcher → Dispatcher) : (s.updDispatch f).tasks = s.tasks := rfl
@[simp] theorem State.updDispatch_choices (s : State) (f : Dispatcher → Dispatcher) : (s.updDispatch f).choices = s.choices := rfl

@[simp] theorem State.updJournal_now (s : State) (f : JournalUnit → JournalUnit) : (s.updJournal f).now = s.now := rfl
@[simp] theorem State.updJournal_port (s : State) (f : JournalUnit → JournalUnit) : (s.updJournal f).port = s.port := rfl
@[simp] theorem State.updJournal_dispatch (s : State) (f : JournalUnit → JournalUnit) : (s.updJournal f).dispatch = s.dispatch := rfl
@[simp] theorem State.updJournal_journal (s : State) (f : JournalUnit → JournalUnit) : (s.updJournal f).journal = f s.journal := rfl
@[simp] theorem State.updJournal_settings (s : State) (f : JournalUnit → JournalUnit) : (s.updJournal f).settings = s.settings := rfl
@[simp] theorem State.updJournal_sensor (s : State) (f : JournalUnit → JournalUnit) : (s.updJournal f).sensor = s.sensor := rfl
@[simp] theorem State.updJournal_angle (s : State) (f : JournalUnit → JournalUnit) : (s.updJournal f).angle = s.angle := rfl
@[simp] theorem State.updJournal_posture (s : State) (f : JournalUnit → JournalUnit) : (s.updJournal f).posture = s.posture := rfl
@[simp] theorem State.updJournal_link (s : State) (f : JournalUnit → JournalUnit) : (s.updJournal f).link = s.link := rfl
@[simp] theorem State.updJournal_attach (s : State) (f : JournalUnit → JournalUnit) : (s.updJournal f).attach = s.attach := rfl
@[simp] theorem State.updJournal_pen (s : State) (f : JournalUnit → JournalUnit) : (s.updJournal f).pen = s.pen := rfl
@[simp] theorem State.updJournal_allot (s : State) (f : JournalUnit → JournalUnit) : (s.updJournal f).allot = s.allot := rfl
@[simp] theorem State.updJournal_sleep (s : State) (f : JournalUnit → JournalUnit) : (s.updJournal f).sleep = s.sleep := rfl
@[simp] theorem State.updJournal_mem (s : State) (f : JournalUnit → JournalUnit) : (s.updJournal f).mem = s.mem := rfl
@[simp] theorem State.updJournal_pending (s : State) (f : JournalUnit → JournalUnit) : (s.updJournal f).pending = s.pending := rfl
@[simp] theorem State.updJournal_tasks (s : State) (f : JournalUnit → JournalUnit) : (s.updJournal f).tasks = s.tasks := rfl
@[simp] theorem State.updJournal_choices (s : State) (f : JournalUnit → JournalUnit) : (s.updJournal f).choices = s.choices := rfl

@[simp] theorem State.updSettings_now (s : State) (f : SettingsUnit → SettingsUnit) : (s.updSettings f).now = s.now := rfl
@[simp] theorem State.updSettings_port (s : State) (f : SettingsUnit → SettingsUnit) : (s.updSettings f).port = s.port := rfl
@[simp] theorem State.updSettings_dispatch (s : State) (f : SettingsUnit → SettingsUnit) : (s.updSettings f).dispatch = s.dispatch := rfl
@[simp] theorem State.updSettings_journal (s : State) (f : SettingsUnit → SettingsUnit) : (s.updSettings f).journal = s.journal := rfl
@[simp] theorem State.updSettings_settings (s : State) (f : SettingsUnit → SettingsUnit) : (s.updSettings f).settings = f s.settings := rfl
@[simp] theorem State.updSettings_sensor (s : State) (f : SettingsUnit → SettingsUnit) : (s.updSettings f).sensor = s.sensor := rfl
@[simp] theorem State.updSettings_angle (s : State) (f : SettingsUnit → SettingsUnit) : (s.updSettings f).angle = s.angle := rfl
@[simp] theorem State.updSettings_posture (s : State) (f : SettingsUnit → SettingsUnit) : (s.updSettings f).posture = s.posture := rfl
@[simp] theorem State.updSettings_link (s : State) (f : SettingsUnit → SettingsUnit) : (s.updSettings f).link = s.link := rfl
@[simp] theorem State.updSettings_attach (s : State) (f : SettingsUnit → SettingsUnit) : (s.updSettings f).attach = s.attach := rfl
@[simp] theorem State.updSettings_pen (s : State) (f : SettingsUnit → SettingsUnit) : (s.updSettings f).pen = s.pen := rfl
@[simp] theorem State.updSettings_allot (s : State) (f : SettingsUnit → SettingsUnit) : (s.updSettings f).allot = s.allot := rfl
@[simp] theorem State.updSettings_sleep (s : State) (f : SettingsUnit → SettingsUnit) : (s.updSettings f).sleep = s.sleep := rfl
@[simp] theorem State.updSettings_mem (s : State) (f : SettingsUnit → SettingsUnit) : (s.updSettings f).mem = s.mem := rfl
@[simp] theorem State.updSettings_pending (s : State) (f : SettingsUnit → SettingsUnit) : (s.updSettings f).pending = s.pending := rfl
@[simp] theorem State.updSettings_tasks (s : State) (f : SettingsUnit → SettingsUnit) : (s.updSettings f).tasks = s.tasks := rfl
@[simp] theorem State.updSettings_choices (s : State) (f : SettingsUnit → SettingsUnit) : (s.updSettings f).choices = s.choices := rfl

@[simp] theorem State.updSensor_now (s : State) (f : SensorUnit → SensorUnit) : (s.updSensor f).now = s.now := rfl
@[simp] theorem State.updSensor_port (s : State) (f : SensorUnit → SensorUnit) : (s.updSensor f).port = s.port := rfl
@[simp] theorem State.updSensor_dispatch (s : State) (f : SensorUnit → SensorUnit) : (s.updSensor f).dispatch = s.dispatch := rfl
@[simp] theorem State.updSensor_journal (s : State) (f : SensorUnit → SensorUnit) : (s.updSensor f).journal = s.journal := rfl
@[simp] theorem State.updSensor_settings (s : State) (f : SensorUnit → SensorUnit) : (s.updSensor f).settings = s.settings := rfl
@[simp] theorem State.updSensor_sensor (s : State) (f : SensorUnit → SensorUnit) : (s.updSensor f).sensor = f s.sensor := rfl
@[simp] theorem State.updSensor_angle (s : State) (f : SensorUnit → SensorUnit) : (s.updSensor f).angle = s.angle := rfl
@[simp] theorem State.updSensor_posture (s : State) (f : SensorUnit → SensorUnit) : (s.updSensor f).posture = s.posture := rfl
@[simp] theorem State.updSensor_link (s : State) (f : SensorUnit → SensorUnit) : (s.updSensor f).link = s.link := rfl
@[simp] theorem State.updSensor_attach (s : State) (f : SensorUnit → SensorUnit) : (s.updSensor f).attach = s.attach := rfl
@[simp] theorem State.updSensor_pen (s : State) (f : SensorUnit → SensorUnit) : (s.updSensor f).pen = s.pen := rfl
@[simp] theorem State.updSensor_allot (s : State) (f : SensorUnit → SensorUnit) : (s.updSensor f).allot = s.allot := rfl
@[simp] theorem State.updSensor_sleep (s : State) (f : SensorUnit → SensorUnit) : (s.updSensor f).sleep = s.sleep := rfl
@[simp] theorem State.updSensor_mem (s : State) (f : SensorUnit → SensorUnit) : (s.updSensor f).mem = s.mem := rfl
@[simp] theorem State.updSensor_pending (s : State) (f : SensorUnit → SensorUnit) : (s.updSensor f).pending = s.pending := rfl
@[simp] theorem State.updSensor_tasks (s : State) (f : SensorUnit → SensorUnit) : (s.updSensor f).tasks = s.tasks := rfl
@[simp] theorem State.updSensor_choices (s : State) (f : SensorUnit → SensorUnit) : (s.updSensor f).choices = s.choices := rfl

@[simp] theorem State.updAngle_now (s : State) (f : AngleUnit → AngleUnit) : (s.updAngle f).now = s.now := rfl
@[simp] theorem State.updAngle_port (s : State) (f : AngleUnit → AngleUnit) : (s.updAngle f).port = s.port := rfl
@[simp] theorem State.updAngle_dispatch (s : State) (f : AngleUnit → AngleUnit) : (s.updAngle f).dispatch = s.dispatch := rfl
@[simp] theorem State.updAngle_journal (s : State) (f : AngleUnit → AngleUnit) : (s.updAngle f).journal = s.journal := rfl
@[simp] theorem State.updAngle_settings (s : State) (f : AngleUnit → AngleUnit) : (s.updAngle f).settings = s.settings := rfl
@[simp] theorem State.updAngle_sensor (s : State) (f : AngleUnit → AngleUnit) : (s.updAngle f).sensor = s.sensor := rfl
@[simp] theorem State.updAngle_angle (s : State) (f : AngleUnit → AngleUnit) : (s.updAngle f).angle = f s.angle := rfl
@[simp] theorem State.updAngle_posture (s : State) (f : AngleUnit → AngleUnit) : (s.updAngle f).posture = s.posture := rfl
@[simp] theorem State.updAngle_link (s : State) (f : AngleUnit → AngleUnit) : (s.updAngle f).link = s.link := rfl
@[simp] theorem State.updAngle_attach (s : State) (f : AngleUnit → AngleUnit) : (s.updAngle f).attach = s.attach := rfl
@[simp] theorem State.updAngle_pen (s : State) (f : AngleUnit → AngleUnit) : (s.updAngle f).pen = s.pen := rfl
@[simp] theorem State.updAngle_allot (s : State) (f : AngleUnit → AngleUnit) : (s.updAngle f).allot = s.allot := rfl
@[simp] theorem State.updAngle_sleep (s : State) (f : AngleUnit → AngleUnit) : (s.updAngle f).sleep = s.sleep := rfl
@[simp] theorem State.updAngle_mem (s : State) (f : AngleUnit → AngleUnit) : (s.updAngle f).mem = s.mem := rfl
@[simp] theorem State.updAngle_pending (s : State) (f : AngleUnit → AngleUnit) : (s.updAngle f).pending = s.pending := rfl
@[simp] theorem State.updAngle_tasks (s : State) (f : AngleUnit → AngleUnit) : (s.updAngle f).tasks = s.tasks := rfl
@[simp] theorem State.updAngle_choices (s : State) (f : AngleUnit → AngleUnit) : (s.updAngle f).choices = s.choices := rfl

@[simp] theorem State.updPosture_now (s : State) (f : PostureUnit → PostureUnit) : (s.updPosture f).now = s.now := rfl
@[simp] theorem State.updPosture_port (s : State) (f : PostureUnit → PostureUnit) : (s.updPosture f).port = s.port := rfl
@[simp] theorem State.updPosture_dispatch (s : State) (f : PostureUnit → PostureUnit) : (s.updPosture f).dispatch = s.dispatch := rfl
@[simp] theorem State.updPosture_journal (s : State) (f : PostureUnit → PostureUnit) : (s.updPosture f).journal = s.journal := rfl
@[simp] theorem State.updPosture_settings (s : State) (f : PostureUnit → PostureUnit) : (s.updPosture f).settings = s.settings := rfl
@[simp] theorem State.updPosture_sensor (s : State) (f : PostureUnit → PostureUnit) : (s.updPosture f).sensor = s.sensor := rfl
@[simp] theorem State.updPosture_angle (s : State) (f : PostureUnit → PostureUnit) : (s.updPosture f).angle = s.angle := rfl
@[simp] theorem State.updPosture_posture (s : State) (f : PostureUnit → PostureUnit) : (s.updPosture f).posture = f s.posture := rfl
@[simp] theorem State.updPosture_link (s : State) (f : PostureUnit → PostureUnit) : (s.updPosture f).link = s.link := rfl
@[simp] theorem State.updPosture_attach (s : State) (f : PostureUnit → PostureUnit) : (s.updPosture f).attach = s.attach := rfl
@[simp] theorem State.updPosture_pen (s : State) (f : PostureUnit → PostureUnit) : (s.updPosture f).pen = s.pen := rfl
@[simp] theorem State.updPosture_allot (s : State) (f : PostureUnit → PostureUnit) : (s.updPosture f).allot = s.allot := rfl
@[simp] theorem State.updPosture_sleep (s : State) (f : PostureUnit → PostureUnit) : (s.updPosture f).sleep = s.sleep := rfl
@[simp] theorem State.updPosture_mem (s : State) (f : PostureUnit → PostureUnit) : (s.updPosture f).mem = s.mem := rfl
@[simp] theorem State.updPosture_pending (s : State) (f : PostureUnit → PostureUnit) : (s.updPosture f).pending = s.pending := rfl
@[simp] theorem State.updPosture_tasks (s : State) (f : PostureUnit → PostureUnit) : (s.updPosture f).tasks = s.tasks := rfl
@[simp] theorem State.updPosture_choices (s : State) (f : PostureUnit → PostureUnit) : (s.updPosture f).choices = s.choices := rfl

@[simp] theorem State.updLink_now (s : State) (f : LinkUnit → LinkUnit) : (s.updLink f).now = s.now := rfl
@[simp] theorem State.updLink_port (s : State) (f : LinkUnit → LinkUnit) : (s.updLink f).port = s.port := rfl
@[simp] theorem State.updLink_dispatch (s : State) (f : LinkUnit → LinkUnit) : (s.updLink f).dispatch = s.dispatch := rfl
@[simp] theorem State.updLink_journal (s : State) (f : LinkUnit → LinkUnit) : (s.updLink f).journal = s.journal := rfl
@[simp] theorem State.updLink_settings (s : State) (f : LinkUnit → LinkUnit) : (s.updLink f).settings = s.settings := rfl
@[simp] theorem State.updLink_sensor (s : State) (f : LinkUnit → LinkUnit) : (s.updLink f).sensor = s.sensor := rfl
@[simp] theorem State.updLink_angle (s : State) (f : LinkUnit → LinkUnit) : (s.updLink f).angle = s.angle := rfl
@[simp] theorem State.updLink_posture (s : State) (f : LinkUnit → LinkUnit) : (s.updLink f).posture = s.posture := rfl
@[simp] theorem State.updLink_link (s : State) (f : LinkUnit → LinkUnit) : (s.updLink f).link = f s.link := rfl
@[simp] theorem State.updLink_attach (s : State) (f : LinkUnit → LinkUnit) : (s.updLink f).attach = s.attach := rfl
@[simp] theorem State.updLink_pen (s : State) (f : LinkUnit → LinkUnit) : (s.updLink f).pen = s.pen := rfl
@[simp] theorem State.updLink_allot (s : State) (f : LinkUnit → LinkUnit) : (s.updLink f).allot = s.allot := rfl
@[simp] theorem State.updLink_sleep (s : State) (f : LinkUnit → LinkUnit) : (s.updLink f).sleep = s.sleep := rfl
@[simp] theorem State.updLink_mem (s : State) (f : LinkUnit → LinkUnit) : (s.updLink f).mem = s.mem := rfl
@[simp] theorem State.updLink_pending (s : State) (f : LinkUnit → LinkUnit) : (s.updLink f).pending = s.pending := rfl
@[simp] theorem State.updLink_tasks (s : State) (f : LinkUnit → LinkUnit) : (s.updLink f).tasks = s.tasks := rfl
@[simp] theorem State.updLink_choices (s : State) (f : LinkUnit → LinkUnit) : (s.updLink f).choices = s.choices := rfl

@[simp] theorem State.updAttach_now (s : State) (f : AttachUnit → AttachUnit) : (s.updAttach f).now = s.now := rfl
@[simp] theorem State.updAttach_port (s : State) (f : AttachUnit → AttachUnit) : (s.updAttach f).port = s.port := rfl
@[simp] theorem State.updAttach_dispatch (s : State) (f : AttachUnit → AttachUnit) : (s.updAttach f).dispatch = s.dispatch := rfl
@[simp] theorem State.updAttach_journal (s : State) (f : AttachUnit → AttachUnit) : (s.updAttach f).journal = s.journal := rfl
@[simp] theorem State.updAttach_settings (s : State) (f : AttachUnit → AttachUnit) : (s.updAttach f).settings = s.settings := rfl
@[simp] theorem State.updAttach_sensor (s : State) (f : AttachUnit → AttachUnit) : (s.updAttach f).sensor = s.sensor := rfl
@[simp] theorem State.updAttach_angle (s : State) (f : AttachUnit → AttachUnit) : (s.updAttach f).angle = s.angle := rfl
@[simp] theorem State.updAttach_posture (s : State) (f : AttachUnit → AttachUnit) : (s.updAttach f).posture = s.posture := rfl
@[simp] theorem State.updAttach_link (s : State) (f : AttachUnit → AttachUnit) : (s.updAttach f).link = s.link := rfl
@[simp] theorem State.updAttach_attach (s : State) (f : AttachUnit → AttachUnit) : (s.updAttach f).attach = f s.attach := rfl
@[simp] theorem State.updAttach_pen (s : State) (f : AttachUnit → AttachUnit) : (s.updAttach f).pen = s.pen := rfl
@[simp] theorem State.updAttach_allot (s : State) (f : AttachUnit → AttachUnit) : (s.updAttach f).allot = s.allot := rfl
@[simp] theorem State.updAttach_sleep (s : State) (f : AttachUnit → AttachUnit) : (s.updAttach f).sleep = s.sleep := rfl
@[simp] theorem State.updAttach_mem (s : State) (f : AttachUnit → AttachUnit) : (s.updAttach f).mem = s.mem := rfl
@[simp] theorem State.updAttach_pending (s : State) (f : AttachUnit → AttachUnit) : (s.updAttach f).pending = s.pending := rfl
@[simp] theorem State.updAttach_tasks (s : State) (f : AttachUnit → AttachUnit) : (s.updAttach f).tasks = s.tasks := rfl
@[simp] theorem State.updAttach_choices (s : State) (f : AttachUnit → AttachUnit) : (s.updAttach f).choices = s.choices := rfl

@[simp] theorem State.updPen_now (s : State) (f : PenUnit → PenUnit) : (s.updPen f).now = s.now := rfl
@[simp] theorem State.updPen_port (s : State) (f : PenUnit → PenUnit) : (s.updPen f).port = s.port := rfl
@[simp] theorem State.updPen_dispatch (s : State) (f : PenUnit → PenUnit) : (s.updPen f).dispatch = s.dispatch := rfl
@[simp] theorem State.updPen_journal (s : State) (f : PenUnit → PenUnit) : (s.updPen f).journal = s.journal := rfl
@[simp] theorem State.updPen_settings (s : State) (f : PenUnit → PenUnit) : (s.updPen f).settings = s.settings := rfl
@[simp] theorem State.updPen_sensor (s : State) (f : PenUnit → PenUnit) : (s.updPen f).sensor = s.sensor := rfl
@[simp] theorem State.updPen_angle (s : State) (f : PenUnit → PenUnit) : (s.updPen f).angle = s.angle := rfl
@[simp] theorem State.updPen_posture (s : State) (f : PenUnit → PenUnit) : (s.updPen f).posture = s.posture := rfl
@[simp] theorem State.updPen_link (s : State) (f : PenUnit → PenUnit) : (s.updPen f).link = s.link := rfl
@[simp] theorem State.updPen_attach (s : State) (f : PenUnit → PenUnit) : (s.updPen f).attach = s.attach := rfl
@[simp] theorem State.updPen_pen (s : State) (f : PenUnit → PenUnit) : (s.updPen f).pen = f s.pen := rfl
@[simp] theorem State.updPen_allot (s : State) (f : PenUnit → PenUnit) : (s.updPen f).allot = s.allot := rfl
@[simp] theorem State.updPen_sleep (s : State) (f : PenUnit → PenUnit) : (s.updPen f).sleep = s.sleep := rfl
@[simp] theorem State.updPen_mem (s : State) (f : PenUnit → PenUnit) : (s.updPen f).mem = s.mem := rfl
@[simp] theorem State.updPen_pending (s : State) (f : PenUnit → PenUnit) : (s.updPen f).pending = s.pending := rfl
@[simp] theorem State.updPen_tasks (s : State) (f : PenUnit → PenUnit) : (s.updPen f).tasks = s.tasks := rfl
@[simp] theorem State.updPen_choices (s : State) (f : PenUnit → PenUnit) : (s.updPen f).choices = s.choices := rfl

@[simp] theorem State.updAllot_now (s : State) (f : AllotUnit → AllotUnit) : (s.updAllot f).now = s.now := rfl
@[simp] theorem State.updAllot_port (s : State) (f : AllotUnit → AllotUnit) : (s.updAllot f).port = s.port := rfl
@[simp] theorem State.updAllot_dispatch (s : State) (f : AllotUnit → AllotUnit) : (s.updAllot f).dispatch = s.dispatch := rfl
@[simp] theorem State.updAllot_journal (s : State) (f : AllotUnit → AllotUnit) : (s.updAllot f).journal = s.journal := rfl
@[simp] theorem State.updAllot_settings (s : State) (f : AllotUnit → AllotUnit) : (s.updAllot f).settings = s.settings := rfl
@[simp] theorem State.updAllot_sensor (s : State) (f : AllotUnit → AllotUnit) : (s.updAllot f).sensor = s.sensor := rfl
@[simp] theorem State.updAllot_angle (s : State) (f : AllotUnit → AllotUnit) : (s.updAllot f).angle = s.angle := rfl
@[simp] theorem State.updAllot_posture (s : State) (f : AllotUnit → AllotUnit) : (s.updAllot f).posture = s.posture := rfl
@[simp] theorem State.updAllot_link (s : State) (f : AllotUnit → AllotUnit) : (s.updAllot f).link = s.link := rfl
@[simp] theorem State.updAllot_attach (s : State) (f : AllotUnit → AllotUnit) : (s.updAllot f).attach = s.attach := rfl
@[simp] theorem State.updAllot_pen (s : State) (f : AllotUnit → AllotUnit) : (s.updAllot f).pen = s.pen := rfl
@[simp] theorem State.updAllot_allot (s : State) (f : AllotUnit → AllotUnit) : (s.updAllot f).allot = f s.allot := rfl
@[simp] theorem State.updAllot_sleep (s : State) (f : AllotUnit → AllotUnit) : (s.updAllot f).sleep = s.sleep := rfl
@[simp] theorem State.updAllot_mem (s : State) (f : AllotUnit → AllotUnit) : (s.updAllot f).mem = s.mem := rfl
@[simp] theorem State.updAllot_pending (s : State) (f : AllotUnit → AllotUnit) : (s.updAllot f).pending = s.pending := rfl
@[simp] theorem State.updAllot_tasks (s : State) (f : AllotUnit → AllotUnit) : (s.updAllot f).tasks = s.tasks := rfl
@[simp] theorem State.updAllot_choices (s : State) (f : AllotUnit → AllotUnit) : (s.updAllot f).choices = s.choices := rfl

@[simp] theorem State.updSleep_now (s : State) (f : SleepUnit → SleepUnit) : (s.updSleep f).now = s.now := rfl
@[simp] theorem State.updSleep_port (s : State) (f : SleepUnit → SleepUnit) : (s.updSleep f).port = s.port := rfl
@[simp] theorem State.updSleep_dispatch (s : State) (f : SleepUnit → SleepUnit) : (s.updSleep f).dispatch = s.dispatch := rfl
@[simp] theorem State.updSleep_journal (s : State) (f : SleepUnit → SleepUnit) : (s.updSleep f).journal = s.journal := rfl
@[simp] theorem State.updSleep_settings (s : State) (f : SleepUnit → SleepUnit) : (s.updSleep f).settings = s.settings := rfl
@[simp] theorem State.updSleep_sensor (s : State) (f : SleepUnit → SleepUnit) : (s.updSleep f).sensor = s.sensor := rfl
@[simp] theorem State.updSleep_angle (s : State) (f : SleepUnit → SleepUnit) : (s.updSleep f).angle = s.angle := rfl
@[simp] theorem State.updSleep_posture (s : State) (f : SleepUnit → SleepUnit) : (s.updSleep f).posture = s.posture := rfl
@[simp] theorem State.updSleep_link (s : State) (f : SleepUnit → SleepUnit) : (s.updSleep f).link = s.link := rfl
@[simp] theorem State.updSleep_attach (s : State) (f : SleepUnit → SleepUnit) : (s.updSleep f).attach = s.attach := rfl
@[simp] theorem State.updSleep_pen (s : State) (f : SleepUnit → SleepUnit) : (s.updSleep f).pen = s.pen := rfl
@[simp] theorem State.updSleep_allot (s : State) (f : SleepUnit → SleepUnit) : (s.updSleep f).allot = s.allot := rfl
@[simp] theorem State.updSleep_sleep (s : State) (f : SleepUnit → SleepUnit) : (s.updSleep f).sleep = f s.sleep := rfl
@[simp] theorem State.updSleep_mem (s : State) (f : SleepUnit → SleepUnit) : (s.updSleep f).mem = s.mem := rfl
@[simp] theorem State.updSleep_pending (s : State) (f : SleepUnit → SleepUnit) : (s.updSleep f).pending = s.pending := rfl
@[simp] theorem State.updSleep_tasks (s : State) (f : SleepUnit → SleepUnit) : (s.updSleep f).tasks = s.tasks := rfl
@[simp] theorem State.updSleep_choices (s : State) (f : SleepUnit → SleepUnit) : (s.updSleep f).choices = s.choices := rfl

@[simp] theorem State.setMem_now (s : State) (x : Memory) : (s.setMem x).now = s.now := rfl
@[simp] theorem State.setMem_port (s : State) (x : Memory) : (s.setMem x).port = s.port := rfl
@[simp] theorem State.setMem_dispatch (s : State) (x : Memory) : (s.setMem x).dispatch = s.dispatch := rfl
@[simp] theorem State.setMem_journal (s : State) (x : Memory) : (s.setMem x).journal = s.journal := rfl
@[simp] theorem State.setMem_settings (s : State) (x : Memory) : (s.setMem x).settings = s.settings := rfl
@[simp] theorem State.setMem_sensor (s : State) (x : Memory) : (s.setMem x).sensor = s.sensor := rfl
@[simp] theorem State.setMem_angle (s : State) (x : Memory) : (s.setMem x).angle = s.angle := rfl
@[simp] theorem State.setMem_posture (s : State) (x : Memory) : (s.setMem x).posture = s.posture := rfl
@[simp] theorem State.setMem_link (s : State) (x : Memory) : (s.setMem x).link = s.link := rfl
@[simp] theorem State.setMem_attach (s : State) (x : Memory) : (s.setMem x).attach = s.attach := rfl
@[simp] theorem State.setMem_pen (s : State) (x : Memory) : (s.setMem x).pen = s.pen := rfl
@[simp] theorem State.setMem_allot (s : State) (x : Memory) : (s.setMem x).allot = s.allot := rfl
@[simp] theorem State.setMem_sleep (s : State) (x : Memory) : (s.setMem x).sleep = s.sleep := rfl
@[simp] theorem State.setMem_mem (s : State) (x : Memory) : (s.setMem x).mem = x := rfl
@[simp] theorem State.setMem_pending (s : State) (x : Memory) : (s.setMem x).pending = s.pending := rfl
@[simp] theorem State.setMem_tasks (s : State) (x : Memory) : (s.setMem x).tasks = s.tasks := rfl
@[simp] theorem State.setMem_choices (s : State) (x : Memory) : (s.setMem x).choices = s.choices := rfl

@[simp] theorem State.setNow_now (s : State) (x : PartTime) : (s.setNow x).now = x := rfl
@[simp] theorem State.setNow_port (s : State) (x : PartTime) : (s.setNow x).port = s.port := rfl
@[simp] theorem State.setNow_dispatch (s : State) (x : PartTime) : (s.setNow x).dispatch = s.dispatch := rfl
@[simp] theorem State.setNow_journal (s : State) (x : PartTime) : (s.setNow x).journal = s.journal := rfl
@[simp] theorem State.setNow_settings (s : State) (x : PartTime) : (s.setNow x).settings = s.settings := rfl
@[simp] theorem State.setNow_sensor (s : State) (x : PartTime) : (s.setNow x).sensor = s.sensor := rfl
@[simp] theorem State.setNow_angle (s : State) (x : PartTime) : (s.setNow x).angle = s.angle := rfl
@[simp] theorem State.setNow_posture (s : State) (x : PartTime) : (s.setNow x).posture = s.posture := rfl
@[simp] theorem State.setNow_link (s : State) (x : PartTime) : (s.setNow x).link = s.link := rfl
@[simp] theorem State.setNow_attach (s : State) (x : PartTime) : (s.setNow x).attach = s.attach := rfl
@[simp] theorem State.setNow_pen (s : State) (x : PartTime) : (s.setNow x).pen = s.pen := rfl
@[simp] theorem State.setNow_allot (s : State) (x : PartTime) : (s.setNow x).allot = s.allot := rfl
@[simp] theorem State.setNow_sleep (s : State) (x : PartTime) : (s.setNow x).sleep = s.sleep := rfl
@[simp] theorem State.setNow_mem (s : State) (x : PartTime) : (s.setNow x).mem = s.mem := rfl
@[simp] theorem State.setNow_pending (s : State) (x : PartTime) : (s.setNow x).pending = s.pending := rfl
@[simp] theorem State.setNow_tasks (s : State) (x : PartTime) : (s.setNow x).tasks = s.tasks := rfl
@[simp] theorem State.setNow_choices (s : State) (x : PartTime) : (s.setNow x).choices = s.choices := rfl

@[simp] theorem State.setTasks_now (s : State) (x : List Task) : (s.setTasks x).now = s.now := rfl
@[simp] theorem State.setTasks_port (s : State) (x : List Task) : (s.setTasks x).port = s.port := rfl
@[simp] theorem State.setTasks_dispatch (s : State) (x : List Task) : (s.setTasks x).dispatch = s.dispatch := rfl
@[simp] theorem State.setTasks_journal (s : State) (x : List Task) : (s.setTasks x).journal = s.journal := rfl
@[simp] theorem State.setTasks_settings (s : State) (x : List Task) : (s.setTasks x).settings = s.settings := rfl
@[simp] theorem State.setTasks_sensor (s : State) (x : List Task) : (s.setTasks x).sensor = s.sensor := rfl
@[simp] theorem State.setTasks_angle (s : State) (x : List Task) : (s.setTasks x).angle = s.angle := rfl
@[simp] theorem State.setTasks_posture (s : State) (x : List Task) : (s.setTasks x).posture = s.posture := rfl
@[simp] theorem State.setTasks_link (s : State) (x : List Task) : (s.setTasks x).link = s.link := rfl
@[simp] theorem State.setTasks_attach (s : State) (x : List Task) : (s.setTasks x).attach = s.attach := rfl
@[simp] theorem State.setTasks_pen (s : State) (x : List Task) : (s.setTasks x).pen = s.pen := rfl
@[simp] theorem State.setTasks_allot (s : State) (x : List Task) : (s.setTasks x).allot = s.allot := rfl
@[simp] theorem State.setTasks_sleep (s : State) (x : List Task) : (s.setTasks x).sleep = s.sleep := rfl
@[simp] theorem State.setTasks_mem (s : State) (x : List Task) : (s.setTasks x).mem = s.mem := rfl
@[simp] theorem State.setTasks_pending (s : State) (x : List Task) : (s.setTasks x).pending = s.pending := rfl
@[simp] theorem State.setTasks_tasks (s : State) (x : List Task) : (s.setTasks x).tasks = x := rfl
@[simp] theorem State.setTasks_choices (s : State) (x : List Task) : (s.setTasks x).choices = s.choices := rfl

@[simp] theorem State.setPending_now (s : State) (x : List Instr) : (s.setPending x).now = s.now := rfl
@[simp] theorem State.setPending_port (s : State) (x : List Instr) : (s.setPending x).port = s.port := rfl
@[simp] theorem State.setPending_dispatch (s : State) (x : List Instr) : (s.setPending x).dispatch = s.dispatch := rfl
@[simp] theorem State.setPending_journal (s : State) (x : List Instr) : (s.setPending x).journal = s.journal := rfl
@[simp] theorem State.setPending_settings (s : State) (x : List Instr) : (s.setPending x).settings = s.settings := rfl
@[simp] theorem State.setPending_sensor (s : State) (x : List Instr) : (s.setPending x).sensor = s.sensor := rfl
@[simp] theorem State.setPending_angle (s : State) (x : List Instr) : (s.setPending x).angle = s.angle := rfl
@[simp] theorem State.setPending_posture (s : State) (x : List Instr) : (s.setPending x).posture = s.posture := rfl
@[simp] theorem State.setPending_link (s : State) (x : List Instr) : (s.setPending x).link = s.link := rfl
@[simp] theorem State.setPending_attach (s : State) (x : List Instr) : (s.setPending x).attach = s.attach := rfl
@[simp] theorem State.setPending_pen (s : State) (x : List Instr) : (s.setPending x).pen = s.pen := rfl
@[simp] theorem State.setPending_allot (s : State) (x : List Instr) : (s.setPending x).allot = s.allot := rfl
@[simp] theorem State.setPending_sleep (s : State) (x : List Instr) : (s.setPending x).sleep = s.sleep := rfl
@[simp] theorem State.setPending_mem (s : State) (x : List Instr) : (s.setPending x).mem = s.mem := rfl
@[simp] theorem State.setPending_pending (s : State) (x : List Instr) : (s.setPending x).pending = x := rfl
@[simp] theorem State.setPending_tasks (s : State) (x : List Instr) : (s.setPending x).tasks = s.tasks := rfl
@[simp] theorem State.setPending_choices (s : State) (x : List Instr) : (s.setPending x).choices = s.choices := rfl

@[simp] theorem State.setChoices_now (s : State) (x : Nat) : (s.setChoices x).now = s.now := rfl
@[simp] theorem State.setChoices_port (s : State) (x : Nat) : (s.setChoices x).port = s.port := rfl
@[simp] theorem State.setChoices_dispatch (s : State) (x : Nat) : (s.setChoices x).dispatch = s.dispatch := rfl
@[simp] theorem State.setChoices_journal (s : State) (x : Nat) : (s.setChoices x).journal = s.journal := rfl
@[simp] theorem State.setChoices_settings (s : State) (x : Nat) : (s.setChoices x).settings = s.settings := rfl
@[simp] theorem State.setChoices_sensor (s : State) (x : Nat) : (s.setChoices x).sensor = s.sensor := rfl
@[simp] theorem State.setChoices_angle (s : State) (x : Nat) : (s.setChoices x).angle = s.angle := rfl
@[simp] theorem State.setChoices_posture (s : State) (x : Nat) : (s.setChoices x).posture = s.posture := rfl
@[simp] theorem State.setChoices_link (s : State) (x : Nat) : (s.setChoices x).link = s.link := rfl
@[simp] theorem State.setChoices_attach (s : State) (x : Nat) : (s.setChoices x).attach = s.attach := rfl
@[simp] theorem State.setChoices_pen (s : State) (x : Nat) : (s.setChoices x).pen = s.pen := rfl
@[simp] theorem State.setChoices_allot (s : State) (x : Nat) : (s.setChoices x).allot = s.allot := rfl
@[simp] theorem State.setChoices_sleep (s : State) (x : Nat) : (s.setChoices x).sleep = s.sleep := rfl
@[simp] theorem State.setChoices_mem (s : State) (x : Nat) : (s.setChoices x).mem = s.mem := rfl
@[simp] theorem State.setChoices_pending (s : State) (x : Nat) : (s.setChoices x).pending = s.pending := rfl
@[simp] theorem State.setChoices_tasks (s : State) (x : Nat) : (s.setChoices x).tasks = s.tasks := rfl
@[simp] theorem State.setChoices_choices (s : State) (x : Nat) : (s.setChoices x).choices = x := rfl

@[simp] theorem State.hand_now (s : State) (ts : List Task) : (s.hand ts).now = s.now := rfl
@[simp] theorem State.handLast_now (s : State) (t : Task) : (s.handLast t).now = s.now := rfl
@[simp] theorem State.hand_port (s : State) (ts : List Task) : (s.hand ts).port = s.port := rfl
@[simp] theorem State.handLast_port (s : State) (t : Task) : (s.handLast t).port = s.port := rfl
@[simp] theorem State.hand_dispatch (s : State) (ts : List Task) : (s.hand ts).dispatch = s.dispatch := rfl
@[simp] theorem State.handLast_dispatch (s : State) (t : Task) : (s.handLast t).dispatch = s.dispatch := rfl
@[simp] theorem State.hand_journal (s : State) (ts : List Task) : (s.hand ts).journal = s.journal := rfl
@[simp] theorem State.handLast_journal (s : State) (t : Task) : (s.handLast t).journal = s.journal := rfl
@[simp] theorem State.hand_settings (s : State) (ts : List Task) : (s.hand ts).settings = s.settings := rfl
@[simp] theorem State.handLast_settings (s : State) (t : Task) : (s.handLast t).settings = s.settings := rfl
@[simp] theorem State.hand_sensor (s : State) (ts : List Task) : (s.hand ts).sensor = s.sensor := rfl
@[simp] theorem State.handLast_sensor (s : State) (t : Task) : (s.handLast t).sensor = s.sensor := rfl
@[simp] theorem State.hand_angle (s : State) (ts : List Task) : (s.hand ts).angle = s.angle := rfl
@[simp] theorem State.handLast_angle (s : State) (t : Task) : (s.handLast t).angle = s.angle := rfl
@[simp] theorem State.hand_posture (s : State) (ts : List Task) : (s.hand ts).posture = s.posture := rfl
@[simp] theorem State.handLast_posture (s : State) (t : Task) : (s.handLast t).posture = s.posture := rfl
@[simp] theorem State.hand_link (s : State) (ts : List Task) : (s.hand ts).link = s.link := rfl
@[simp] theorem State.handLast_link (s : State) (t : Task) : (s.handLast t).link = s.link := rfl
@[simp] theorem State.hand_attach (s : State) (ts : List Task) : (s.hand ts).attach = s.attach := rfl
@[simp] theorem State.handLast_attach (s : State) (t : Task) : (s.handLast t).attach = s.attach := rfl
@[simp] theorem State.hand_pen (s : State) (ts : List Task) : (s.hand ts).pen = s.pen := rfl
@[simp] theorem State.handLast_pen (s : State) (t : Task) : (s.handLast t).pen = s.pen := rfl
@[simp] theorem State.hand_allot (s : State) (ts : List Task) : (s.hand ts).allot = s.allot := rfl
@[simp] theorem State.handLast_allot (s : State) (t : Task) : (s.handLast t).allot = s.allot := rfl
@[simp] theorem State.hand_sleep (s : State) (ts : List Task) : (s.hand ts).sleep = s.sleep := rfl
@[simp] theorem State.handLast_sleep (s : State) (t : Task) : (s.handLast t).sleep = s.sleep := rfl
@[simp] theorem State.hand_mem (s : State) (ts : List Task) : (s.hand ts).mem = s.mem := rfl
@[simp] theorem State.handLast_mem (s : State) (t : Task) : (s.handLast t).mem = s.mem := rfl
@[simp] theorem State.hand_pending (s : State) (ts : List Task) : (s.hand ts).pending = s.pending := rfl
@[simp] theorem State.handLast_pending (s : State) (t : Task) : (s.handLast t).pending = s.pending := rfl
@[simp] theorem State.hand_tasks (s : State) (ts : List Task) : (s.hand ts).tasks = ts ++ s.tasks := rfl
@[simp] theorem State.handLast_tasks (s : State) (t : Task) : (s.handLast t).tasks = s.tasks ++ [t] := rfl
@[simp] theorem State.hand_choices (s : State) (ts : List Task) : (s.hand ts).choices = s.choices := rfl
@[simp] theorem State.handLast_choices (s : State) (t : Task) : (s.handLast t).choices = s.choices := rfl

@[simp] theorem State.touchBoard_port (s : State) : s.touchBoard.port = { s.port with boardTouched := true } := rfl
@[simp] theorem State.touchBoard_now (s : State) : s.touchBoard.now = s.now := rfl
@[simp] theorem State.touchBoard_dispatch (s : State) : s.touchBoard.dispatch = s.dispatch := rfl
@[simp] theorem State.touchBoard_journal (s : State) : s.touchBoard.journal = s.journal := rfl
@[simp] theorem State.touchBoard_settings (s : State) : s.touchBoard.settings = s.settings := rfl
@[simp] theorem State.touchBoard_sensor (s : State) : s.touchBoard.sensor = s.sensor := rfl
@[simp] theorem State.touchBoard_angle (s : State) : s.touchBoard.angle = s.angle := rfl
@[simp] theorem State.touchBoard_posture (s : State) : s.touchBoard.posture = s.posture := rfl
@[simp] theorem State.touchBoard_link (s : State) : s.touchBoard.link = s.link := rfl
@[simp] theorem State.touchBoard_attach (s : State) : s.touchBoard.attach = s.attach := rfl
@[simp] theorem State.touchBoard_pen (s : State) : s.touchBoard.pen = s.pen := rfl
@[simp] theorem State.touchBoard_allot (s : State) : s.touchBoard.allot = s.allot := rfl
@[simp] theorem State.touchBoard_sleep (s : State) : s.touchBoard.sleep = s.sleep := rfl
@[simp] theorem State.touchBoard_mem (s : State) : s.touchBoard.mem = s.mem := rfl
@[simp] theorem State.touchBoard_pending (s : State) : s.touchBoard.pending = s.pending := rfl
@[simp] theorem State.touchBoard_tasks (s : State) : s.touchBoard.tasks = s.tasks := rfl
@[simp] theorem State.touchBoard_choices (s : State) : s.touchBoard.choices = s.choices := rfl

end Sys2Proof.Machine
end

