-- ==== Sys2Proof/Laws/Kept.lean ====
section
/-! SUPPORT. What the hand-ons of an event leave alone. `kept` gathers the state that no hand-on but the serving of a request
changes; one lemma per operation says the operation keeps it. -/

namespace Sys2Proof.Machine

/-- A hand-on that serves no request. -/
@[simp] def Task.calm : Task → Bool
  | .serve _ _ => false
  | .linkDetect => false
  | .allotDetect => false
  | .resetSleepEnd => false
  | _ => true

/-- The parts of the units that hand-ons keep. -/
@[simp, reducible] def PortUnit.kept (u : PortUnit) :=
  (u.hrst, u.phase, u.selfCheck, u.resetKind, u.attnMask, u.capture, u.updateCount, u.boardTime)
@[simp, reducible] def Journal.kept (q : Journal) := (q.readCount, q.invalidCount)
@[simp, reducible] def SettingsUnit.kept (u : SettingsUnit) := (u.active, u.generation, u.locked, u.table)
@[simp, reducible] def SensorUnit.kept (u : SensorUnit) := (u.lidClosed, u.foldBack, u.seq, u.failRun, u.goodRun)
@[simp, reducible] def AngleUnit.kept (u : AngleUnit) := (u.side, u.accumulator, u.reported, u.correction)
@[simp, reducible] def PostureUnit.kept (u : PostureUnit) := (u.lastAngle, u.lastQuality, u.basePose, u.lock)
@[simp, reducible] def AttachUnit.kept (u : AttachUnit) := (u.detect, u.wish)
@[simp, reducible] def PenUnit.kept (u : PenUnit) :=
  (u.penIn, u.identity, u.soc, u.temperature, u.retries, u.response, u.poll, u.mode, u.table)
@[simp, reducible] def AllotUnit.kept (u : AllotUnit) := (u.source, u.voltageLow, u.lockout)
@[simp, reducible] def SleepUnit.kept (u : SleepUnit) := (u.host, u.wakeMask, u.standbyAllowed, u.holdAwake, u.button)

/-- What every hand-on but the serving of a request leaves alone, with whether such a one waits. -/
def State.kept (s : State) :=
  (s.now, s.pending, s.choices, s.port.kept, s.dispatch.queue,
   (s.journalOf 0).kept, (s.journalOf 1).kept, (s.journalOf 2).kept,
   s.settings.kept, s.sensor.kept, s.angle.kept, s.posture.kept, s.attach.kept, s.pen.kept, s.allot.kept,
   s.sleep.kept, s.tasks.all Task.calm)

@[simp] theorem kept_updPort (s : State) (f) (h : (f s.port).kept = s.port.kept) : (s.updPort f).kept = s.kept := by
  simp only [State.kept, State.updPort, State.journalOf, h]
@[simp] theorem kept_updDispatch (s : State) (f) (h : (f s.dispatch).queue = s.dispatch.queue) :
    (s.updDispatch f).kept = s.kept := by
  simp only [State.kept, State.updDispatch, State.journalOf, h]
@[simp] theorem kept_updSettings (s : State) (f) (h : (f s.settings).kept = s.settings.kept) :
    (s.updSettings f).kept = s.kept := by
  simp only [State.kept, State.updSettings, State.journalOf, h]
@[simp] theorem kept_updSensor (s : State) (f) (h : (f s.sensor).kept = s.sensor.kept) :
    (s.updSensor f).kept = s.kept := by
  simp only [State.kept, State.updSensor, State.journalOf, h]
@[simp] theorem kept_updAngle (s : State) (f) (h : (f s.angle).kept = s.angle.kept) :
    (s.updAngle f).kept = s.kept := by
  simp only [State.kept, State.updAngle, State.journalOf, h]
@[simp] theorem kept_updPosture (s : State) (f) (h : (f s.posture).kept = s.posture.kept) :
    (s.updPosture f).kept = s.kept := by
  simp only [State.kept, State.updPosture, State.journalOf, h]
@[simp] theorem kept_updLink (s : State) (f) : (s.updLink f).kept = s.kept := rfl
@[simp] theorem kept_updAttach (s : State) (f) (h : (f s.attach).kept = s.attach.kept) :
    (s.updAttach f).kept = s.kept := by
  simp only [State.kept, State.updAttach, State.journalOf, h]
@[simp] theorem kept_updPen (s : State) (f) (h : (f s.pen).kept = s.pen.kept) : (s.updPen f).kept = s.kept := by
  simp only [State.kept, State.updPen, State.journalOf, h]
@[simp] theorem kept_updAllot (s : State) (f) (h : (f s.allot).kept = s.allot.kept) :
    (s.updAllot f).kept = s.kept := by
  simp only [State.kept, State.updAllot, State.journalOf, h]
@[simp] theorem kept_updSleep (s : State) (f) (h : (f s.sleep).kept = s.sleep.kept) :
    (s.updSleep f).kept = s.kept := by
  simp only [State.kept, State.updSleep, State.journalOf, h]
@[simp] theorem kept_setMem (s : State) (m) : (s.setMem m).kept = s.kept := rfl
@[simp] theorem kept_hand (s : State) (ts) (h : ts.all Task.calm = true) : (s.hand ts).kept = s.kept := by
  simp only [State.kept, State.hand, State.setTasks, State.journalOf, List.all_append, h, Bool.true_and]
@[simp] theorem kept_handLast (s : State) (t) (h : t.calm = true) : (s.handLast t).kept = s.kept := by
  simp only [State.kept, State.handLast, State.setTasks, State.journalOf, List.all_append, List.all_cons, List.all_nil, h, Bool.and_true]
@[simp] theorem kept_updJournalUnit (s : State) (f) (h : ∀ j : Fin 3, (f s.journal).journals[j] = s.journal.journals[j]) :
    (s.updJournal f).kept = s.kept := by
  have h0 := h 0; have h1 := h 1; have h2 := h 2
  simp only [State.kept, State.updJournal, State.journalOf, h0, h1, h2]
@[simp] theorem kept_updJournalOf (s : State) (j : Fin 3) (f) (h : (f (s.journalOf j)).kept = (s.journalOf j).kept) :
    (s.updJournalOf j f).kept = s.kept := by
  have key : ∀ k : Fin 3, ((s.updJournalOf j f).journalOf k).kept = (s.journalOf k).kept := by
    intro k
    simp only [State.journalOf, State.updJournalOf, State.updJournal] at h ⊢
    by_cases hk : j = k
    · subst hk; simpa using h
    · have : (j : Nat) ≠ (k : Nat) := fun e => hk (Fin.ext e)
      simp [this]
  have h0 := key 0; have h1 := key 1; have h2 := key 2
  simp only [State.kept] at *
  rw [h0, h1, h2]; rfl

/-! The lists of hand-ons the operations build are calm. -/

@[simp] theorem calm_grantTasks (a b : Allotments) : (grantTasks a b).all Task.calm = true := by
  unfold grantTasks
  repeat' split
  all_goals rfl
@[simp] theorem calm_attachReaders (a b : AttachState) : (attachReaders a b).all Task.calm = true := by
  unfold attachReaders; split <;> rfl
@[simp] theorem calm_powerReaders (b : PowerState) (c : Nat) : (powerReaders b c).all Task.calm = true := by
  unfold powerReaders; split <;> rfl
@[simp] theorem calm_finishTasks (r : Option (Fin 32)) (c : ResultCode) (d : Nat) (w : List Word) :
    (finishTasks r c d w).all Task.calm = true := by
  unfold finishTasks; split <;> rfl

@[simp] theorem Journal.refresh_readCount (j : Fin 3) (q : Journal) : (Journal.refresh j q).readCount = q.readCount := rfl
@[simp] theorem Journal.refresh_invalidCount (j : Fin 3) (q : Journal) :
    (Journal.refresh j q).invalidCount = q.invalidCount := rfl
@[simp] theorem kept_ite (c : Prop) [Decidable c] (a b : State) :
    (if c then a else b).kept = if c then a.kept else b.kept := apply_ite _ _ _ _

@[simp] theorem kept_touchBoard (s : State) : (s.touchBoard).kept = s.kept := rfl
@[simp] theorem kept_touchWhen (s : State) (c : Prop) [Decidable c] : (s.touchWhen c).kept = s.kept := by
  unfold State.touchWhen; split <;> rfl
@[simp] theorem kept_latch (s : State) (c : Cause) : (s.latch c).kept = s.kept := by
  unfold State.latch
  repeat' split
  all_goals first | rfl | simp
@[simp] theorem kept_setGap (s : State) (n : Nat) : (s.setGap n).kept = s.kept := rfl
@[simp] theorem kept_countDrop (s : State) (j : Fin 3) : (s.countDrop j).kept = s.kept := by
  unfold State.countDrop
  repeat' split
  all_goals first | rfl | simp
@[simp] theorem kept_writeRecord (s : State) (j : Fin 3) (b : List Byte) : (s.writeRecord j b).kept = s.kept := by
  have h (m : Memory) :
      ((s.setMem m).updJournalOf j fun q => Journal.refresh j { q with writeCount := q.writeCount + 1 }).kept = s.kept :=
    kept_updJournalOf (s.setMem m) j _ rfl
  simp only [State.writeRecord]
  repeat' split
  all_goals first | rfl | exact h _ | exact (kept_latch _ _).trans (h _)
@[simp] theorem kept_writeNotice (s : State) (k : NoticeKind) (c o n a : Nat) :
    (s.writeNotice k c o n a).kept = s.kept := by
  unfold State.writeNotice
  repeat' split
  all_goals first | rfl | simp
@[simp] theorem kept_writeGap (s : State) : (s.writeGap).kept = s.kept := by
  unfold State.writeGap
  repeat' split
  all_goals first | rfl | simp
@[simp] theorem kept_offerNotice (s : State) (k : NoticeKind) (c o n a : Nat) :
    (s.offerNotice k c o n a).kept = s.kept := by
  unfold State.offerNotice
  repeat' split
  all_goals first | rfl | simp
@[simp] theorem kept_writeInput (s : State) (k : InputKind) (c dx dy : Byte) (t : PartTime) :
    (s.writeInput k c dx dy t).kept = s.kept := by
  unfold State.writeInput
  repeat' split
  all_goals first | rfl | simp
@[simp] theorem kept_setFault (s : State) (k : FaultKind) (e : FaultEntry) : (s.setFault k e).kept = s.kept := by
  unfold State.setFault
  repeat' split
  all_goals first | rfl | simp
@[simp] theorem kept_reportActive (s : State) (k : FaultKind) : (s.reportActive k).kept = s.kept := by
  unfold State.reportActive
  repeat' split
  all_goals first | rfl | simp
@[simp] theorem kept_reportInactive (s : State) (k : FaultKind) : (s.reportInactive k).kept = s.kept := by
  unfold State.reportInactive
  repeat' split
  all_goals first | rfl | simp
@[simp] theorem kept_setSlot (s : State) (n : Fin 32) (st : SlotState) : (s.setSlot n st).kept = s.kept := by
  unfold State.setSlot
  repeat' split
  all_goals first | rfl | simp
@[simp] theorem kept_setServing (s : State) (u : ServingUnit) (n : Option (Fin 32)) :
    (s.setServing u n).kept = s.kept := by
  unfold State.setServing
  repeat' split
  all_goals first | rfl | simp
@[simp] theorem kept_writeResult (s : State) (n : Fin 32) (c : ResultCode) (d : Nat) (w : List Word) :
    (s.writeResult n c d w).kept = s.kept := by
  unfold State.writeResult
  repeat' split
  all_goals first | rfl | simp
@[simp] theorem kept_finishSlot (s : State) (n : Fin 32) (c : ResultCode) (d : Nat) (w : List Word) :
    (s.finishSlot n c d w).kept = s.kept := by
  unfold State.finishSlot
  repeat' split
  all_goals first | rfl | simp
@[simp] theorem kept_finishUnit (s : State) (u : ServingUnit) (c : ResultCode) (d : Nat) (w : List Word) :
    (s.finishUnit u c d w).kept = s.kept := by
  unfold State.finishUnit
  split
  · rfl
  · rw [kept_handLast _ _ rfl, kept_setServing, kept_finishSlot]
@[simp] theorem kept_cancelSlot (s : State) (u : ServingUnit) (n : Fin 32) : (s.cancelSlot u n).kept = s.kept := by
  simp only [State.cancelSlot]
  rw [kept_handLast _ _ rfl, kept_setServing, kept_setSlot, kept_setMem]
@[simp] theorem kept_startPeriod (s : State) : (s.startPeriod).kept = s.kept := by
  unfold State.startPeriod
  repeat' split
  all_goals first | rfl | simp
@[simp] theorem kept_sensorPower (s : State) (b : PowerState) : (s.sensorPower b).kept = s.kept := by
  unfold State.sensorPower
  repeat' split
  all_goals first | rfl | simp
@[simp] theorem kept_sensorAttach (s : State) : (s.sensorAttach).kept = s.kept := by
  unfold State.sensorAttach
  repeat' split
  all_goals first | rfl | simp
@[simp] theorem kept_holdBaseSample (s : State) (x y z : Half) : (s.holdBaseSample x y z).kept = s.kept := by
  unfold State.holdBaseSample
  repeat' split
  all_goals first | rfl | simp
@[simp] theorem kept_setCalibration (s : State) (c : Option Calibration) : (s.setCalibration c).kept = s.kept := by
  unfold State.setCalibration
  repeat' split
  all_goals first | rfl | simp
@[simp] theorem kept_failCalibration (s : State) (d : Nat) : (s.failCalibration d).kept = s.kept := by
  unfold State.failCalibration
  repeat' split
  all_goals first | rfl | simp
@[simp] theorem kept_angleDetached (s : State) : (s.angleDetached).kept = s.kept := by
  unfold State.angleDetached
  repeat' split
  all_goals first | rfl | simp
@[simp] theorem kept_angleStandby (s : State) : (s.angleStandby).kept = s.kept := by
  unfold State.angleStandby
  repeat' split
  all_goals first | rfl | simp
@[simp] theorem kept_commitOrientation (s : State) (o : Orientation) (c : Nat) :
    (s.commitOrientation o c).kept = s.kept := by
  simp only [State.commitOrientation]
  split
  · simp
  · simp; rfl
@[simp] theorem kept_compareOrientation (s : State) : (s.compareOrientation).kept = s.kept := by
  unfold State.compareOrientation
  repeat' split
  all_goals first | rfl | simp
@[simp] theorem kept_gateRotation (s : State) : (s.gateRotation).kept = s.kept := by
  unfold State.gateRotation
  repeat' split
  all_goals first | rfl | simp
@[simp] theorem kept_commitPosture (s : State) (p : Posture) (b : Option Nat) (c : Nat) :
    (s.commitPosture p b c).kept = s.kept := by
  unfold State.commitPosture
  repeat' split
  all_goals first | rfl | simp
@[simp] theorem kept_reportPosture (s : State) (b : Posture) (c : Nat) : (s.reportPosture b c).kept = s.kept := by
  unfold State.reportPosture
  repeat' split
  all_goals first | rfl | simp
@[simp] theorem kept_commitDetached (s : State) : (s.commitDetached).kept = s.kept := by
  unfold State.commitDetached
  repeat' split
  all_goals first | rfl | simp
@[simp] theorem kept_freshEvaluation (s : State) (c : Nat) : (s.freshEvaluation c).kept = s.kept := by
  simp only [State.freshEvaluation]
  repeat' split
  all_goals first | rfl | simp
@[simp] theorem kept_evaluateOrientation (s : State) (set : SampleSet) :
    (s.evaluateOrientation set).kept = s.kept := by
  simp only [State.evaluateOrientation]
  repeat' split
  all_goals first | rfl | simp
@[simp] theorem kept_posturePower (s : State) : (s.posturePower).kept = s.kept := by
  unfold State.posturePower
  repeat' split
  all_goals first | rfl | simp
@[simp] theorem kept_finishLock (s : State) (w : Word) : (s.finishLock w).kept = s.kept := by
  unfold State.finishLock
  repeat' split
  all_goals first | rfl | simp
@[simp] theorem kept_finishLoad (s : State) (n : Nat) : (s.finishLoad n).kept = s.kept := by
  unfold State.finishLoad
  repeat' split
  all_goals first | rfl | simp
@[simp] theorem kept_watchVbase (s t : State) : (s.watchVbase t).kept = t.kept := by
  unfold State.watchVbase
  repeat' split
  all_goals simp
@[simp] theorem kept_setHoldOff (s : State) (b : Bool) : (s.setHoldOff b).kept = s.kept := by
  unfold State.setHoldOff
  repeat' split
  all_goals first | rfl | simp
@[simp] theorem kept_sendNext (s : State) : (s.sendNext).kept = s.kept := rfl
@[simp] theorem kept_offerPacket (s : State) (p : PartPacket) : (s.offerPacket p).kept = s.kept := by
  unfold State.offerPacket
  repeat' split
  all_goals first | rfl | simp
@[simp] theorem kept_offerRate (s : State) : (s.offerRate).kept = s.kept := by
  unfold State.offerRate
  repeat' split
  all_goals first | rfl | simp
@[simp] theorem kept_setReceiveQueue (s : State) (q : List Received) : (s.setReceiveQueue q).kept = s.kept := by
  unfold State.setReceiveQueue
  repeat' split
  all_goals first | rfl | simp
@[simp] theorem kept_takeDown (s : State) : (s.takeDown).kept = s.kept := by
  unfold State.takeDown
  repeat' split
  all_goals first | rfl | simp
@[simp] theorem kept_enterLink (s : State) (l : LinkState) (c : Nat) : (s.enterLink l c).kept = s.kept := by
  unfold State.enterLink
  repeat' split
  all_goals first | rfl | simp
@[simp] theorem kept_setLinkTimer (s : State) (k : LinkTimerKind) (ms : Nat) :
    (s.setLinkTimer k ms).kept = s.kept := by
  unfold State.setLinkTimer
  repeat' split
  all_goals first | rfl | simp
@[simp] theorem kept_enterPowering (s : State) : (s.enterPowering).kept = s.kept := by
  unfold State.enterPowering
  repeat' split
  all_goals first | rfl | simp
@[simp] theorem kept_enterGreeting (s : State) (c : Nat) : (s.enterGreeting c).kept = s.kept := by
  unfold State.enterGreeting
  repeat' split
  all_goals first | rfl | simp
@[simp] theorem kept_enterReady (s : State) : (s.enterReady).kept = s.kept := by
  unfold State.enterReady
  repeat' split
  all_goals first | rfl | simp
@[simp] theorem kept_enterFaulted (s : State) (c : Nat) : (s.enterFaulted c).kept = s.kept := by
  unfold State.enterFaulted
  repeat' split
  all_goals first | rfl | simp
@[simp] theorem kept_enterUnpowered (s : State) (c : Nat) : (s.enterUnpowered c).kept = s.kept := by
  unfold State.enterUnpowered
  repeat' split
  all_goals first | rfl | simp
@[simp] theorem kept_linkGrant (s : State) : (s.linkGrant).kept = s.kept := by
  unfold State.linkGrant
  repeat' split
  all_goals first | rfl | simp
@[simp] theorem kept_followGate (s : State) : (s.followGate).kept = s.kept := by
  unfold State.followGate
  repeat' split
  all_goals first | rfl | simp
@[simp] theorem kept_closeGate (s : State) : (s.closeGate).kept = s.kept := by
  unfold State.closeGate
  repeat' split
  all_goals first | rfl | simp
@[simp] theorem kept_publishFlags (s : State) : (s.publishFlags).kept = s.kept := by
  unfold State.publishFlags
  repeat' split
  all_goals first | rfl | simp
@[simp] theorem kept_askResume (s : State) : (s.askResume).kept = s.kept := by
  unfold State.askResume
  repeat' split
  all_goals first | rfl | simp
@[simp] theorem kept_quiesceLink (s : State) : (s.quiesceLink).kept = s.kept := by
  unfold State.quiesceLink
  repeat' split
  all_goals first | rfl | simp
@[simp] theorem kept_deliver (s : State) (k : InputKind) (c dx dy : Byte) (t : PartTime) (w : List Task)
    (h : w.all Task.calm = true) : (s.deliver k c dx dy t w).kept = s.kept := by
  unfold State.deliver
  rw [kept_hand _ _ (by simpa using h)]
  simp
@[simp] theorem kept_countDroppedKey (s : State) : (s.countDroppedKey).kept = s.kept := by
  unfold State.countDroppedKey
  repeat' split
  all_goals first | rfl | simp
@[simp] theorem kept_servePress (s : State) (c : Byte) (t : PartTime) : (s.servePress c t).kept = s.kept := by
  unfold State.servePress
  repeat' split
  all_goals first | rfl | simp
@[simp] theorem kept_serveRelease (s : State) (c : Byte) (t : PartTime) : (s.serveRelease c t).kept = s.kept := by
  unfold State.serveRelease
  split
  · rw [kept_deliver _ _ _ _ _ _ _ rfl, kept_updLink]
  · rfl
@[simp] theorem kept_servePointer (s : State) (dx dy : Byte) (b : BitVec 3) (t : PartTime) :
    (s.servePointer dx dy b t).kept = s.kept := by
  unfold State.servePointer
  repeat' split
  all_goals first | rfl | simp
@[simp] theorem kept_offerWelcome (s : State) : (s.offerWelcome).kept = s.kept := kept_offerPacket s _
@[simp] theorem kept_greetHello (s : State) (v c : Byte) : (s.greetHello v c).kept = s.kept := by
  unfold State.greetHello
  repeat' split
  all_goals first | rfl | simp
@[simp] theorem kept_greetPacket (s : State) (p : BasePacket) : (s.greetPacket p).kept = s.kept := by
  unfold State.greetPacket
  repeat' split
  all_goals first | rfl | simp
@[simp] theorem kept_rehello (s : State) (r : Received) (v : Byte) : (s.rehello r v).kept = s.kept := by
  unfold State.rehello
  repeat' split
  all_goals first | rfl | simp
@[simp] theorem kept_serveStatus (s : State) (l f : Byte) : (s.serveStatus l f).kept = s.kept := by
  unfold State.serveStatus
  repeat' split
  all_goals first | rfl | simp
@[simp] theorem kept_serveAck (s : State) (k : Byte) : (s.serveAck k).kept = s.kept := by
  unfold State.serveAck
  repeat' split
  all_goals first | rfl | simp
@[simp] theorem kept_servePacket (s : State) (r : Received) : (s.servePacket r).kept = s.kept := by
  unfold State.servePacket
  repeat' split
  all_goals first | rfl | simp
@[simp] theorem kept_writeOwed (s : State) : (s.writeOwed).kept = s.kept := by
  unfold State.writeOwed
  repeat' split
  all_goals first | rfl | simp
@[simp] theorem kept_serveReceiveQueue (s : State) : (s.serveReceiveQueue).kept = s.kept := by
  unfold State.serveReceiveQueue
  repeat' split
  all_goals first | rfl | simp
@[simp] theorem kept_touchGrants (s : State) (g : Allotments) : (s.touchGrants g).kept = s.kept :=
  kept_touchWhen _ _
@[simp] theorem kept_recompute (s : State) : (s.recompute).kept = s.kept := by
  unfold State.recompute
  repeat' split
  all_goals first | rfl | simp
@[simp] theorem kept_settleIncreases (s : State) : (s.settleIncreases).kept = s.kept := by
  unfold State.settleIncreases
  repeat' split
  all_goals first | rfl | simp
@[simp] theorem kept_confirmDecrease (s : State) (c : Awaited) : (s.confirmDecrease c).kept = s.kept := by
  unfold State.confirmDecrease
  repeat' split
  all_goals first | rfl | simp
@[simp] theorem kept_ackLight (s : State) : (s.ackLight).kept = s.kept := by
  unfold State.ackLight
  repeat' split
  all_goals first | rfl | simp
@[simp] theorem kept_selectBudget (s : State) (c : Nat) : (s.selectBudget c).kept = s.kept := by
  unfold State.selectBudget
  repeat' split
  all_goals first | rfl | simp
@[simp] theorem kept_setDemand (s : State) (f : Allotments → Allotments) : (s.setDemand f).kept = s.kept := rfl
@[simp] theorem kept_coilDemand (s : State) (b : Bool) : (s.coilDemand b).kept = s.kept := by
  unfold State.coilDemand
  repeat' split
  all_goals first | rfl | simp
@[simp] theorem kept_penDemand (s : State) (d : Nat) : (s.penDemand d).kept = s.kept := by
  simp only [State.penDemand]
  repeat' split
  all_goals first | rfl | simp
@[simp] theorem kept_stateBacklight (s : State) : (s.stateBacklight).kept = s.kept := by
  unfold State.stateBacklight
  repeat' split
  all_goals first | rfl | simp
@[simp] theorem kept_reviewBase (s : State) : (s.reviewBase).kept = s.kept := by
  unfold State.reviewBase
  repeat' split
  all_goals first | rfl | simp
@[simp] theorem kept_baseFaultedOff (s : State) : (s.baseFaultedOff).kept = s.kept := by
  unfold State.baseFaultedOff
  repeat' split
  all_goals first | rfl | simp
@[simp] theorem kept_backlightGrant (s : State) : (s.backlightGrant).kept = s.kept := by
  unfold State.backlightGrant
  repeat' split
  all_goals first | rfl | simp
@[simp] theorem kept_finishBacklight (s : State) : (s.finishBacklight).kept = s.kept := by
  unfold State.finishBacklight
  repeat' split
  all_goals first | rfl | simp
@[simp] theorem kept_finishSource (s : State) (b : PowerSource) : (s.finishSource b).kept = s.kept := by
  unfold State.finishSource
  repeat' split
  all_goals first | rfl | simp
@[simp] theorem kept_setAttach (s : State) (a : AttachState) (c : Nat) : (s.setAttach a c).kept = s.kept := by
  simp only [State.setAttach]
  repeat' split
  all_goals first | rfl | simp
@[simp] theorem kept_awaitRemoval (s : State) : (s.awaitRemoval).kept = s.kept := by
  unfold State.awaitRemoval
  repeat' split
  all_goals first | rfl | simp
@[simp] theorem kept_sleepAttach (s : State) (b a : AttachState) : (s.sleepAttach b a).kept = s.kept := by
  unfold State.sleepAttach
  repeat' split
  all_goals first | rfl | simp
@[simp] theorem kept_coilOff (s : State) : (s.coilOff).kept = s.kept := by
  unfold State.coilOff
  repeat' split
  all_goals first | rfl | simp
@[simp] theorem kept_clearRelease (s : State) : (s.clearRelease).kept = s.kept := by
  unfold State.clearRelease
  repeat' split
  all_goals first | rfl | simp
@[simp] theorem kept_endRelease (s : State) (d : Nat) (w : Option Nat) : (s.endRelease d w).kept = s.kept := by
  unfold State.endRelease
  repeat' split
  all_goals first | rfl | simp
@[simp] theorem kept_returnToRest (s : State) (c : Nat) : (s.returnToRest c).kept = s.kept := by
  unfold State.returnToRest
  repeat' split
  all_goals first | rfl | simp
@[simp] theorem kept_refuseClaim (s : State) (c : Claim) (r : ResultCode) (d w : Nat) :
    (s.refuseClaim c r d w).kept = s.kept := by
  unfold State.refuseClaim
  repeat' split
  all_goals first | rfl | simp
@[simp] theorem kept_acceptClaim (s : State) (c : Claim) : (s.acceptClaim c).kept = s.kept := by
  unfold State.acceptClaim
  repeat' split
  all_goals first | rfl | simp
@[simp] theorem kept_detachClaim (s : State) (c : Claim) : (s.detachClaim c).kept = s.kept := by
  unfold State.detachClaim
  repeat' split
  all_goals first | rfl | simp
@[simp] theorem kept_enterClaiming (s : State) : (s.enterClaiming).kept = s.kept := by
  unfold State.enterClaiming
  repeat' split
  all_goals first | rfl | simp
@[simp] theorem kept_askQuiesce (s : State) : (s.askQuiesce).kept = s.kept := by
  unfold State.askQuiesce
  repeat' split
  all_goals first | rfl | simp
@[simp] theorem kept_enterPulse (s : State) : (s.enterPulse).kept = s.kept := by
  unfold State.enterPulse
  repeat' split
  all_goals first | rfl | simp
@[simp] theorem kept_coilAnswer (s : State) : (s.coilAnswer).kept = s.kept := by
  unfold State.coilAnswer
  repeat' split
  all_goals first | rfl | simp
@[simp] theorem kept_attachLink (s : State) : (s.attachLink).kept = s.kept := by
  unfold State.attachLink
  repeat' split
  all_goals first | rfl | simp
@[simp] theorem kept_ackQuiesce (s : State) : (s.ackQuiesce).kept = s.kept := by
  unfold State.ackQuiesce
  repeat' split
  all_goals first | rfl | simp
@[simp] theorem kept_setPenState (s : State) (a : PenState) (c : Nat) : (s.setPenState a c).kept = s.kept := by
  unfold State.setPenState
  repeat' split
  all_goals first | rfl | simp
@[simp] theorem kept_setCoilPower (s : State) (p : Nat) : (s.setCoilPower p).kept = s.kept := by
  unfold State.setCoilPower
  repeat' split
  all_goals first | rfl | simp
@[simp] theorem kept_penGrant (s : State) : (s.penGrant).kept = s.kept := by
  unfold State.penGrant
  repeat' split
  all_goals first | rfl | simp
@[simp] theorem kept_penDecide (s : State) : (s.penDecide).kept = s.kept := by
  unfold State.penDecide
  repeat' split
  all_goals first | rfl | simp
@[simp] theorem kept_finishMode (s : State) (m : Nat) : (s.finishMode m).kept = s.kept := by
  unfold State.finishMode
  repeat' split
  all_goals first | rfl | simp
@[simp] theorem kept_advise (s : State) (a : Advice) (c : Nat) : (s.advise a c).kept = s.kept := by
  unfold State.advise
  repeat' split
  all_goals first | rfl | simp
@[simp] theorem kept_setIdle (s : State) (i : IdleTimer) (w : Word) : (s.setIdle i w).kept = s.kept := by
  unfold State.setIdle
  repeat' split
  all_goals first | rfl | simp
@[simp] theorem kept_restartIdle (s : State) : (s.restartIdle).kept = s.kept := by
  unfold State.restartIdle
  repeat' split
  all_goals first | rfl | simp
@[simp] theorem kept_activity (s : State) : (s.activity).kept = s.kept := by
  unfold State.activity
  repeat' split
  all_goals first | rfl | simp
@[simp] theorem kept_sleepRefresh (s : State) : (s.sleepRefresh).kept = s.kept := by
  unfold State.sleepRefresh
  repeat' split
  all_goals first | rfl | simp
@[simp] theorem kept_graceExpired (s : State) : (s.graceExpired).kept = s.kept := by
  unfold State.graceExpired
  repeat' split
  all_goals first | rfl | simp
@[simp] theorem kept_startGrace (s : State) : (s.startGrace).kept = s.kept := by
  unfold State.startGrace
  repeat' split
  all_goals first | rfl | simp
@[simp] theorem kept_graceCommit (s : State) (b : Posture) : (s.graceCommit b).kept = s.kept := by
  simp only [State.graceCommit]
  repeat' split
  all_goals first | rfl | simp
@[simp] theorem kept_sleepCommit (s : State) (b : Posture) : (s.sleepCommit b).kept = s.kept := by
  simp only [State.sleepCommit]
  split <;> simp
@[simp] theorem kept_setPower (s : State) (a : PowerState) (c : Nat) : (s.setPower a c).kept = s.kept := by
  simp only [State.setPower]
  split
  · rfl
  · simp; rfl
@[simp] theorem kept_reportPower (s : State) (b : PowerState) (c : Nat) : (s.reportPower b c).kept = s.kept := by
  unfold State.reportPower
  repeat' split
  all_goals first | rfl | simp
@[simp] theorem kept_withdrawBase (s : State) : (s.withdrawBase).kept = s.kept := by
  unfold State.withdrawBase
  repeat' split
  all_goals first | rfl | simp
@[simp] theorem kept_anglePower (s : State) : (s.anglePower).kept = s.kept := by
  unfold State.anglePower
  repeat' split
  all_goals first | rfl | simp
@[simp] theorem kept_stopWake (s : State) : (s.stopWake).kept = s.kept := by
  unfold State.stopWake
  repeat' split
  all_goals first | rfl | simp
@[simp] theorem kept_startDozeTimer (s : State) : (s.startDozeTimer).kept = s.kept := by
  unfold State.startDozeTimer
  repeat' split
  all_goals first | rfl | simp
@[simp] theorem kept_resumeHost (s : State) (w : Bool) : (s.resumeHost w).kept = s.kept := by
  unfold State.resumeHost
  repeat' split
  all_goals first | rfl | simp
@[simp] theorem kept_assertWake (s : State) (n : Nat) : (s.assertWake n).kept = s.kept := by
  unfold State.assertWake
  repeat' split
  all_goals first | rfl | simp
@[simp] theorem kept_wakeEvent (s : State) (w : WakeSource) : (s.wakeEvent w).kept = s.kept := by
  simp only [State.wakeEvent]
  repeat' split
  all_goals first | rfl | simp

/-- What `kept` says of the hand-ons that wait and of the post queue. -/
theorem kept_waiting {s t : State} (h : s.kept = t.kept) :
    s.tasks.all Task.calm = t.tasks.all Task.calm ∧ s.dispatch.queue = t.dispatch.queue := by
  simp only [State.kept, Prod.mk.injEq] at h
  exact ⟨h.2.2.2.2.2.2.2.2.2.2.2.2.2.2.2.2, h.2.2.2.2.1⟩

theorem kept_setTasks (s : State) (ts : List Task) (h : s.tasks.all Task.calm = ts.all Task.calm) :
    (s.setTasks ts).kept = s.kept := by
  simp only [State.kept, State.setTasks, State.journalOf, h]

/-- With no slot waiting, the dispatcher takes none. -/
theorem considerQueue_idle (s : State) (h : s.dispatch.queue = []) : s.considerQueue = s := by
  simp [State.considerQueue, h]

/-- One hand-on that serves no request, with an empty post queue. -/
theorem kept_doTask (t : Task) (s : State) (ht : t.calm = true) (hq : s.dispatch.queue = []) :
    (doTask t s).kept = s.kept := by
  cases t with
  | serve n r => cases ht
  | linkDetect => cases ht
  | allotDetect => cases ht
  | resetSleepEnd => cases ht
  | considerQueue => exact congrArg State.kept (considerQueue_idle s hq)
  | _ => simp [doTask]

/-- All hand-ons of an event, when they are calm and the post queue is empty. -/
theorem kept_runTasks (n : Nat) (s : State) (ht : s.tasks.all Task.calm = true) (hq : s.dispatch.queue = []) :
    (runTasks n s).kept = s.kept := by
  induction n generalizing s with
  | zero => rfl
  | succ n ih =>
    unfold runTasks
    split
    · rfl
    · rename_i t rest hs
      have hs' := ht
      rw [hs, List.all_cons, Bool.and_eq_true] at hs'
      have h₁ : (s.setTasks rest).kept = s.kept := kept_setTasks s rest (by rw [ht, hs'.2])
      have h₂ := (kept_doTask t (s.setTasks rest) hs'.1 hq).trans h₁
      obtain ⟨w₁, w₂⟩ := kept_waiting h₂
      exact (ih _ (w₁.trans ht) (w₂.trans hq)).trans h₂

end Sys2Proof.Machine
end

