-- ==== Sys2Proof/Laws/Cascade.lean ====
section
/-! SUPPORT. How the hand-ons of an event are carried: one at a time, front first; and what an event is when it hands
nothing on. -/

namespace Sys2Proof.Machine

/-- Nothing waits: the event is over. -/
theorem runTasks_done (n : Nat) (s : State) (h : s.tasks = []) : runTasks n s = s := by
  cases n with
  | zero => rfl
  | succ n => unfold runTasks; rw [h]

/-- The front hand-on is carried first. -/
theorem runTasks_front (n : Nat) (s : State) (t : Task) (rest : List Task) (h : s.tasks = t :: rest) (hn : 0 < n) :
    runTasks n s = runTasks (n - 1) (doTask t (s.setTasks rest)) := by
  cases n with
  | zero => cases hn
  | succ n => conv => lhs; unfold runTasks; rw [h]
              rfl

/-- What every hand-on keeps, and setting the hand-ons keeps, a whole event keeps. -/
theorem runTasks_invariant (P : State → Prop) (hset : ∀ s ts, P s → P (s.setTasks ts))
    (hstep : ∀ t s, P s → P (doTask t s)) (n : Nat) (s : State) (h : P s) : P (runTasks n s) := by
  induction n generalizing s with
  | zero => exact h
  | succ n ih =>
    unfold runTasks
    split
    · exact h
    · exact ih _ (hstep _ _ (hset _ _ h))

/-- Between events nothing waits and no board field is marked rewritten; the event opens on the state itself. -/
theorem openEvent_self (s : State) (ht : s.tasks = []) (hb : s.port.boardTouched = false) : s.openEvent = s := by
  cases s with
  | mk now port _ _ _ _ _ _ _ _ _ _ _ _ _ tasks _ =>
    cases port
    simp only at ht hb
    subst ht; subst hb
    rfl

/-- An event that hands nothing on: what is done at its unit, and the bracket. -/
theorem event_alone (s : State) (f : State → State) (ht : s.tasks = []) (hb : s.port.boardTouched = false)
    (hf : (f s).tasks = []) : s.event f = (f s).closeBoard s := by
  unfold State.event
  rw [openEvent_self s ht hb, runTasks_done _ _ hf]
  congr 1
  cases h : f s
  rw [h] at hf
  simp only at hf
  subst hf
  rfl

/-- The bracket touches the update count, the time of the board and its mark, and nothing else. -/
theorem closeBoard_frame (s before : State) :
    s.closeBoard before =
      { s with port := { s.port with updateCount := (s.closeBoard before).port.updateCount
                                     boardTime := (s.closeBoard before).port.boardTime
                                     boardTouched := (s.closeBoard before).port.boardTouched } } := by
  unfold State.closeBoard
  split <;> rfl

/-- A board that shows what it showed, unmarked, opens no bracket. -/
theorem closeBoard_same (s before : State) (hb : s.port.boardTouched = false) (h : s.boardWords = before.boardWords) :
    s.closeBoard before = s := by
  simp [State.closeBoard, hb, h]

/-- At an expiry only part time moves before the unit acts. -/
theorem reach_frame (s : State) (e : PartTime) : s.reach e = s.setNow (s.reach e).now := by
  unfold State.reach; split <;> rfl

end Sys2Proof.Machine
end

