-- ==== Sys2Proof/Laws/Attach.lean ====
section
/-! SUPPORT. What the attachment unit's operations do to its state: the resting state by the DETECT level, and that each
change of attachment state leaves it DETACHED exactly while DETECT is absent. -/

namespace Sys2Proof.Machine

/-- A board mark set when a condition holds, and nothing else. -/
theorem touchWhen_eq (s : State) (c : Prop) [Decidable c] :
    s.touchWhen c = { s with port := { s.port with boardTouched := s.port.boardTouched || decide c } } := by
  unfold State.touchWhen
  split <;> rename_i h
  · simp [State.touchBoard, State.updPort, h]
  · simp [h]

/-- The resting state is DETACHED exactly while DETECT is absent (R127). -/
theorem resting_detached (s : State) : s.resting = .detached ↔ s.attach.detect.level = false := by
  cases hd : s.attach.detect.level <;> cases hl : s.link.state <;> simp [State.resting, restingState, hd, hl]

/-- A record offered to a journal touches exchange memory, the port unit and the journal unit (R16, R21). -/
theorem writeRecord_frame (s : State) (j : Fin 3) (b : List Byte) :
    s.writeRecord j b = { s with mem := (s.writeRecord j b).mem, port := (s.writeRecord j b).port
                                 journal := (s.writeRecord j b).journal } := by
  unfold State.writeRecord
  split
  · dsimp only
    split <;> rfl
  · rfl

/-- A notice offered touches no more (R20). -/
theorem offerNotice_frame (s : State) (k : NoticeKind) (c o n a : Nat) :
    s.offerNotice k c o n a =
      { s with mem := (s.offerNotice k c o n a).mem, port := (s.offerNotice k c o n a).port
               journal := (s.offerNotice k c o n a).journal } := by
  unfold State.offerNotice State.writeGap State.writeNotice
  dsimp only
  split
  · split
    · exact writeRecord_frame _ _ _
    · rfl
  · split
    · rw [writeRecord_frame, writeRecord_frame s]
      rfl
    · split
      · rw [writeRecord_frame s]
        rfl
      · rfl

/-- A change of attachment state leaves the rest of the attachment unit (R129). -/
theorem setAttach_attach (s : State) (a : AttachState) (c : Nat) :
    (s.setAttach a c).attach = { s.attach with state := a } := by
  simp only [State.setAttach]
  split
  · rename_i h; rw [h]
  · rw [offerNotice_frame]
    rfl

/-- A change to a state that fits the DETECT level keeps the two together. -/
theorem setAttach_follows (s : State) (a : AttachState) (c : Nat) (h : a = .detached ↔ s.attach.detect.level = false) :
    AttachFollowsDetect (s.setAttach a c) := by
  unfold AttachFollowsDetect
  rw [setAttach_attach]
  exact h

/-- Returning to rest, entering AWAITING_REMOVAL and a link change keep the two together (R128, R138, R140, R144). -/
theorem returnToRest_follows (s : State) (c : Nat) (h : AttachFollowsDetect s) : AttachFollowsDetect (s.returnToRest c) := by
  unfold State.returnToRest
  split
  · exact setAttach_follows _ _ _ (resting_detached s)
  · exact h
theorem awaitRemoval_follows (s : State) (h : AttachFollowsDetect s) : AttachFollowsDetect s.awaitRemoval := by
  unfold State.awaitRemoval
  split
  · rename_i hr
    refine setAttach_follows _ _ _ ⟨fun e => (by cases e), fun e => ?_⟩
    rw [h.mpr e] at hr; cases hr
  · exact h

/-- At a host reset the attachment unit keeps its state, the DETECT level and the pulse list, and holds no request (R144). -/
theorem resetAttach_keeps (s : State) :
    s.resetAttach.attach.state = s.attach.state ∧ s.resetAttach.attach.detect = s.attach.detect ∧
      s.resetAttach.attach.pulses = s.attach.pulses ∧ s.resetAttach.attach.wish = s.attach.wish ∧
      s.resetAttach.attach.request = none := by
  unfold State.resetAttach
  cases hp : s.attach.phase with
  | none => simp [State.updAttach, hp]
  | some p =>
    cases p <;> simp [State.updAttach, hp, State.clearRelease, State.enterWindow, State.coilOff] <;> split <;> simp

end Sys2Proof.Machine
end

