-- ==== Sys2Proof/Laws/Memory.lean ====
section
/-! SUPPORT. Exchange memory: every write keeps the canonical form, and what a byte reads after a write. -/

namespace Sys2Proof.Machine

/-- A bound below which no cell lies. -/
def above (bound : Option Nat) (k : Nat) : Bool :=
  match bound with
  | none => true
  | some b => decide (b < k)

theorem Memory.wfFrom_cons (bound : Option Nat) (k : Nat) (v : Byte) (m : Memory) :
    Memory.wfFrom bound ((k, v) :: m) = (above bound k && decide (v ≠ resetByte k) && Memory.wfFrom (some k) m) := by
  cases bound <;> rfl

/-- A weaker bound. -/
theorem Memory.wfFrom_mono (m : Memory) (b b' : Option Nat) (h : ∀ k, above b k = true → above b' k = true)
    (hm : Memory.wfFrom b m = true) : Memory.wfFrom b' m = true := by
  cases m with
  | nil => rfl
  | cons c m =>
    obtain ⟨k, v⟩ := c
    simp only [Memory.wfFrom_cons, Bool.and_eq_true] at hm ⊢
    exact ⟨⟨h k hm.1.1, hm.1.2⟩, hm.2⟩

/-- Writing a byte above the bound keeps the form. -/
theorem Memory.wfFrom_put (m : Memory) (bound : Option Nat) (a : Nat) (b : Byte) (ha : above bound a = true)
    (hm : Memory.wfFrom bound m = true) : Memory.wfFrom bound (m.put a b) = true := by
  induction m generalizing bound with
  | nil =>
    unfold Memory.put
    split
    · rfl
    · next hb => rw [Memory.wfFrom_cons]; simp [ha, hb, Memory.wfFrom]
  | cons c m ih =>
    obtain ⟨k, v⟩ := c
    rw [Memory.wfFrom_cons] at hm
    simp only [Bool.and_eq_true] at hm
    obtain ⟨⟨hk, hv⟩, hm⟩ := hm
    have weaken : above bound k = true → Memory.wfFrom bound m = true := fun h =>
      Memory.wfFrom_mono m _ _ (fun j hj => by
        cases bound with
        | none => rfl
        | some b => simp only [above, decide_eq_true_eq] at h hj ⊢; omega) hm
    unfold Memory.put
    split
    · next hlt =>
      rw [Memory.wfFrom_cons]
      simp only [Bool.and_eq_true]
      exact ⟨⟨hk, hv⟩, ih (some k) (by simp [above, hlt]) hm⟩
    · split
      · next hka =>
        subst hka
        split
        · exact weaken hk
        · next hb => rw [Memory.wfFrom_cons]; simp [hk, hb, hm]
      · next hge hne =>
        split
        · rw [Memory.wfFrom_cons]; simp only [Bool.and_eq_true]; exact ⟨⟨hk, hv⟩, hm⟩
        · next hb =>
          rw [Memory.wfFrom_cons, Memory.wfFrom_cons]
          simp only [Bool.and_eq_true]
          exact ⟨⟨ha, by simpa using hb⟩, ⟨⟨by simp only [above, decide_eq_true_eq]; omega, hv⟩, hm⟩⟩

theorem Memory.wf_put (m : Memory) (a : Nat) (b : Byte) (h : m.wf = true) : (m.put a b).wf = true :=
  Memory.wfFrom_put m none a b rfl h

theorem Memory.wf_putLE (m : Memory) (a n v : Nat) (h : m.wf = true) : (m.putLE a n v).wf = true := by
  induction n generalizing m a v with
  | zero => exact h
  | succ n ih => exact ih _ _ _ (Memory.wf_put m _ _ h)

theorem Memory.wf_putBytes (m : Memory) (a : Nat) (bs : List Byte) (h : m.wf = true) :
    (m.putBytes a bs).wf = true := by
  induction bs generalizing m a with
  | nil => exact h
  | cons b bs ih => exact ih _ _ (Memory.wf_put m _ _ h)

theorem Memory.wf_putWords (m : Memory) (a : Nat) (ws : List Word) (h : m.wf = true) :
    (m.putWords a ws).wf = true := by
  induction ws generalizing m a with
  | nil => exact h
  | cons w ws ih => exact ih _ _ (Memory.wf_putLE m _ _ _ h)

theorem Memory.wfFrom_filter (m : Memory) (bound : Option Nat) (p : Host.Cell → Bool)
    (h : Memory.wfFrom bound m = true) : Memory.wfFrom bound (m.filter p) = true := by
  induction m generalizing bound with
  | nil => rfl
  | cons c m ih =>
    obtain ⟨k, v⟩ := c
    rw [Memory.wfFrom_cons] at h
    simp only [Bool.and_eq_true] at h
    obtain ⟨⟨hk, hv⟩, hm⟩ := h
    rw [List.filter_cons]
    split
    · rw [Memory.wfFrom_cons]; simp only [Bool.and_eq_true]; exact ⟨⟨hk, hv⟩, ih _ hm⟩
    · exact Memory.wfFrom_mono _ _ _ (fun j hj => by
        cases bound with
        | none => rfl
        | some b => simp only [above, decide_eq_true_eq] at hk hj ⊢; omega) (ih _ hm)

theorem Memory.wf_clear (m : Memory) (lo hi : Nat) (h : m.wf = true) : (m.clear lo hi).wf = true :=
  Memory.wfFrom_filter m none _ h

/-- Below every cell a byte reads its reset content. -/
theorem Memory.get_below (m : Memory) (bound : Option Nat) (a : Nat) (hm : Memory.wfFrom bound m = true)
    (hb : ∃ b, bound = some b ∧ a ≤ b) : m.get a = resetByte a := by
  cases m with
  | nil => rfl
  | cons c m =>
    obtain ⟨k, v⟩ := c
    obtain ⟨b, rfl, hab⟩ := hb
    rw [Memory.wfFrom_cons] at hm
    simp only [Bool.and_eq_true, above, decide_eq_true_eq] at hm
    unfold Memory.get
    rw [if_neg (by omega), if_neg (by omega)]

/-- What a byte reads after a write of one byte. -/
theorem Memory.get_put_from (m : Memory) (bound : Option Nat) (hm : Memory.wfFrom bound m = true) (a c : Nat)
    (b : Byte) : (m.put a b).get c = if c = a then b else m.get c := by
  induction m generalizing bound with
  | nil =>
    unfold Memory.put
    by_cases hc : c = a
    · subst hc
      rw [if_pos rfl]
      split
      · next hb => rw [hb]; rfl
      · simp [Memory.get]
    · rw [if_neg hc]
      split
      · rfl
      · unfold Memory.get
        split
        · rfl
        · rw [if_neg (by omega)]
  | cons e m ih =>
    obtain ⟨k, v⟩ := e
    have hm' := hm
    rw [Memory.wfFrom_cons] at hm
    simp only [Bool.and_eq_true] at hm
    have ih := ih (some k) hm.2
    have low : ∀ x, x ≤ k → Memory.get m x = resetByte x := fun x hx => Memory.get_below m (some k) x hm.2 ⟨k, rfl, hx⟩
    unfold Memory.put
    by_cases hka : k < a
    · rw [if_pos hka]
      unfold Memory.get
      by_cases hkc : k < c
      · rw [if_pos hkc, if_pos hkc, ih]
      · rw [if_neg hkc, if_neg hkc, if_neg (show ¬ c = a by omega)]
    · rw [if_neg hka]
      by_cases hke : k = a
      · rw [if_pos hke]
        subst hke
        by_cases hb : b = resetByte k
        · rw [if_pos hb]
          by_cases hc : c = k
          · rw [if_pos hc, hc, low k (Nat.le_refl k), hb]
          · rw [if_neg hc]
            conv => rhs; unfold Memory.get
            by_cases hkc : k < c
            · rw [if_pos hkc]
            · rw [if_neg hkc, if_neg (by omega), low c (by omega)]
        · rw [if_neg hb]
          unfold Memory.get
          by_cases hkc : k < c
          · rw [if_pos hkc, if_pos hkc, if_neg (by omega)]
          · rw [if_neg hkc, if_neg hkc]
            by_cases hc : k = c
            · rw [if_pos hc, if_pos hc.symm]
            · rw [if_neg hc, if_neg hc, if_neg (by omega)]
      · rw [if_neg hke]
        by_cases hb : b = resetByte a
        · rw [if_pos hb]
          by_cases hc : c = a
          · rw [if_pos hc, hc, hb]
            unfold Memory.get
            rw [if_neg (by omega), if_neg (by omega)]
          · rw [if_neg hc]
        · rw [if_neg hb]
          conv => lhs; unfold Memory.get
          by_cases hac : a < c
          · rw [if_pos hac, if_neg (by omega)]
          · rw [if_neg hac]
            by_cases hc : a = c
            · rw [if_pos hc, if_pos hc.symm]
            · rw [if_neg hc, if_neg (by omega)]
              unfold Memory.get
              rw [if_neg (by omega), if_neg (by omega)]

theorem Memory.get_put (m : Memory) (hm : m.wf = true) (a c : Nat) (b : Byte) :
    (m.put a b).get c = if c = a then b else m.get c := Memory.get_put_from m none hm a c b

/-- A write of n bytes leaves every other byte alone. -/
theorem Memory.get_putLE_ne (m : Memory) (hm : m.wf = true) (a n v c : Nat) (hc : c < a ∨ a + n ≤ c) :
    (m.putLE a n v).get c = m.get c := by
  induction n generalizing m a v with
  | zero => rfl
  | succ n ih =>
    unfold Memory.putLE
    rw [ih _ (Memory.wf_put m _ _ hm) _ _ (by omega), Memory.get_put m hm, if_neg (by omega)]

theorem Memory.get_putBytes_ne (m : Memory) (hm : m.wf = true) (a c : Nat) (bs : List Byte)
    (hc : c < a ∨ a + bs.length ≤ c) : (m.putBytes a bs).get c = m.get c := by
  induction bs generalizing m a with
  | nil => rfl
  | cons b bs ih =>
    unfold Memory.putBytes
    simp only [List.length_cons] at hc
    rw [ih _ (Memory.wf_put m _ _ hm) _ (by omega), Memory.get_put m hm, if_neg (by omega)]

/-- A number written as n bytes reads back modulo 256^n. -/
theorem Memory.getLE_putLE (m : Memory) (hm : m.wf = true) (a n v : Nat) :
    (m.putLE a n v).getLE a n = v % 256 ^ n := by
  induction n generalizing m a v with
  | zero => simp [Memory.getLE, Nat.mod_one]
  | succ n ih =>
    unfold Memory.putLE Memory.getLE
    have h1 := Memory.wf_put m a (BitVec.ofNat 8 v) hm
    rw [ih _ h1, Memory.get_putLE_ne _ h1 _ _ _ _ (Or.inl (Nat.lt_succ_self a)), Memory.get_put m hm, if_pos rfl]
    have h2 : (BitVec.ofNat 8 v).toNat = v % 256 := by simp
    rw [h2, Nat.pow_succ, Nat.mul_comm (256 ^ n) 256, Nat.mod_mul]

/-- n bytes away from a write of k bytes read as before. -/
theorem Memory.getLE_putLE_ne (m : Memory) (hm : m.wf = true) (a k v c n : Nat) (hc : c + n ≤ a ∨ a + k ≤ c) :
    (m.putLE a k v).getLE c n = m.getLE c n := by
  induction n generalizing c with
  | zero => rfl
  | succ n ih =>
    unfold Memory.getLE
    rw [ih (c + 1) (by omega), Memory.get_putLE_ne m hm _ _ _ _ (by omega)]

end Sys2Proof.Machine
end

