-- ==== Sys2Proof/Laws/Packets.lean ====
section
/-! SUPPORT. Packets from the base as the statements write them: a body with its check byte is a good packet of its kind. -/

namespace Sys2Proof.Laws

open Sys2Proof Sys2Proof.Machine

/-- A sum of bytes as bytes is their sum modulo 256. -/
theorem byteSum_eq_sum (l : List Byte) : byteSum l = l.sum.toNat := by
  unfold byteSum
  induction l with
  | nil => rfl
  | cons b l ih =>
    rw [List.map_cons, List.sum_cons, List.sum_cons, BitVec.toNat_add, ← ih]
    omega

/-- A body with its check byte passes the check of R106. -/
theorem byteSum_packet (body : List Byte) : byteSum (packet body) = 0 := by
  rw [byteSum_eq_sum, packet, List.sum_append, List.sum_singleton]
  simp

/-- A header that names its payload's length makes the packet its kind and payload spell. -/
theorem parsePacket_packet (h : Byte) (payload : List Byte) (hl : h.toNat % 16 ≤ 12)
    (hp : payload.length = h.toNat % 16) :
    parsePacket (packet (h :: payload)) = parsePayload (h.toNat / 16) payload := by
  have hs := byteSum_packet (h :: payload)
  simp only [packet, List.cons_append] at hs ⊢
  simp only [parsePacket]
  rw [if_pos ⟨hl, by simp [hp], hs⟩, ← hp, List.take_left']
  rfl

end Sys2Proof.Laws
end

