-- ==== Sys2Proof/Laws/Requests.lean ====
section
/-! SUPPORT. A request that is taken at once: what its unit finds when it serves, and what finishing leaves in the slot. -/

namespace Sys2Proof.Machine

/-! ## Slots -/

theorem slotState_setSlot (s : State) (n k : Fin 32) (st : SlotState) :
    (s.setSlot n st).slotState k = if k = n then st else s.slotState k := by
  simp only [State.slotState, State.setSlot, State.updDispatch]
  by_cases h : k = n
  · subst h; simp
  · have : (n : Nat) ≠ (k : Nat) := fun e => h (Fin.ext e.symm)
    simp [h, this]

theorem servingSlot_setServing (s : State) (u : ServingUnit) (n : Option (Fin 32)) :
    (s.setServing u n).servingSlot u = n := by
  simp [State.servingSlot, State.setServing, State.updDispatch]

theorem index_injective (u v : ServingUnit) (h : u.index = v.index) : u = v := by
  cases u <;> cases v <;> first | rfl | exact absurd h (by decide)

theorem servingSlot_setServing_ne (s : State) (u v : ServingUnit) (n : Option (Fin 32)) (h : v ≠ u) :
    (s.setServing u n).servingSlot v = s.servingSlot v := by
  have : (u.index : Nat) ≠ (v.index : Nat) := fun e => h (index_injective v u (Fin.ext e.symm))
  simp [State.servingSlot, State.setServing, State.updDispatch, this]

/-- The slot of a word of slot n. -/
theorem slot_of_offset (n : Fin 32) (k : Nat) (hk : k < 64) : Fin.ofNat 32 ((slotBase n + k - 0x0500) / 64) = n := by
  have h : (slotBase n + k - 0x0500) / 64 = n := by unfold slotBase; omega
  rw [h]; exact Fin.ext (by simp [Fin.ofNat, Nat.mod_eq_of_lt n.isLt])

theorem ofCode_code (r : Request) : Request.ofCode r.code = some r := by cases r <;> rfl

theorem code_lt (r : Request) : r.code < 256 := by cases r <;> decide

/-! ## Memory under words and bytes -/

theorem getLE_putWords_ne (m : Memory) (hm : m.wf = true) (a : Nat) (ws : List Word) (c n : Nat)
    (hc : c + n ≤ a ∨ a + 4 * ws.length ≤ c) : (m.putWords a ws).getLE c n = m.getLE c n := by
  induction ws generalizing m a with
  | nil => rfl
  | cons w ws ih =>
    simp only [List.length_cons] at hc
    simp only [Memory.putWords]
    rw [ih _ (Memory.wf_putLE m _ _ _ hm) (a + 4) (by omega), Memory.getLE_putLE_ne m hm _ _ _ _ _ (by omega)]

/-- Word i of a run of words just written. -/
theorem getLE_putWords (m : Memory) (hm : m.wf = true) (a : Nat) (ws : List Word) (i : Nat) (hi : i < ws.length) :
    (m.putWords a ws).getLE (a + 4 * i) 4 = (ws[i]).toNat := by
  induction ws generalizing m a i with
  | nil => cases hi
  | cons w ws ih =>
    simp only [Memory.putWords]
    cases i with
    | zero =>
      rw [getLE_putWords_ne _ (Memory.wf_putLE m _ _ _ hm) _ _ _ _ (by omega)]
      simp only [Nat.mul_zero, Nat.add_zero, List.getElem_cons_zero]
      rw [Memory.getLE_putLE m hm]
      have := w.isLt
      omega
    | succ i =>
      have := ih (m.putLE a 4 w.toNat) (Memory.wf_putLE m _ _ _ hm) (a + 4) i (by simpa using hi)
      rw [show a + 4 * (i + 1) = a + 4 + 4 * i by omega]
      simpa using this

theorem getLE_putBytes_ne (m : Memory) (hm : m.wf = true) (a : Nat) (bs : List Byte) (c n : Nat)
    (hc : c + n ≤ a ∨ a + bs.length ≤ c) : (m.putBytes a bs).getLE c n = m.getLE c n := by
  induction n generalizing c with
  | zero => rfl
  | succ n ih =>
    simp only [Memory.getLE]
    rw [Memory.get_putBytes_ne m hm _ _ _ (by omega), ih (c + 1) (by omega)]

theorem get_putWords_ne (m : Memory) (hm : m.wf = true) (a : Nat) (ws : List Word) (c : Nat)
    (hc : c < a ∨ a + 4 * ws.length ≤ c) : (m.putWords a ws).get c = m.get c := by
  induction ws generalizing m a with
  | nil => rfl
  | cons w ws ih =>
    simp only [List.length_cons] at hc
    simp only [Memory.putWords]
    rw [ih _ (Memory.wf_putLE m _ _ _ hm) (a + 4) (by omega), Memory.get_putLE_ne m hm _ _ _ _ (by omega)]

/-! ## From the host's accesses to the unit -/

/-- Exchange memory when slot n has been written and taken: code and tag, parameters, result area cleared, taken time. -/
def takenMemory (m : Memory) (now : PartTime) (n : Fin 32) (r : Request) (tag : Half) (ps : List Word) : Memory :=
  let b := slotBase n
  let v := (word (256 * r.code + 65536 * tag.toNat)).toNat
  let m := (m.putLE (b + 1) 3 (v / 256)).putWords (b + 4) ps
  ((m.putBytes (b + 0x24) (List.replicate 20 0)).putLE (b + 0x38) 4 now.toNat).putLE (b + 0x3C) 4 0

/-- The state in which a unit begins to serve a request that is taken at once. -/
def State.taken (s : State) (n : Fin 32) (r : Request) (tag : Half) (ps : List Word) : State :=
  { s with
    mem := takenMemory s.mem s.now n r tag ps
    dispatch := { slots := s.dispatch.slots.set n (.taken false), queue := []
                  serving := s.dispatch.serving.set r.servedBy.index (some n) }
    tasks := [.considerQueue] }

theorem taken_slotState (s : State) (n : Fin 32) (r : Request) (tag : Half) (ps : List Word) :
    (s.taken n r tag ps).slotState n = .taken false := by simp [State.taken, State.slotState]

theorem taken_servingSlot (s : State) (n : Fin 32) (r : Request) (tag : Half) (ps : List Word) :
    (s.taken n r tag ps).servingSlot r.servedBy = some n := by simp [State.taken, State.servingSlot]

theorem takenMemory_wf (m : Memory) (hm : m.wf = true) (now : PartTime) (n : Fin 32) (r : Request) (tag : Half)
    (ps : List Word) : (takenMemory m now n r tag ps).wf = true := by
  unfold takenMemory
  exact Memory.wf_putLE _ _ _ _ (Memory.wf_putLE _ _ _ _ (Memory.wf_putBytes _ _ _
    (Memory.wf_putWords _ _ _ (Memory.wf_putLE _ _ _ _ hm))))

/-- A parameter word reads as it was given. -/
theorem taken_param (s : State) (hm : s.mem.wf = true) (n : Fin 32) (r : Request) (tag : Half) (ps : List Word)
    (hp : ps.length ≤ 8) (i : Nat) (hi : i < ps.length) : (s.taken n r tag ps).param n i = (ps[i]).toNat := by
  have w1 := Memory.wf_putLE s.mem (slotBase n + 1) 3 ((word (256 * r.code + 65536 * tag.toNat)).toNat / 256) hm
  have w2 := Memory.wf_putWords _ (slotBase n + 4) ps w1
  have w3 := Memory.wf_putBytes _ (slotBase n + 0x24) (List.replicate 20 0) w2
  have w4 := Memory.wf_putLE _ (slotBase n + 0x38) 4 s.now.toNat w3
  simp only [State.param, State.taken, takenMemory]
  rw [Memory.getLE_putLE_ne _ w4 _ _ _ _ _ (by omega), Memory.getLE_putLE_ne _ w3 _ _ _ _ _ (by omega),
    getLE_putBytes_ne _ w2 _ _ _ _ (by omega), getLE_putWords _ w1 _ _ _ hi]

/-- A byte outside the slot reads as before. -/
theorem taken_get_ne (s : State) (hm : s.mem.wf = true) (n : Fin 32) (r : Request) (tag : Half) (ps : List Word)
    (hp : ps.length ≤ 8) (c : Nat) (hc : c < slotBase n ∨ slotBase n + 64 ≤ c) :
    (s.taken n r tag ps).mem.get c = s.mem.get c := by
  have w1 := Memory.wf_putLE s.mem (slotBase n + 1) 3 ((word (256 * r.code + 65536 * tag.toNat)).toNat / 256) hm
  have w2 := Memory.wf_putWords _ (slotBase n + 4) ps w1
  have w3 := Memory.wf_putBytes _ (slotBase n + 0x24) (List.replicate 20 0) w2
  have w4 := Memory.wf_putLE _ (slotBase n + 0x38) 4 s.now.toNat w3
  simp only [State.taken, takenMemory]
  rw [Memory.get_putLE_ne _ w4 _ _ _ _ (by omega), Memory.get_putLE_ne _ w3 _ _ _ _ (by omega),
    Memory.get_putBytes_ne _ w2 _ _ _ (by simp; omega), get_putWords_ne _ w1 _ _ _ (by omega),
    Memory.get_putLE_ne _ hm _ _ _ _ (by omega)]

theorem writeParams_free (s : State) (n : Fin 32) (i : Nat) (ps : List Word) (hf : s.slotState n = .free)
    (hi : i + ps.length ≤ 8) : s.writeParams n i ps = s.setMem (s.mem.putWords (slotBase n + 4 + 4 * i) ps) := by
  induction ps generalizing s i with
  | nil => rfl
  | cons w ws ih =>
    simp only [List.length_cons] at hi
    have h1 : s.writeSlotWord (slotBase n + 4 + 4 * i) w
        = s.setMem (s.mem.putLE (slotBase n + 4 + 4 * i) 4 w.toNat) := by
      unfold State.writeSlotWord
      rw [show slotBase n + 4 + 4 * i = slotBase n + (4 + 4 * i) by omega, slot_of_offset n _ (by omega), hf]
      have : ¬ (slotBase n + (4 + 4 * i) - 0x0500) % 64 = 0 := by unfold slotBase; omega
      simp only [State.storeSlotWord, this, if_false, State.storeWord]
    simp only [State.writeParams]
    rw [h1, ih _ _ (by exact hf) (by omega)]
    rw [show slotBase n + 4 + 4 * (i + 1) = slotBase n + 4 + 4 * i + 4 by omega]
    rfl

/-- The accesses of a request to a FREE slot, as far as the POST. -/
theorem makeRequest_free (s : State) (n : Fin 32) (r : Request) (tag : Half) (ps : List Word) (hr : s.port.hrst = false)
    (hf : s.slotState n = .free) (hp : ps.length ≤ 8) :
    s.makeRequest n r tag ps =
      (s.setMem ((s.mem.putLE (slotBase n + 1) 3 ((word (256 * r.code + 65536 * tag.toNat)).toNat / 256)).putWords
        (slotBase n + 4) ps)).postSlot n := by
  unfold State.makeRequest State.whenOpen
  simp only [hr, Bool.false_eq_true, if_false]
  have h1 : s.writeSlotWord (slotBase n) (word (256 * r.code + 65536 * tag.toNat)) =
      s.setMem (s.mem.putLE (slotBase n + 1) 3 ((word (256 * r.code + 65536 * tag.toNat)).toNat / 256)) := by
    unfold State.writeSlotWord
    have h0 := slot_of_offset n 0 (by omega)
    rw [Nat.add_zero] at h0
    rw [h0, hf]
    have : (slotBase n - 0x0500) % 64 = 0 := by unfold slotBase; omega
    simp only [State.storeSlotWord, this, if_true]
  rw [h1, writeParams_free _ _ _ _ (by exact hf) (by omega)]
  rfl

/-- The request code read back. -/
theorem requestCode_written (m : Memory) (hm : m.wf = true) (n : Fin 32) (r : Request) (tag : Half) (ps : List Word) :
    (((m.putLE (slotBase n + 1) 3 ((word (256 * r.code + 65536 * tag.toNat)).toNat / 256)).putWords
        (slotBase n + 4) ps).get (slotBase n + 1)).toNat = r.code := by
  rw [get_putWords_ne _ (Memory.wf_putLE _ _ _ _ hm) _ _ _ (by omega)]
  simp only [Memory.putLE]
  rw [Memory.get_put _ (Memory.wf_put _ _ _ (Memory.wf_put _ _ _ hm)),
    Memory.get_put _ (Memory.wf_put _ _ _ hm), Memory.get_put _ hm]
  have h1 : ¬ slotBase n + 1 = slotBase n + 1 + 1 + 1 := by omega
  have h2 : ¬ slotBase n + 1 = slotBase n + 1 + 1 := by omega
  have hc := code_lt r
  have ht := tag.isLt
  simp only [h1, h2, if_false, if_true, word, BitVec.toNat_ofNat]
  omega

/-- A request that is taken at once is served in its event: two hand-ons of the dispatcher, then the unit's own. -/
theorem event_request (s : State) (n : Fin 32) (r : Request) (tag : Half) (ps : List Word)
    (h : s.takesAtOnce n r.servedBy) (hm : s.mem.wf = true) (ht : s.tasks = []) (hb : s.port.boardTouched = false)
    (hp : ps.length ≤ 8) :
    s.event (fun s => s.makeRequest n r tag ps) =
      ((runTasks (Config.handOnLimit - 2) ((s.taken n r tag ps).serve n r)).setTasks []).closeBoard s := by
  obtain ⟨hr, hrun, hf, hq, hi⟩ := h
  unfold State.event
  rw [openEvent_self s ht hb]
  dsimp only
  rw [makeRequest_free s n r tag ps hr hf hp]
  have hL : 2 ≤ Config.handOnLimit := by decide
  generalize Config.handOnLimit = L at hL ⊢
  generalize hM : (s.mem.putLE (slotBase n + 1) 3 ((word (256 * r.code + 65536 * tag.toNat)).toNat / 256)).putWords
        (slotBase n + 4) ps = M
  have hcode : (M.get (slotBase n + 1)).toNat = r.code := by rw [← hM]; exact requestCode_written _ hm _ _ _ _
  have hpost : (s.setMem M).postSlot n =
      { s with mem := M, dispatch := { s.dispatch with slots := s.dispatch.slots.set n .posted, queue := [n] }
               tasks := [.considerQueue] } := by
    have hf' : (s.setMem M).slotState n = .free := hf
    unfold State.postSlot
    rw [if_pos hf']
    simp [State.setSlot, State.updDispatch, State.handLast, State.setMem, State.setTasks, hq, ht]
  rw [hpost, runTasks_front _ _ _ _ rfl (by omega)]
  generalize hs1 : ({ s with mem := M, dispatch := { s.dispatch with slots := s.dispatch.slots.set n .posted, queue := [n] }
                             tasks := [Task.considerQueue] } : State).setTasks [] = s1
  have htake : (doTask .considerQueue s1) =
      { s with mem := takenMemory s.mem s.now n r tag ps
               dispatch := { slots := s.dispatch.slots.set n (.taken false), queue := []
                             serving := s.dispatch.serving.set r.servedBy.index (some n) }
               tasks := [.serve n r, .considerQueue] } := by
    have hrun' : s1.isRunning = true := by rw [← hs1]; simp [State.isRunning, State.setTasks, hrun]
    have hcode' : s1.requestCode n = r.code := by rw [← hs1]; exact hcode
    have hserv : s1.servingSlot r.servedBy = none := by rw [← hs1]; exact hi
    have htakeable : s1.takeable n = true := by
      unfold State.takeable; rw [hcode', ofCode_code]; simp [hserv]
    have hfind : s1.dispatch.queue.find? (fun n => s1.takeable n) = some n := by
      have : s1.dispatch.queue = [n] := by rw [← hs1]; rfl
      rw [this]; simp [htakeable]
    show s1.considerQueue = _
    unfold State.considerQueue
    rw [if_pos hrun', hfind]
    have hlow : 1 < 0x24 := by decide
    have hcode2 : (State.setSlot ((s1.updDispatch fun d => { d with queue := d.queue.filter (· ≠ n) }).setMem
        (((s1.mem.putBytes (slotBase n + 0x24) (List.replicate 20 0)).putLE (slotBase n + 0x38) 4 s1.now.toNat).putLE
          (slotBase n + 0x3C) 4 0)) n (.taken false)).requestCode n = r.code := by
      have hM1 : s1.mem = M := by rw [← hs1]; rfl
      have wM : M.wf = true := by rw [← hM]; exact Memory.wf_putWords _ _ _ (Memory.wf_putLE _ _ _ _ hm)
      simp only [State.requestCode, State.setSlot, State.updDispatch, State.setMem, hM1]
      rw [Memory.get_putLE_ne _ (Memory.wf_putLE _ _ _ _ (Memory.wf_putBytes _ _ _ wM)) _ _ _ _ (by omega),
        Memory.get_putLE_ne _ (Memory.wf_putBytes _ _ _ wM) _ _ _ _ (by omega),
        Memory.get_putBytes_ne _ wM _ _ _ (by omega)]
      exact hcode
    unfold State.takeSlot
    simp only
    have hn : (State.updDispatch s1 fun d => { d with queue := d.queue.filter (· ≠ n) }).now = s1.now := rfl
    have hme : (State.updDispatch s1 fun d => { d with queue := d.queue.filter (· ≠ n) }).mem = s1.mem := rfl
    simp only [hn, hme] at *
    rw [hcode2, ofCode_code]
    simp only
    rw [← hs1]
    simp [State.setSlot, State.setServing, State.updDispatch, State.hand, State.handLast, State.setMem, State.setTasks,
      takenMemory, hM]
  have hserve : doTask (.serve n r) (State.setTasks
      { s with mem := takenMemory s.mem s.now n r tag ps
               dispatch := { slots := s.dispatch.slots.set n (.taken false), queue := []
                             serving := s.dispatch.serving.set r.servedBy.index (some n) }
               tasks := [.serve n r, .considerQueue] } [.considerQueue]) = (s.taken n r tag ps).serve n r := by
    have e : State.setTasks
      { s with mem := takenMemory s.mem s.now n r tag ps
               dispatch := { slots := s.dispatch.slots.set n (.taken false), queue := []
                             serving := s.dispatch.serving.set r.servedBy.index (some n) }
               tasks := [.serve n r, .considerQueue] } [.considerQueue] = s.taken n r tag ps := by
      simp only [State.setTasks, State.taken]
    simp only [doTask, e]
  rw [htake, runTasks_front _ _ _ _ rfl (by omega), Nat.sub_sub, hserve]

/-! ## Finishing -/

/-- What finishing leaves in a slot that is not abandoned. -/
theorem finishUnit_serving (s : State) (u : ServingUnit) (n : Fin 32) (code : ResultCode) (detail : Nat)
    (words : List Word) (hs : s.servingSlot u = some n) (ht : s.slotState n = .taken false) :
    s.finishUnit u code detail words =
      ((((s.writeResult n code detail words).setSlot n .done).latch .requestDone).setServing u none).handLast
        .considerQueue := by
  unfold State.finishUnit State.finishSlot
  rw [hs]
  simp [ht]

/-- The result of a finished slot reads as it was given. -/
theorem writeResult_reads (s : State) (hm : s.mem.wf = true) (n : Fin 32) (code : ResultCode) (detail : Nat)
    (words : List Word) (hd : detail < 65536) :
    (s.writeResult n code detail words).resultCode n = code.code ∧
      (s.writeResult n code detail words).resultDetail n = detail ∧
      ∀ i : Fin 4, ∀ h : i.val < words.length,
        (s.writeResult n code detail words).resultWord n i = (words[i.val]'h).toNat := by
  have w1 := Memory.wf_putLE s.mem (slotBase n + 0x24) 2 code.code hm
  have w2 := Memory.wf_putLE _ (slotBase n + 0x26) 2 detail w1
  have w3 := Memory.wf_putWords _ (slotBase n + 0x28) words w2
  have hcode : code.code < 65536 := by cases code <;> decide
  refine ⟨?_, ?_, ?_⟩
  · simp only [State.resultCode, State.writeResult, State.setMem]
    rw [Memory.getLE_putLE_ne _ w3 _ _ _ _ _ (by omega), getLE_putWords_ne _ w2 _ _ _ _ (by omega),
      Memory.getLE_putLE_ne _ w1 _ _ _ _ _ (by omega), Memory.getLE_putLE _ hm]
    omega
  · simp only [State.resultDetail, State.writeResult, State.setMem]
    rw [Memory.getLE_putLE_ne _ w3 _ _ _ _ _ (by omega), getLE_putWords_ne _ w2 _ _ _ _ (by omega),
      Memory.getLE_putLE _ w1]
    omega
  · intro i h
    simp only [State.resultWord, State.writeResult, State.setMem]
    rw [Memory.getLE_putLE_ne _ w3 _ _ _ _ _ (by omega), getLE_putWords _ w2 _ _ _ h]

end Sys2Proof.Machine
end

