-- ==== Sys2Proof/Tests/Slice0.lean ====
section
/-! SUPPORT. The model's own tests: ill-formed commands refused, one small step of the commands on small states, and for
every statement with hypotheses a state and operands that meet them. -/

namespace Sys2Proof.Tests

set_option Elab.async false

open Sys2Proof.Machine

/-! ## Small states -/

/-- The state a command leaves; the state itself where it stops. -/
def after (c : Instr) (s : State) : State :=
  match exec c s with
  | .next t => t
  | .fault _ => s
  | .refused _ => s

/-- RUNNING, with every unit at its power-on value. -/
def running : State := { State.reset with port := { PortUnit.reset with phase := .running, selfCheck := .done } }

/-- A base seated, greeted and drawing BASE_BASIC. -/
def attached : State :=
  { running with
    attach := { AttachUnit.reset with detect := { line := true, level := true, timer := none }, state := .attached }
    link := { LinkUnit.reset with state := .ready, timer := some (.supervision, 300), capBacklight := true }
    allot := { AllotUnit.reset with demand := ⟨0, 250, 0, 0⟩, grant := ⟨0, 250, 0, 0⟩ } }

/-- A release in a phase, for the DETACH of slot 2; the link is QUIESCED. -/
def releasing (p : ReleasePhase) (coil : Nat) : State :=
  { attached with
    link := { attached.link with state := .quiesced }
    dispatch := { Dispatcher.reset with
                  slots := Dispatcher.reset.slots.set 2 (.taken false)
                  serving := Dispatcher.reset.serving.set 3 (some 2) }
    attach := { attached.attach with state := .releasing, phase := some p, request := some 2 }
    allot := { attached.allot with demand := ⟨coil, 250, 0, 0⟩, grant := ⟨coil, 250, 0, 0⟩ } }

/-- A release in PULSE, its coil driven since part time 0. -/
def pulsing : State :=
  { releasing .pulse 1200 with
    attach := { (releasing .pulse 1200).attach with
                coil := true, pulses := [0], pulseTimer := some 200, senseTimer := some 20 } }

/-- The host asleep and the part in DOZE. -/
def asleep : State := { running with sleep := { SleepUnit.reset with host := .sleeping, power := .doze } }

/-- A pen in the garage that awaits a REPORT. -/
def querying : State :=
  { running with
    pen := { PenUnit.reset with
             penIn := { line := true, level := true, timer := none }, state := .identifying, response := some 20 } }

/-- The links's timer of a kind runs to part time 5. -/
def linkTimed (k : LinkTimerKind) (l : LinkState) : State :=
  { attached with link := { attached.link with state := l, timer := some (k, 5) } }

/-- A slot in a state. -/
def slotIn (s : State) (n : Fin 32) (st : SlotState) : State :=
  { s with dispatch := { s.dispatch with slots := s.dispatch.slots.set n st } }

/-! ## Ill-formed commands -/

theorem test_wf_offset_refused : (Instr.hostWrite .exchange 0x4000 0xF 0).wf = false := by decide
theorem test_wf_control_offset_refused : (Instr.hostWrite .control 0x110 0xF 0).wf = false := by decide
theorem test_wf_last_offsets : (Instr.hostWrite .exchange 0x3FFC 0xF 0).wf = true ∧
    (Instr.hostWrite .control 0x10C 0xF 0).wf = true := by decide
theorem test_wf_packet_refused : (Instr.packetArrival [0x60, 0xA1]).wf = false := by decide
theorem test_wf_packet : (Instr.packetArrival [0x60, 0xA0]).wf = true := by decide

/-! ## Queue and step -/

theorem test_step_takes_front : step { running with pending := [.hrstAssert, .hostReset] } =
    exec .hrstAssert { running with pending := [.hostReset] } := rfl
theorem test_step_tick : step running = .next { running with now := 1 } := rfl
theorem test_no_word_spells : decodeTableWord 32 5 = none ∧ State.reset.withFetchWord 32 5 = State.reset := ⟨rfl, rfl⟩
theorem test_outside_faults : exec (.hostWrite .control 0x110 0xF 0) running = .fault (.outsideWindows .control 0x110) := rfl

/-! ## Commands: resets and the host's accesses -/

theorem test_powerOnReset : after .powerOnReset attached =
    { State.reset with
      attach := { AttachUnit.reset with detect := { line := true, level := false, timer := none } } } := by
  decide +kernel
theorem test_selfCheckEnd :
    let t := after (.selfCheckEnd 512 0x91 false true) State.reset
    t.port.phase = .running ∧ t.angle.side = .high ∧ t.sensor.timer = some 20 ∧
      (t.faultEntry .lidSensor).active = false ∧ t.sensor.foldBack.timer = some 20 := by decide +kernel
theorem test_selfCheckEnd_signature :
    let t := after (.selfCheckEnd 512 0x81 false false) State.reset
    (t.faultEntry .lidSensor).count = 1 ∧ t.sensor.failRun = 3 ∧ t.hostRead .exchange 0x48 = 0x101 := by decide +kernel
theorem test_hrstAssert : (after .hrstAssert running).hostRead .control 0x10C = 0 := by decide +kernel
theorem test_hostWrite :
    (after (.hostWrite .exchange 0x0E04 0xF 0x12345678) running).hostRead .exchange 0x0E06 = 0x12345678 := by
  decide +kernel
theorem test_hostWrite_refused :
    let t := after (.hostWrite .exchange 0x1000 0xF 7) running
    t.mem = [] ∧ t.port.capture.kind = .partRegion ∧ t.hostRead .exchange 0x44 = 0x1000 := by decide +kernel
theorem test_readCountWrite :
    let t := after (.readCountWrite 2 1) running
    t.port.capture.kind = .countInvalid ∧ (t.journalOf 2).invalidCount = true ∧ (t.journalOf 2).readCount = 0 := by
  decide +kernel
theorem test_post : (after (.post 4) State.reset).hostRead .exchange 0x600 = 1 := by decide +kernel
theorem test_post_badRequest :
    let t := after (.post 4) running
    t.slotState 4 = .done ∧ t.resultCode 4 = 1 := by decide +kernel
theorem test_release : (after (.release 4) (slotIn running 4 .done)).slotState 4 = .free := by decide +kernel
theorem test_release_cancels :
    let t := after (.release 2) (releasing .quiescing 0)
    t.attach.state = .attached ∧ t.link.state = .ready ∧ t.resultCode 2 = 4 := by decide +kernel
theorem test_attnLatchWrite :
    (after (.attnLatchWrite 6) { running with port := { running.port with attnLatch := 7 } }).hostRead .control 0x100 = 1 := by
  decide +kernel
theorem test_attnMaskWrite :
    let t := after (.attnMaskWrite 4) { running with port := { running.port with attnLatch := 6 } }
    t.attnLine = true ∧ t.hostRead .control 0x108 = 2 := by decide +kernel
theorem test_inputQuietFlushExpiry :
    let s := { running with journal := { running.journal with quiet := some 20 } }
    (after .inputQuietFlushExpiry s).now = 20 ∧ (after .inputQuietFlushExpiry s).port.attnLatch = 0 := by decide +kernel

/-! ## Commands: the fifteen requests -/

/-- The example of spec/02, "An example of clamping", from generation 3. -/
theorem test_applySettings :
    let m := ((((State.reset.mem.putLE 0x012C 4 50).putLE 0x0134 4 90).putLE 0x0138 4 100))
    let t := after (.applySettings 0 1) { running with mem := m, settings := { running.settings with generation := 3 } }
    t.resultWord 0 0 = 2 ∧ t.resultWord 0 1 = 0x012C ∧ t.resultWord 0 2 = 4 ∧ t.hostRead .exchange 0x0138 = 89 ∧
      t.hostRead .exchange 0x012C = 100 := by decide +kernel
theorem test_lockSettings :
    let t := after (.lockSettings 3 7) running
    t.settings.locked = true ∧ t.hostRead .exchange (0x0500 + 64 * 3) = 0x00071103 := by decide +kernel
theorem test_loadPostureTable_badBand :
    let t := after (.loadPostureTable 0 1 1) { running with mem := State.reset.mem.putLE 0x0E00 4 5 }
    t.resultCode 0 = 2 ∧ t.resultDetail 0 = 1 ∧ t.resultWord 0 1 = 1 := by decide +kernel
theorem test_loadPostureTable :
    let t := after (.loadPostureTable 0 1 1) { running with mem := State.reset.mem.putLE 0x0E04 4 0x10000000 }
    t.resultCode 0 = 0 ∧ t.settings.table.length = 1 := by decide +kernel
theorem test_resetJournal :
    let s := after (.penInDebounceExpiry) { running with
      pen := { running.pen with penIn := { line := true, level := false, timer := some 9 } } }
    s.used noticeJournal = 1 ∧ (after (.resetJournal 0 1 2) s).used noticeJournal = 0 ∧
      (after (.resetJournal 0 1 2) s).resultWord 0 0 = 1 := by decide +kernel
theorem test_ackFault :
    let s := { running with settings := { running.settings with
      faults := running.settings.faults.set 4 { active := false, count := 6, firstActive := 9 } } }
    (after (.ackFault 0 1 4) s).resultWord 0 0 = 6 ∧
      (after (.ackFault 0 1 4) s).faultEntry .latchCoil = { active := false, count := 0, firstActive := 0 } := by
  decide +kernel
theorem test_calibrateHinge :
    (after (.calibrateHinge 1 1) running).angle.calibration = some { run := 0, sum := 0, sets := 0 } := by decide +kernel
theorem test_setRotationLock :
    let t := after (.setRotationLock 1 1 1 2) running
    t.posture.lock = some .landscapeFlipped ∧ t.posture.oriented = .landscape ∧ t.resultWord 1 0 = 2 := by decide +kernel
theorem test_detach :
    let t := after (.detach 2 1) attached
    t.attach.state = .releasing ∧ t.link.state = .quiesced ∧ t.attach.quiesceTimer = some 100 := by decide +kernel
theorem test_detach_refused : (after (.detach 2 1) running).resultDetail 2 = 1 := by decide +kernel
theorem test_setBacklight :
    let t := after (.setBacklight 2 1 3) attached
    t.allot.grant.backlight = 450 ∧ t.link.sending = some (.light 3) ∧ t.resultWord 2 0 = 3 := by decide +kernel
theorem test_penAccept :
    let t := after (.penAccept 2 1 9) running
    t.pen.table[0].identity = 9 ∧ t.resultWord 2 2 = 1 := by decide +kernel
theorem test_penForget : (after (.penForget 2 1 0 9) (after (.penAccept 2 1 9) running)).slotState 2 = .done ∧
    (after (.penForget 3 1 0 9) (after (.penAccept 2 1 9) running)).resultWord 3 0 = 1 := by decide +kernel
theorem test_penChargeMode : (after (.penChargeMode 2 1 1) querying).pen.mode = .hold ∧
    (after (.penChargeMode 2 1 1) querying).resultWord 2 1 = 1 := by decide +kernel
theorem test_setPowerSource :
    let t := after (.setPowerSource 2 1 0) running
    t.allot.source = .mains ∧ t.allot.budget = t.settings.active.mainsActive ∧ t.resultWord 2 1 = 1 := by decide +kernel
theorem test_sleepEnter :
    let t := after (.sleepEnter 2 1 0x6B 1) running
    t.sleep.host = .sleeping ∧ t.sleep.power = .doze ∧ t.sleep.dozeTimer.isSome = true := by decide +kernel
theorem test_hostOn :
    let t := after (.hostOn 2 1) asleep
    t.sleep.host = .on ∧ t.sleep.power = .active ∧ t.slotState 2 = .done := by decide +kernel
theorem test_holdAwake : (after (.holdAwake 2 1 5000) running).sleep.holdAwake = some 5000 := by decide +kernel

/-! ## Commands: sensors, hall lines, posture -/

theorem test_samplePeriodExpiry :
    let t := after .samplePeriodExpiry { running with sensor := { running.sensor with timer := some 20 } }
    t.now = 20 ∧ t.sensor.timer = some 40 ∧ t.sensor.read = .inFlight 20 := by decide +kernel
/-- A lid straight above the base plane: θb − θl + OFFSET with the defaults, in ATTACHED, GOOD. -/
theorem test_lidReadCompletion :
    let t := after (.lidReadCompletion 0x91 0 0 4096) { attached with
      sensor := { attached.sensor with
                  read := .inFlight 20, holding := some { x := 0, y := 0, z := 4096, arrival := 0 } } }
    t.angle.quality = .good ∧ t.angle.reported = State.reset.settings.active.offset ∧
      (t.journalOf sampleJournal).writeCount = 1 ∧ t.posture.basePose = .flat := by decide +kernel
theorem test_lidReadCompletion_failed :
    let t := after (.lidReadCompletion 0x90 0 0 4096) { running with
      sensor := { running.sensor with read := .inFlight 20, failRun := 2 } }
    (t.faultEntry .lidSensor).active = true ∧ t.angle.quality = .unavailable := by decide +kernel
theorem test_hallLineChange : (after (.hallLineChange .lidClosed true) running).sensor.lidClosed.timer = some 20 := by
  decide +kernel
theorem test_hallDebounceExpiry :
    (after (.hallDebounceExpiry .foldBack) { running with
      sensor := { running.sensor with foldBack := { line := true, level := false, timer := some 20 } } }).sensor.foldBack.level
      = true := by decide +kernel
theorem test_postureDwellExpiry :
    let t := after .postureDwellExpiry { attached with
      posture := { attached.posture with candidate := some 0, dwell := some 50 } }
    t.posture.band = some 0 ∧ some t.posture.posture = (defaultTable.head?.map (·.posture)) ∧ t.now = 50 := by
  decide +kernel
theorem test_unavailableTimerExpiry :
    (after .unavailableTimerExpiry { attached with
      posture := { attached.posture with posture := .laptop, unavailable := some 50 } }).posture.posture = .unknown := by
  decide +kernel
theorem test_orientationDwellExpiry :
    (after .orientationDwellExpiry { running with
      posture := { running.posture with orientationCandidate := .portrait, orientationDwell := some 5 } }).posture.oriented
      = .portrait := by decide +kernel

/-! ## Commands: the base link -/

theorem test_packetArrival_key :
    let t := after (.packetArrival [0x22, 30, 1, 0xBF]) attached
    t.link.pressed = [30] ∧ t.hostRead .exchange 0x2000 = 0x1E01 ∧ t.sleep.idle = attached.idleRestarted.1 := by
  decide +kernel
theorem test_packetArrival_hello :
    let t := after (.packetArrival [0x13, 1, 0, 0x02, 0xEA]) (linkTimed .greeting .greeting)
    t.link.stage = .awaitAck ∧ t.link.capBacklight = true ∧ t.link.sending = some (.welcome 20 0) := by decide +kernel
theorem test_packetDiscard :
    let t := after (.packetDiscard .badPacket) { attached with link := { attached.link with discards := [0, 0, 0, 0] } }
    t.link.state = .lost ∧ t.attach.state = .seating ∧ t.link.recoveries = 1 := by decide +kernel
theorem test_transmitComplete :
    (after .transmitComplete { attached with
      link := { attached.link with sending := some .quiesce, transmitList := [.rate 5, .resume] } }).link.sending
      = some (.rate 5) := by decide +kernel
theorem test_powerUpTimerExpiry :
    (after .powerUpTimerExpiry (linkTimed .powerUp .powering)).link.timer = some (.greeting, 205) := by decide +kernel
theorem test_greetingTimerExpiry :
    let s := linkTimed .greeting .greeting
    (after .greetingTimerExpiry s).link.retries = 1 ∧
      (after .greetingTimerExpiry { s with link := { s.link with retries := 3 } }).link.state = .faulted := by decide +kernel
theorem test_supervisionTimerExpiry :
    let t := after .supervisionTimerExpiry (linkTimed .supervision .ready)
    t.link.state = .lost ∧ t.link.holdOff = true ∧ t.link.timer = some (.recovery, 55) := by decide +kernel
theorem test_recoveryTimerExpiry :
    (after .recoveryTimerExpiry (linkTimed .recovery .lost)).link.state = .powering := by decide +kernel
theorem test_rxbRestTwoByteTimes :
    (after .rxbRestTwoByteTimes { attached with link := { attached.link with ignoring := true } }).link.ignoring = false := by
  decide +kernel

/-! ## Commands: the attachment unit -/

theorem test_detectLineChange : (after (.detectLineChange true) running).attach.detect.timer = some 50 := by decide +kernel
theorem test_detectDebounceExpiry_stopped : after .detectDebounceExpiry running = running := by decide +kernel
theorem test_quiesceTimerExpiry :
    let s := releasing .quiescing 0
    let t := after .quiesceTimerExpiry { s with attach := { s.attach with quiesceTimer := some 100 } }
    t.attach.phase = some .pulse ∧ t.attach.coil = true ∧ t.allot.grant.coil = 1200 ∧ t.attach.pulses = [100] := by
  decide +kernel
theorem test_coilCurrentSeen : (after .coilCurrentSeen pulsing).attach.senseTimer = none := by decide +kernel
theorem test_senseTimerExpiry :
    let t := after .senseTimerExpiry pulsing
    (t.faultEntry .latchCoil).active = true ∧ t.attach.coil = false ∧ t.resultCode 2 = 7 ∧ t.resultDetail 2 = 1 ∧
      t.resultWord 2 0 = 20 := by decide +kernel
theorem test_pulseTimerExpiry :
    let t := after .pulseTimerExpiry pulsing
    t.attach.state = .awaitingRemoval ∧ t.attach.coilTime = 200 ∧ t.allot.grant.coil = 0 := by decide +kernel
theorem test_windowTimerExpiry :
    let s := releasing .window 0
    let t := after .windowTimerExpiry { s with attach := { s.attach with state := .awaitingRemoval, windowTimer := some 9 } }
    t.attach.state = .attached ∧ t.resultDetail 2 = 2 := by decide +kernel
theorem test_pulseAgeOut : (after .pulseAgeOut pulsing).attach.pulses = [] ∧ (after .pulseAgeOut pulsing).now = 60000 := by
  decide +kernel

/-! ## Commands: pen, allotment, sleep -/

theorem test_penInLineChange : (after (.penInLineChange true) running).pen.penIn.timer = some 100 := by decide +kernel
theorem test_penInDebounceExpiry :
    (after .penInDebounceExpiry { running with
      pen := { running.pen with penIn := { line := true, level := false, timer := some 100 } } }).pen.state
      = .identifying := by decide +kernel
theorem test_report :
    let t := after (.report ⟨9, 50, 20, 2, 175⟩) querying
    t.pen.state = .charging ∧ t.pen.identity = 9 ∧ t.pen.coilPower = 300 ∧ t.allot.grant.pen = 300 := by decide +kernel
theorem test_report_battery :
    let t := after (.report ⟨9, 50, 20, 3, 174⟩) querying
    t.pen.state = .fault ∧ (t.faultEntry .penBattery).active = true := by decide +kernel
theorem test_responseTimerExpiry :
    (after .responseTimerExpiry querying).pen.retries = 1 ∧ (after .responseTimerExpiry querying).pen.response = some 40 := by
  decide +kernel
theorem test_pollTimerExpiry :
    (after .pollTimerExpiry { running with pen := { running.pen with poll := some 7 } }).pen.response = some 27 := by
  decide +kernel
theorem test_penDecreaseConfirm :
    let t := after .penDecreaseConfirm { running with
      pen := { running.pen with confirmDue := true }, allot := { running.allot with awaiting := [⟨.pen, 100⟩] } }
    t.allot.awaiting = [] ∧ t.pen.confirmDue = false := by decide +kernel
theorem test_awaitingDeadlineExpiry :
    let t := after (.awaitingDeadlineExpiry .backlight) { running with
      allot := { running.allot with awaiting := [⟨.backlight, 100⟩] } }
    t.allot.awaiting = [] ∧ t.now = 100 := by decide +kernel
theorem test_vbaseVoltageChange :
    (after (.vbaseVoltageChange true) { attached with
      allot := { attached.allot with voltageLow := false } }).allot.underVoltage = some 10 := by decide +kernel
theorem test_underVoltageTimerExpiry :
    let t := after .underVoltageTimerExpiry { attached with allot := { attached.allot with underVoltage := some 10 } }
    t.allot.lockout = true ∧ t.link.state = .unpowered ∧ t.attach.state = .degraded := by decide +kernel
theorem test_holdAwakeDeadlineExpiry :
    (after .holdAwakeDeadlineExpiry { running with
      sleep := { running.sleep with holdAwake := some 4, idle := .elapsed } }).sleep.advice = .idle := by decide +kernel
theorem test_idleTimerExpiry :
    (after .idleTimerExpiry { running with sleep := { running.sleep with idle := .running 9 8 } }).sleep.advice = .idle := by
  decide +kernel
theorem test_idleRemainingRewrite :
    let t := after .idleRemainingRewrite { running with sleep := { running.sleep with idle := .running 5000 1000 } }
    t.hostRead .exchange 0x38 = 4000 ∧ t.hostRead .exchange 0 = 4 := by decide +kernel
theorem test_graceTimerExpiry :
    (after .graceTimerExpiry { running with sleep := { running.sleep with grace := some 3 } }).sleep.advice = .lidClosed := by
  decide +kernel
theorem test_dozeToStandbyExpiry :
    (after .dozeToStandbyExpiry { asleep with sleep := { asleep.sleep with dozeTimer := some 3 } }).sleep.power = .standby := by
  decide +kernel
theorem test_answerTimerExpiry :
    let s := { asleep with sleep := { asleep.sleep with answerTimer := some 3, assertions := 4, wake := true } }
    (after .answerTimerExpiry s).sleep.wake = false ∧
      ((after .answerTimerExpiry s).faultEntry .wakeUnanswered).active = true := by decide +kernel
theorem test_gapTimerExpiry :
    (after .gapTimerExpiry { asleep with sleep := { asleep.sleep with gapTimer := some 3, assertions := 1 } }).sleep.assertions
      = 2 := by decide +kernel
theorem test_powerButtonLineChange : (after (.powerButtonLineChange true) running).sleep.button.timer = some 30 := by
  decide +kernel
theorem test_powerButtonDebounceExpiry :
    let t := after .powerButtonDebounceExpiry { asleep with
      sleep := { asleep.sleep with button := { line := true, level := false, timer := some 30 } } }
    t.sleep.wake = true ∧ t.sleep.power = .active ∧ t.sleep.wakeReasons = 0x40 := by decide +kernel

/-! ## Points the review named -/

/-- An entry already zero is rewritten with the board (R35), and so is a wake reason already held (R183). -/
theorem test_same_value_rewrites :
    (after (.ackFault 0 1 4) running).port.updateCount = running.port.updateCount + 2 ∧
      (after (.penInDebounceExpiry) { asleep with
        pen := { asleep.pen with penIn := { line := false, level := true, timer := some 5 } }
        sleep := { asleep.sleep with wakeReasons := 0x08, wakeMask := 0xFF } }).port.updateCount
        = asleep.port.updateCount + 2 := by decide +kernel
/-- A WELCOME that waited for the transmitter goes out with P as it stands then (R51). -/
theorem test_welcome_at_sending :
    (after .transmitComplete { linkTimed .greeting .greeting with
      sensor := { attached.sensor with period := 33 }
      link := { (linkTimed .greeting .greeting).link with
                sending := some (.welcome 20 0), transmitList := [.welcome 20 0] } }).link.sending
      = some (.welcome 33 0) := by decide +kernel
/-- The BACKLIGHT claim of a HELLO's new capability comes before its WELCOME, which carries the level granted (R145; log 15). -/
theorem test_welcome_after_claim :
    let s := linkTimed .greeting .greeting
    (after (.packetArrival [0x13, 1, 0, 0x02, 0xEA]) { s with
      link := { s.link with capBacklight := false }, attach := { s.attach with wish := 2 } }).link.sending
      = some (.welcome 20 2) := by decide +kernel
/-- In a host reset nothing is served before its last hand-on, when the gate is that of the fresh posture (R125): a key that
waits is then refused by a closed gate. -/
theorem test_hostReset_serves_last :
    (∀ s : State, s.tasks.contains .serveAfterReset = true → s.serveReceiveQueue = s) ∧
      let s : State := { running with link := { running.link with receiveQueue := [{ packet := .key 30 true, arrival := 0 }] } }
      (runTasks 8 { s with tasks := [.serveReceiveQueue, .publishFlags, .serveAfterReset] }).link.keyDropped = 1 :=
  ⟨fun s h => by unfold State.serveReceiveQueue; rw [if_pos h], by decide +kernel⟩

/-- BOOTING, with two requests posted in slots 0 and 1; each takes three words: first word, word 0, word 1. -/
def posted (a b : Nat × Nat × Nat) : State :=
  { State.reset with
    dispatch := { Dispatcher.reset with
                  slots := (Dispatcher.reset.slots.set 0 .posted).set 1 .posted, queue := [0, 1] }
    mem := State.reset.mem.putWords 0x0500 [word a.1, word a.2.1, word a.2.2] |>.putWords 0x0540
      [word b.1, word b.2.1, word b.2.2] }
/-- A pen accepted and forgotten, and a lock set and taken off, in the event that ends the self-check: the fields end with
the values they had and are rewritten all the same (R25). -/
theorem test_value_brought_back_rewrites :
    let codes (r q : Request) := (256 * r.code, 256 * q.code)
    let c := codes .penAccept .penForget
    let d := codes .setRotationLock .setRotationLock
    let t := after (.selfCheckEnd 512 0x91 false false) (posted (c.1, 7, 0) (c.2, 0, 7))
    let u := after (.selfCheckEnd 512 0x91 false false) (posted (d.1, 1, 255) (d.2, 0, 0))
    t.resultCode 0 = 0 ∧ t.resultWord 1 0 = 1 ∧ t.pen.table = State.reset.pen.table ∧ t.port.updateCount = 4 ∧
      u.resultWord 1 0 = 255 ∧ u.posture.lock = none ∧ u.port.updateCount = 4 := by decide +kernel
/-- A release in CLAIMING at a host reset is given up in either order of the budget and the claim, though the new budget
answers the claim: no pulse begins (R144). -/
theorem test_hostReset_gives_up_claiming :
    ∀ budgetFirst : Bool,
      let s := { releasing .claiming 1200 with
        allot := { (releasing .claiming 1200).allot with budget := 3000, increases := noIncreases } }
      let t := runTasks 64 (s.resetAttach.hand (budgetAndClaim budgetFirst s.attach.phase))
      t.allot.budget = 1500 ∧ t.attach.pulses = [] ∧ t.attach.coil = false ∧ t.attach.phase = none ∧
        t.attach.state = .attached ∧ t.link.state = .ready ∧ t.allot.demand.coil = 0 := by decide +kernel
/-- An ACK of LIGHT confirms while the same level waits again, and not while another does (R168). -/
theorem test_ackLight_levels :
    let s (waits : Nat) : State :=
      { attached with
        link := { attached.link with sending := some .quiesce, lastLevelSent := 1, transmitList := [.light waits] }
        allot := { attached.allot with awaiting := [⟨.backlight, 100⟩] } }
    (after (.packetArrival (packet [0x71, 0xB])) (s 1)).allot.awaiting = [] ∧
      (after (.packetArrival (packet [0x71, 0xB])) (s 2)).allot.awaiting = [⟨.backlight, 100⟩] := by decide +kernel

/-! ## States that meet the hypotheses of the statements -/

theorem between_of {s : State} (h : s.tasks = [] ∧ s.port.boardTouched = false) : s.betweenEvents := h
theorem canonical_of {s : State} (h : s.mem.wf = true) : MemoryCanonical s := h
theorem sound_of {s : State} (h : (s.tasks = [] ∧ s.port.boardTouched = false) ∧ s.mem.wf = true) : s.sound := h
theorem takes_of {s : State} {n : Fin 32} {u : ServingUnit}
    (h : s.port.hrst = false ∧ s.port.phase = .running ∧ s.slotState n = .free ∧ s.dispatch.queue = [] ∧
      s.servingSlot u = none) : s.takesAtOnce n u := h
theorem noInput_of {s : State}
    (h : s.link.receiveQueue = [] ∧ s.link.owed = [] ∧ s.link.pressed = [] ∧ s.link.buttons = 0) : s.noInputWaits := h
theorem draws_of {s : State}
    (h : s.allot.demand = ⟨0, 0, 0, 0⟩ ∧ s.allot.grant = ⟨0, 0, 0, 0⟩ ∧ s.allot.increases = noIncreases ∧
      s.allot.awaiting = [] ∧ s.attach.detect.level = false) : s.nothingDraws := h
theorem coilAndBase_of {s : State}
    (h : s.allot.demand.pen = 0 ∧ s.allot.demand.backlight = 0 ∧ s.allot.grant.pen = 0 ∧ s.allot.grant.backlight = 0 ∧
      s.allot.awaiting = []) : s.coilAndBaseOnly := h
theorem linkAlone_of {s : State}
    (h : (s.link.receiveQueue = [] ∧ s.link.owed = [] ∧ s.link.pressed = [] ∧ s.link.buttons = 0) ∧
      (s.allot.demand.pen = 0 ∧ s.allot.demand.backlight = 0 ∧ s.allot.grant.pen = 0 ∧ s.allot.grant.backlight = 0 ∧
        s.allot.awaiting = []) ∧
      s.allot.demand.coil = 0 ∧ s.attach.detect.level = true ∧ s.attach.state.inRelease = false ∧ s.hostOn = true ∧
      s.dispatch.queue = []) : s.linkAlone := h
theorem grants_of {s : State}
    (h : (s.allot.grant.coil ≤ (targets s.allot.budget s.allot.demand).coil ∧
        s.allot.grant.base ≤ (targets s.allot.budget s.allot.demand).base ∧
        s.allot.grant.pen ≤ (targets s.allot.budget s.allot.demand).pen ∧
        s.allot.grant.backlight ≤ (targets s.allot.budget s.allot.demand).backlight) ∧
      raised s.allot.grant s.allot.increases = targets s.allot.budget s.allot.demand ∧
      (s.allot.grant.coil = 0 ∨ s.allot.grant.coil = 1200) ∧ (s.allot.grant.base = 0 ∨ s.allot.grant.base = 250) ∧
      (s.allot.grant.pen = 0 ∨ 150 ≤ s.allot.grant.pen) ∧ s.allot.grant.backlight % 150 = 0) : GrantsWithinTargets s := h

theorem follows_of {s : State} (h : s.attach.state = .detached ↔ s.attach.detect.level = false) : AttachFollowsDetect s := h
theorem listens_of {s : State}
    (h : (s.link.state = .ready ∨ s.link.state = .quiesced) ∧ s.link.ignoring = false ∧ s.link.receiveQueue = [] ∧
      s.link.owed = [] ∧ s.hostOn = true) : s.linkListens := h
theorem atRest_of {s : State}
    (h : s.sleep.power = .active ∧ s.attach.phase = none ∧
      (s.link.receiveQueue = [] ∧ s.link.owed = [] ∧ s.link.pressed = [] ∧ s.link.buttons = 0) ∧ s.allot.budget = 1500 ∧
      s.allot.demand.base =
        (if s.attach.detect.level = true ∧ s.allot.faultedOff = false ∧ s.allot.lockout = false then 250 else 0)) :
    s.atRestForReset := h

/-- `running` stands between events, memory canonical, with every request taken at once. -/
theorem running_ready (n : Fin 32) (u : ServingUnit) : running.sound ∧ running.takesAtOnce n u :=
  ⟨sound_of (by decide +kernel), takes_of (by revert n u; intro n u; cases u <;> revert n <;> decide +kernel)⟩

/-- The invariants hold together in a state; a step from it answers a next state. -/
theorem witness_steps : ∃ t, step State.reset = .next t ∧ step { running with pending := [.post 3] } =
    .next (after (.post 3) running) := ⟨_, rfl, rfl⟩
theorem witness_EveryCommandAnswers : (∀ w offset lanes data, Instr.post 3 = .hostWrite w offset lanes data →
    offset < windowSize w) ∧ windowSize .exchange ≤ 0x4000 := ⟨fun _ _ _ _ h => (by cases h), by decide⟩
theorem witness_PartEventsKeepHostSide : partEvent .samplePeriodExpiry = true ∧ running.dispatch.queue = [] ∧
    MemoryCanonical running ∧ exec .samplePeriodExpiry running = .next running :=
  ⟨rfl, rfl, canonical_of rfl, by
    show Host.Outcome.next (after .samplePeriodExpiry running) = _
    exact congrArg _ (by decide +kernel)⟩
theorem witness_StagingIsTheHosts : MemoryCanonical running ∧ Instr.hrstAssert ≠ .powerOnReset ∧
    (∀ w offset lanes data, Instr.hrstAssert ≠ .hostWrite w offset lanes data) :=
  ⟨canonical_of rfl, (by intro h; cases h), fun _ _ _ _ h => (by cases h)⟩
theorem witness_CommandsWithoutEffect : running.betweenEvents ∧ running.timerOf .pollTimerExpiry = some none ∧
    ∃ s : State, s.betweenEvents ∧ s.port.hrst = true ∧ hostAccess (.post 3) = true :=
  ⟨between_of ⟨rfl, rfl⟩, rfl, { running with port := { running.port with hrst := true } }, between_of ⟨rfl, rfl⟩, rfl, rfl⟩
theorem witness_SelfCheckEnd : State.reset.port.selfCheck = .underway ∧ State.reset.betweenEvents ∧
    State.reset.dispatch.queue = [] ∧ State.reset.sleep.power = .active ∧ running.port.selfCheck ≠ .underway ∧
    ((0x91 : Byte).toNat / 16 = 9 ∧ (0x81 : Byte).toNat / 16 ≠ 9) :=
  ⟨rfl, between_of ⟨rfl, rfl⟩, rfl, rfl, by decide, by decide⟩
/-- A base at rest, with a measured angle and without; a tablet alone. -/
theorem witness_HostReset : attached.atRestForReset ∧ running.atRestForReset ∧ MemoryCanonical attached ∧
    running.baseAttached = false ∧
    State.atRestForReset { attached with posture := { attached.posture with lastQuality := .good, lastAngle := 114 } } ∧
    attached.baseAttached = true ∧ attached.link.receiveQueue = [] ∧ (releasing .quiescing 0).attach.phase = some .quiescing ∧
    (releasing .claiming 1200).attach.phase = some .claiming ∧ pulsing.attach.phase = some .pulse ∧
    pulsing.attach.state = .releasing ∧ (releasing .window 0).attach.phase = some .window ∧
    pulsing.link.receiveQueue = [] ∧
    State.atRestForReset { running with posture := { running.posture with posture := .detached } } ∧
    running.posture.sensed = running.posture.oriented ∧ (running.faultEntry .wakeUnanswered).active = false :=
  ⟨atRest_of (by decide +kernel), atRest_of (by decide +kernel), canonical_of rfl, by decide +kernel,
    atRest_of (by decide +kernel), by decide +kernel, rfl, rfl, rfl, rfl, rfl, rfl, rfl, atRest_of (by decide +kernel), rfl,
    by decide +kernel⟩
theorem witness_HostWriteStores : running.sound ∧ running.port.hrst = false ∧ (0x0100 % 4 = 0 ∧ 0x04FC % 4 = 0) ∧
    running.settings.locked = false ∧ running.slotState 0 = .free ∧ (slotIn running 31 .done).slotState 31 = .done :=
  ⟨sound_of (by decide +kernel), rfl, by decide, rfl, by decide +kernel, by decide +kernel⟩
/-- One refusal of each kind, at a boundary of its range. -/
theorem witness_RefusedHostWrite : running.betweenEvents ∧ running.port.hrst = false ∧
    running.refusal .exchange 0x00FC 0xF = some .partRegion ∧ running.refusal .exchange 0x0D30 0xF = some .outside ∧
    running.refusal .exchange 0x0100 0x7 = some .misaligned ∧ running.refusal .exchange 0x1000 0xF = some .partRegion ∧
    running.refusal .exchange 0x3000 0xF = some .outside ∧ running.refusal .control 0x108 0xF = some .readOnly ∧
    (slotIn running 31 .posted).refusal .exchange 0x0CFC 0xF = some .slotBusy ∧
    State.refusal { running with settings := { running.settings with locked := true } } .exchange 0x04FC 0xF
      = some .settingsLocked := ⟨between_of ⟨rfl, rfl⟩, by decide +kernel⟩
theorem witness_ReadCountWrite : running.sound ∧ running.port.hrst = false ∧ running.link.receiveQueue = [] ∧
    running.link.owed = [] ∧ running.journal.gap = 0 ∧
    (((running.journalOf 0).writeCount - (65408 : Word).setWidth 16).toNat ≤ journalCapacity 0 ∧
      ¬ ((running.journalOf 0).writeCount - (65407 : Word).setWidth 16).toNat ≤ journalCapacity 0) :=
  ⟨sound_of (by decide +kernel), rfl, rfl, rfl, rfl, by decide +kernel⟩
/-- The Notice Journal at a write count of its own, with its read count 0, and a gap pending. -/
def notices (written : Half) (gap : Nat) : State :=
  { running with
    journal := { running.journal with
                 journals := running.journal.journals.set 2
                   { writeCount := written, readCount := 0, drops := 0, full := written == 128, invalidCount := false }
                 gap := gap } }
theorem witness_ReadCountWrite_gap : (notices 128 65535).sound ∧ (notices 128 65535).port.hrst = false ∧
    0 < (notices 128 65535).journal.gap ∧ (notices 128 65535).journal.gap ≤ 65535 ∧
    (((notices 128 65535).journalOf noticeJournal).writeCount - (0 : Word).setWidth 16).toNat = 128 ∧
    (((notices 128 65535).journalOf noticeJournal).writeCount - (1 : Word).setWidth 16).toNat = 127 ∧
    ¬ (((notices 128 65535).journalOf noticeJournal).writeCount - (129 : Word).setWidth 16).toNat ≤ 128 :=
  ⟨sound_of (by decide +kernel), by decide +kernel⟩
/-- The five rows of R20. -/
theorem witness_NoticeOffer : MemoryCanonical (notices 0 0) ∧ (notices 127 0).room noticeJournal = 1 ∧
    (notices 127 0).journal.gap = 0 ∧ (notices 128 0).room noticeJournal = 0 ∧ (notices 126 1).room noticeJournal = 2 ∧
    (notices 126 1).journal.gap = 1 ∧ (notices 127 1).room noticeJournal = 1 ∧
    (notices 128 65535).room noticeJournal = 0 ∧ (notices 128 65535).journal.gap = 65535 :=
  ⟨canonical_of rfl, by decide +kernel⟩
theorem witness_Post : State.reset.betweenEvents ∧ State.reset.port.phase = .booting ∧ State.reset.slotState 0 = .free ∧
    (slotIn running 31 .done).slotState 31 ≠ .free ∧ running.sound ∧ running.port.phase = .running ∧
    running.dispatch.queue = [] ∧ Request.ofCode (running.requestCode 0) = none :=
  ⟨between_of ⟨rfl, rfl⟩, rfl, by decide +kernel, by decide +kernel, sound_of (by decide +kernel), rfl, rfl,
    by decide +kernel⟩
/-- A slot TAKEN by a unit. -/
def serving (u : ServingUnit) (a : Bool) : State :=
  { running with
    dispatch := { Dispatcher.reset with
                  slots := Dispatcher.reset.slots.set 2 (.taken a)
                  serving := Dispatcher.reset.serving.set u.index (some 2) } }
/-- Slot 5 waits for the base unit, which serves slot 2; the given code stands in slot 0. -/
def queued (code : Byte) : State :=
  { serving .base false with
    mem := (State.reset.mem.put (slotBase 5 + 1) 0x40).put (slotBase 0 + 1) code
    dispatch := { (serving .base false).dispatch with
                  slots := (serving .base false).dispatch.slots.set 5 .posted, queue := [5] } }
theorem waits_of {s : State} {n : Fin 32} {r : Request}
    (h : Request.ofCode (s.requestCode n) = some r ∧ s.servingSlot r.servedBy ≠ none) : s.waitsForUnit n := ⟨r, h.1, h.2⟩
theorem queued_waits (code : Byte) (h : (queued code).requestCode 5 = 0x40) :
    ∀ m ∈ (queued code).dispatch.queue, (queued code).waitsForUnit m := by
  intro m hm
  obtain rfl : m = 5 := List.mem_singleton.mp hm
  have busy : (serving .base false).servingSlot .base ≠ none := by decide +kernel
  exact waits_of (r := .detach) ⟨by rw [h]; rfl, busy⟩
/-- A code that names no unit, one of the busy unit and one of an idle unit, each behind an entry that waits. -/
theorem witness_Post_queue : (∀ code ∈ ([0, 0x20, 0x40] : List Byte), (queued code).sound ∧
      (queued code).port.hrst = false ∧ (queued code).port.phase = .running ∧ (queued code).slotState 0 = .free ∧
      0 ∉ (queued code).dispatch.queue ∧ ∀ m ∈ (queued code).dispatch.queue, (queued code).waitsForUnit m) ∧
    Request.ofCode ((queued 0).requestCode 0) = none ∧ (queued 0x40).waitsForUnit 0 ∧
    Request.ofCode ((queued 0x20).requestCode 0) = some .calibrateHinge ∧ (queued 0x20).servingSlot .angle = none := by
  refine ⟨fun code hc => ?_, by decide +kernel, waits_of (r := .detach) (by decide +kernel), by decide +kernel,
    by decide +kernel⟩
  simp only [List.mem_cons, List.not_mem_nil, or_false] at hc
  rcases hc with rfl | rfl | rfl <;>
    exact ⟨sound_of (by decide +kernel), rfl, rfl, by decide +kernel, by decide +kernel,
      queued_waits _ (by decide +kernel)⟩
theorem witness_Release : running.slotState 0 = .free ∧ (serving .pen true).slotState 2 = .taken true ∧
    (slotIn running 31 .posted).slotState 31 = .posted ∧ (slotIn running 31 .done).slotState 31 = .done ∧
    (serving .base false).unitServing 2 = some .base ∧ (serving .base false).detachCancellable 2 = false ∧
    (serving .base false).slotState 2 = .taken false ∧ (serving .angle false).unitServing 2 = some .angle ∧
    (serving .angle false).sound ∧ (serving .angle false).dispatch.queue = [] :=
  ⟨by decide +kernel, by decide +kernel, by decide +kernel, by decide +kernel, by decide +kernel, by decide +kernel,
    by decide +kernel, by decide +kernel, sound_of (by decide +kernel), rfl⟩
theorem witness_Attention : running.betweenEvents ∧ running.port.hrst = false ∧
    ∃ s : State, s.attnLine = true ∧ running.attnLine = false ∧ s.attnTop = 9 :=
  ⟨between_of ⟨rfl, rfl⟩, rfl,
    { running with port := { running.port with attnLatch := 0x3FF, attnMask := 0x200 } }, by decide +kernel⟩
theorem witness_InputQuietFlush : ∃ s : State, s.betweenEvents ∧ s.journal.quiet = some 20 :=
  ⟨{ running with journal := { running.journal with quiet := some 20 } }, between_of ⟨rfl, rfl⟩, rfl⟩
theorem witness_requests_settings : running.sound ∧ running.takesAtOnce 31 .settings ∧ running.settings.locked = false ∧
    State.selectedBudget { running with settings := { running.settings with
      active := Settings.ofList (Machine.settle running.mem.settingWords) } } = running.allot.budget :=
  ⟨(running_ready 31 .settings).1, (running_ready 31 .settings).2, rfl, by decide +kernel⟩
/-- The lock set; a changed OFFSET while a calibration collects; a changed budget with nothing drawn. -/
theorem witness_ApplySettings : ∃ l o b : State, l.sound ∧ l.takesAtOnce 0 .settings ∧ l.settings.locked = true ∧
    o.sound ∧ o.takesAtOnce 0 .settings ∧ o.settings.locked = false ∧ o.angle.calibration ≠ none ∧
    (Settings.ofList (Machine.settle o.mem.settingWords)).offset ≠ o.settings.active.offset ∧
    State.selectedBudget { o with settings := { o.settings with
      active := Settings.ofList (Machine.settle o.mem.settingWords) } } = o.allot.budget ∧
    b.sound ∧ b.takesAtOnce 0 .settings ∧ b.settings.locked = false ∧ b.nothingDraws ∧
    State.selectedBudget { b with settings := { b.settings with
      active := Settings.ofList (Machine.settle b.mem.settingWords) } } ≠ b.allot.budget :=
  ⟨{ running with settings := { running.settings with locked := true } },
    { serving .angle false with
      mem := State.reset.mem.putLE (settingOffset 3) 4 7
      angle := { running.angle with calibration := some { run := 5, sum := 9, sets := 6 } } },
    { running with mem := State.reset.mem.putLE (settingOffset 25) 4 1300 },
    sound_of (by decide +kernel), takes_of (by decide +kernel), rfl, sound_of (by decide +kernel),
    takes_of (by decide +kernel), rfl, by decide, by decide +kernel, by decide +kernel, sound_of (by decide +kernel),
    takes_of (by decide +kernel), rfl, draws_of (by decide +kernel), by decide +kernel⟩
theorem witness_TopUpBelowTargetRule : (List.replicate 31 0).length = 31 ∧
    (clampOwn (List.replicate 31 100)).getD penTopUpIndex 0 < (clampOwn (List.replicate 31 100)).getD penTargetIndex 0 ∧
    ¬ (clampOwn (List.replicate 31 50)).getD penTopUpIndex 0 < (clampOwn (List.replicate 31 50)).getD penTargetIndex 0 := by
  decide +kernel
/-- The corner of log 29: target 50 with threshold 49 counts the threshold not at all, with threshold 50 once. -/
theorem test_netCount :
    let v (t : Nat) := ((List.replicate 31 0).set penTargetIndex 50).set penTopUpIndex t
    (changedOffsets 0 (v 49) (Machine.settle (v 49))).count (0x0100 + 4 * penTopUpIndex) = 0 ∧
      (changedOffsets 0 (v 50) (Machine.settle (v 50))).count (0x0100 + 4 * penTopUpIndex) = 1 := by decide +kernel
/-- The band that sixteen bands of zeros in Staging spell. -/
def zeroBand : Band :=
  { posture := .closed, lower := 0, upper := 0, margin := 0, pose := .any, keyboard := false, touchpad := false
    rotation := false, idleTimeout := 0, detachAllowed := false }
theorem witness_LoadPostureTable : running.takesAtOnce 0 .settings ∧
    running.mem.readBands 0 (16 : Word).toNat = .inl (List.replicate 16 zeroBand) ∧ 16 < (17 : Word).toNat ∧
    (running.mem.put 0x0E00 5).readBands 0 (1 : Word).toNat = .inr (0, 1) :=
  ⟨(running_ready 0 .settings).2, by decide +kernel, by decide, by decide +kernel⟩
theorem witness_ResetJournalAndAckFault : running.takesAtOnce 0 .settings ∧ running.link.receiveQueue = [] ∧
    running.link.owed = [] ∧ (2 : Word).toNat = (2 : Fin 3).val ∧ 2 < (3 : Word).toNat ∧ 7 < (8 : Word).toNat ∧
    (7 : Word).toNat = FaultKind.wakeUnanswered.index.val ∧ (running.faultEntry .wakeUnanswered).active = false :=
  ⟨(running_ready 0 .settings).2, by decide +kernel⟩
/-- A calibration that has come to a run and a set count, after a set of a quality. -/
def collecting (run sets : Nat) (q : Quality) : State :=
  { serving .angle false with
    angle := { running.angle with quality := q, calibration := some { run := run, sum := 0, sets := sets } } }
theorem witness_CalibrateHinge_sets :
    (collecting 31 199 .good).angle.calibration = some { run := 31, sum := 0, sets := 199 } ∧
    (collecting 30 199 .good).angle.quality = .good ∧ (collecting 30 198 .hall).angle.quality = .hall ∧
    (collecting 0 199 .held).angle.quality = .held ∧ (collecting 5 9 .unavailable).angle.quality = .unavailable ∧
    MemoryCanonical (collecting 5 9 .unavailable) ∧ (collecting 5 9 .unavailable).servingSlot .angle = some 2 ∧
    (collecting 5 9 .unavailable).slotState 2 = .taken false ∧
    ∃ s : State, s.sleep.power = .standby ∧ s.angle.calibration.isSome = true :=
  ⟨rfl, rfl, rfl, rfl, rfl, canonical_of rfl, by decide +kernel, by decide +kernel,
    { collecting 5 9 .good with sleep := { running.sleep with power := .standby } }, rfl, rfl⟩
/-- The means at which CALIBRATE_HINGE's clauses meet. -/
theorem witness_CalibrateHinge : running.takesAtOnce 0 .angle ∧ MemoryCanonical (serving .angle false) ∧
    (serving .angle false).servingSlot .angle = some 2 ∧ (serving .angle false).slotState 2 = .taken false ∧
    ((16399 : Int) + 16) / 32 = 512 ∧ (512 : Int) < (16400 + 16) / 32 ∧ ((-16400 : Int) + 16) / 32 = -512 ∧
    ((-16401 : Int) + 16) / 32 < -512 :=
  ⟨(running_ready 0 .angle).2, canonical_of (by decide +kernel), by decide +kernel⟩

theorem witness_SetRotationLock : running.sound ∧ running.takesAtOnce 0 .posture ∧ 1 < (2 : Word).toNat ∧
    (3 : Word).toNat ≤ 3 ∧ 3 < (4 : Word).toNat ∧ running.rotationAllowed = false ∧ running.posture.lock = none :=
  ⟨(running_ready 0 .posture).1, (running_ready 0 .posture).2, by decide +kernel⟩
/-- A state for each refusal of R131, and one that is refused by none. -/
theorem witness_DetachRefused : running.sound ∧ running.takesAtOnce 0 .base ∧ running.attach.state.inRelease = false ∧
    attached.takesAtOnce 0 .base ∧ attached.detachAllowed = true ∧ attached.attach.state = .attached ∧
    attached.attach.pulses.length < attached.settings.active.pulseLimit ∧
    State.detachAllowed { attached with posture := { attached.posture with posture := .detached } } = false ∧
    State.judgeClaim { attached with sleep := { attached.sleep with power := .doze } } = some (.notNow, 3, 0) ∧
    State.judgeClaim { attached with
      attach := { attached.attach with pulses := [0, 0, 0, 0, 0, 0, 0, 0] } } = some (.notNow, 4, 60000) ∧
    State.judgeClaim { attached with allot := { attached.allot with budget := 1199 } } = some (.noPower, 0, 1199) :=
  ⟨(running_ready 0 .base).1, (running_ready 0 .base).2, rfl, takes_of (by decide +kernel), by decide +kernel⟩
/-- A DETACH in QUIESCING whose coil rests. -/
def quiescing : State := releasing .quiescing 0
theorem witness_DetachAcceptedAndCancelled : attached.sound ∧ attached.takesAtOnce 0 .base ∧ attached.noInputWaits ∧
    attached.detachAllowed = true ∧ attached.sleep.power = .active ∧ 1200 ≤ attached.allot.budget ∧
    attached.link.state = .ready ∧ quiescing.sound ∧ quiescing.noInputWaits ∧ quiescing.slotState 2 = .taken false ∧
    quiescing.unitServing 2 = some .base ∧ quiescing.attach.phase = some .quiescing ∧ quiescing.attach.request = some 2 ∧
    quiescing.attach.origin = .request ∧ quiescing.attach.coil = false ∧ quiescing.allot.demand.coil = 0 ∧
    quiescing.attach.detect.level = true ∧ quiescing.link.state = .quiesced ∧ quiescing.dispatch.queue = [] :=
  ⟨sound_of (by decide +kernel), takes_of (by decide +kernel), noInput_of (by decide +kernel), by decide +kernel,
    by decide +kernel, by decide +kernel, rfl, sound_of (by decide +kernel), noInput_of (by decide +kernel),
    by decide +kernel, by decide +kernel, rfl, rfl, rfl, rfl, rfl, rfl, rfl, rfl⟩
/-- A DEGRADED base whose link has faulted and draws nothing, a pen with a demand and the grant of it. -/
def degraded (pen : Nat) : State :=
  { attached with
    link := { attached.link with state := .faulted, timer := none, holdOff := true }
    attach := { attached.attach with state := .degraded }
    allot := { attached.allot with demand := ⟨0, 0, pen, 0⟩, grant := ⟨0, 0, pen, 0⟩, faultedOff := true } }
theorem witness_DetachAccepted_degraded : (∀ pen ∈ [0, 400], (degraded pen).sound ∧ (degraded pen).takesAtOnce 0 .base ∧
      (degraded pen).noInputWaits ∧ (degraded pen).attach.state = .degraded ∧ (degraded pen).detachAllowed = true ∧
      (degraded pen).sleep.power = .active ∧
      (degraded pen).attach.pulses.length < (degraded pen).settings.active.pulseLimit ∧
      1200 ≤ (degraded pen).allot.budget ∧ (degraded pen).link.state ≠ .ready ∧
      (degraded pen).allot.demand = ⟨0, 0, pen, 0⟩ ∧ (degraded pen).allot.grant = ⟨0, 0, pen, 0⟩ ∧
      (degraded pen).allot.awaiting = []) ∧ 150 ≤ 400 ∧ (degraded 400).allot.budget < 1200 + 400 := by
  refine ⟨fun pen hp => ?_, by decide +kernel⟩
  simp only [List.mem_cons, List.not_mem_nil, or_false] at hp
  rcases hp with rfl | rfl <;>
    exact ⟨sound_of (by decide +kernel), takes_of (by decide +kernel), noInput_of (by decide +kernel), by decide +kernel⟩
/-- A release begun by the button, that nothing has joined. -/
def buttoned : State :=
  { quiescing with
    dispatch := Dispatcher.reset, attach := { quiescing.attach with origin := .button, request := none } }
/-- A coil claim that waits for the pen's power, the link in a state, for the DETACH of slot 2. -/
def claiming (l : LinkState) : State :=
  { releasing .claiming 1200 with
    link := { attached.link with state := l }
    allot := { attached.allot with
               demand := ⟨1200, 250, 400, 0⟩, grant := ⟨0, 250, 0, 0⟩, increases := { noIncreases with coil := some 1200 }
               awaiting := [⟨.pen, 100⟩] } }
theorem witness_DetachJoins : buttoned.sound ∧ buttoned.takesAtOnce 0 .base ∧ buttoned.attach.state.inRelease = true ∧
    buttoned.attach.request = none ∧
    ∃ s : State, s.sound ∧ s.dispatch.queue = [] ∧ s.slotState 2 = .taken false ∧ s.unitServing 2 = some .base ∧
      s.attach.state = .releasing ∧ s.attach.phase = some .claiming ∧ s.attach.request = some 2 ∧
      s.attach.origin = .button :=
  ⟨sound_of (by decide +kernel), takes_of (by decide +kernel), rfl, rfl,
    { claiming .quiesced with attach := { (claiming .quiesced).attach with origin := .button } },
    sound_of (by decide +kernel), rfl, by decide +kernel, by decide +kernel, rfl, rfl, rfl, rfl⟩
theorem witness_DetachCancelled_claiming : ∀ l ∈ [LinkState.quiesced, .faulted], (claiming l).sound ∧
    (claiming l).noInputWaits ∧ GrantsWithinTargets (claiming l) ∧ (claiming l).port.hrst = false ∧
    (claiming l).dispatch.queue = [] ∧ (claiming l).slotState 2 = .taken false ∧
    (claiming l).unitServing 2 = some .base ∧ (claiming l).attach.state = .releasing ∧
    (claiming l).attach.phase = some .claiming ∧ (claiming l).attach.request = some 2 ∧
    (claiming l).attach.origin = .request ∧ (claiming l).attach.coil = false ∧
    (claiming l).attach.detect.level = true ∧ (claiming l).allot.demand.coil = 1200 ∧ (claiming l).link.state = l := by
  intro l hl
  simp only [List.mem_cons, List.not_mem_nil, or_false] at hl
  rcases hl with rfl | rfl <;>
    exact ⟨sound_of (by decide +kernel), noInput_of (by decide +kernel), grants_of (by decide +kernel), by decide +kernel⟩
theorem witness_AllotmentRequests_backlight : attached.takesAtOnce 0 .base ∧ attached.sound ∧ GrantsWithinTargets attached ∧
    attached.allot.increases = noIncreases ∧ attached.allot.awaiting = [] ∧ attached.attach.phase = none ∧
    attached.allot.level = attached.allot.grant.backlight / 150 ∧ (3 : Word).toNat ≤ 3 ∧ 3 < (4 : Word).toNat ∧
    running.allot.demand.backlight = (if running.link.capBacklight then 150 else 0) :=
  ⟨takes_of (by decide +kernel), sound_of (by decide +kernel), grants_of (by decide +kernel), by decide +kernel⟩
theorem witness_AllotmentRequests_source : running.takesAtOnce 0 .power ∧ running.nothingDraws ∧ 2 < (3 : Word).toNat ∧
    (1 : Word).toNat = PowerSource.battery.code ∧ (2 : Word).toNat = PowerSource.batteryLow.code ∧
    State.selectedBudget { running with allot := { running.allot with source := .battery } } = running.allot.budget :=
  ⟨(running_ready 0 .power).2, draws_of (by decide +kernel), by decide +kernel⟩
/-- A paired-pen table of four, the oldest of them seated. -/
def paired : State :=
  { running with
    pen := { running.pen with
             identity := 5, table := ((((running.pen.table.set 0 ⟨5, 7, 0⟩).set 1 ⟨6, 7, 1⟩).set 2 ⟨7, 7, 2⟩).set 3 ⟨8, 7, 3⟩) }
    allot := { running.allot with demand := ⟨0, 0, 400, 0⟩ } }
theorem witness_PenTable : paired.takesAtOnce 0 .pen ∧ paired.sound ∧ running.takesAtOnce 0 .pen ∧
    paired.pen.table[(0 : Fin 4)].identity = paired.pen.identity ∧
    (∀ j : Fin 4, paired.pen.table[j].identity ≠ 9 ∧ paired.pen.table[j].identity ≠ 0) ∧
    (∀ j : Fin 4, j ≠ 0 → paired.pen.table[j].identity ≠ paired.pen.identity) ∧ 300 < paired.allot.demand.pen ∧
    running.pen.table[(0 : Fin 4)].identity = 0 ∧ running.allot.demand.pen ≤ 300 ∧
    (∀ j : Fin 4, elapsed 9 paired.pen.table[j].lastSeen ≤ elapsed 9 paired.pen.table[(0 : Fin 4)].lastSeen) :=
  ⟨takes_of (by decide +kernel), sound_of (by decide +kernel), (running_ready 0 .pen).2, by decide +kernel⟩
theorem witness_PenChargeMode : running.takesAtOnce 0 .pen ∧ running.pen.state = .absent ∧
    ∃ s h : State, s.takesAtOnce 0 .pen ∧ s.sound ∧ s.pen.state = .charging ∧ h.takesAtOnce 0 .pen ∧ h.pen.state = .held :=
  ⟨(running_ready 0 .pen).2, rfl, { running with pen := { running.pen with state := .charging } },
    { running with pen := { running.pen with state := .held } }, takes_of (by decide +kernel), sound_of (by decide +kernel),
    rfl, takes_of (by decide +kernel), rfl⟩
theorem witness_HoldAwakeRequest : running.takesAtOnce 0 .sleep ∧ running.sleep.host = .on ∧ asleep.sound ∧
    asleep.takesAtOnce 0 .sleep ∧ asleep.sleep.host = .sleeping ∧ (3600000 : Word).toNat ≤ 3600000 ∧
    3600000 < (3600001 : Word).toNat :=
  ⟨(running_ready 0 .sleep).2, rfl, sound_of (by decide +kernel), takes_of (by decide +kernel), rfl, by decide, by decide⟩
theorem witness_HostStateRequest : running.takesAtOnce 0 .sleep ∧ running.nothingDraws ∧ running.sleep.power = .active ∧
    (255 : Word).toNat ≤ 255 ∧ 255 < (256 : Word).toNat ∧ (1 : Word).toNat ≤ 1 ∧ 1 < (2 : Word).toNat ∧
    asleep.takesAtOnce 0 .sleep ∧ asleep.nothingDraws ∧ asleep.posture.posture ≠ .closed ∧
    asleep.settings.active.lidCloseGrace ≠ 0 ∧
    ∃ s : State, s.takesAtOnce 0 .sleep ∧ s.nothingDraws ∧ s.sleep.host = .sleeping ∧ s.posture.posture = .closed ∧
      s.settings.active.lidCloseGrace = 0 :=
  ⟨(running_ready 0 .sleep).2, draws_of (by decide +kernel), rfl, by decide, by decide, by decide, by decide,
    takes_of (by decide +kernel), draws_of (by decide +kernel), by decide, by decide +kernel,
    { asleep with
      posture := { asleep.posture with posture := .closed }
      settings := { asleep.settings with active := { asleep.settings.active with lidCloseGrace := 0 } } },
    takes_of (by decide +kernel), draws_of (by decide +kernel), rfl, rfl, rfl⟩

/-- `attached` with a sample period of another length than the one in force. -/
def sampling : State :=
  { attached with sensor := { attached.sensor with timer := some 5, period := 21, read := .inFlight 20 } }
theorem witness_SamplePeriodExpiry : sampling.betweenEvents ∧ sampling.sensor.timer = some 5 ∧
    sampling.periodInForce ≠ sampling.sensor.period ∧ sampling.link.state = .ready ∧ sampling.link.sending = none ∧
    sampling.link.transmitList = [] ∧
    ∃ b c : State, b.betweenEvents ∧ b.sensor.timer = some 5 ∧ b.periodInForce ≠ b.sensor.period ∧
      b.link.state = .quiesced ∧ b.link.sending = some .quiesce ∧ b.link.transmitList = [] ∧
      c.sensor.timer = some 5 ∧ c.periodInForce ≠ c.sensor.period ∧ c.link.state = .ready ∧
      c.link.sending = some .resume ∧ c.link.transmitList = [.light 1] ++ .rate 7 :: [] :=
  ⟨between_of ⟨rfl, rfl⟩, by decide +kernel, by decide +kernel, rfl, rfl, rfl,
    { sampling with link := { sampling.link with state := .quiesced, sending := some .quiesce } },
    { sampling with link := { sampling.link with sending := some .resume, transmitList := [.light 1, .rate 7] } },
    between_of ⟨rfl, rfl⟩, by decide +kernel⟩
/-- A read in flight of a base reading just fresh, at the ends of the runs of good and failed reads. -/
def reading (good failed : Nat) : State :=
  { sampling with
    now := 140
    sensor := { sampling.sensor with
                goodRun := good, failRun := failed, holding := some { x := 1, y := 2, z := 3547, arrival := 100 } } }
theorem witness_LidReadCompletion : running.betweenEvents ∧ running.sensor.read = .idle ∧
    State.betweenEvents { running with sensor := { running.sensor with read := .discarding } } ∧
    (reading 9 0).betweenEvents ∧ (reading 9 0).sensor.read = .inFlight 20 ∧ (reading 9 0).dispatch.queue = [] ∧
    (reading 9 0).sensor.goodRun ≤ 10 ∧ (reading 0 2).sensor.failRun ≤ 3 ∧
    ((0x91 : Byte).toNat / 16 = 9 ∧ (0x91 : Byte).getLsbD 0 = true) ∧ (0x90 : Byte).getLsbD 0 = false ∧
    (reading 9 0).now.toNat - 100 ≤ 2 * 20 ∧ ((reading 9 0).noInputWaits ∧ AttachFollowsDetect (reading 9 0)) ∧
    MemoryCanonical (reading 9 0) ∧
    (reading 9 0).sleep.power = .active ∧ 1 ≤ (reading 9 0).room sampleJournal ∧
    ∃ s d : State, s.room sampleJournal = 0 ∧ s.sleep.power = .active ∧ s.sensor.read = .inFlight 20 ∧
      d.sleep.power ≠ .active ∧ d.sensor.read = .inFlight 20 :=
  ⟨between_of ⟨rfl, rfl⟩, rfl, between_of ⟨rfl, rfl⟩, between_of ⟨rfl, rfl⟩, rfl, rfl, by decide, by decide, by decide,
    by decide, by decide, ⟨noInput_of (by decide +kernel), follows_of (by decide)⟩, canonical_of rfl, rfl, by decide +kernel,
    { reading 9 0 with
      journal := { running.journal with
                   journals := running.journal.journals.set 0
                     { writeCount := 128, readCount := 0, drops := 0, full := true, invalidCount := false } } },
    { reading 9 0 with sleep := asleep.sleep }, by decide +kernel⟩
/-- A set as a sound lid and a flat base give it. -/
def someSet : SampleSet :=
  { seq := 0, time := 0, lidGood := true, lidSensor := false, lidX := 0, lidY := 4096, lidZ := 0, fresh := true
    baseX := 0, baseY := 0, baseZ := 3547, saturated := false, lidClosed := false, foldBack := false, period := 20 }
/-- A set for each way through the angle unit, with and without a base and a value. -/
theorem witness_AngleOfSet : attached.eligibility someSet = .computed ∧
    attached.eligibility { someSet with lidGood := false } = .unavailable .signal ∧
    attached.eligibility { someSet with fresh := false } = .unavailable .base ∧
    running.eligibility someSet = .unavailable .base ∧
    attached.eligibility { someSet with saturated := true } = .skipped false false ∧
    attached.eligibility { someSet with lidY := 1228 } = .skipped true false ∧
    attached.hallAngle { someSet with foldBack := true } = some (4096, .high) ∧
    attached.hallAngle { someSet with lidClosed := true, foldBack := true } = none ∧ attached.hallAngle someSet = none := by
  decide +kernel
/-- The posture unit with a committed posture and band, at a reported angle of a quality. -/
def postured (p : Posture) (band : Option Nat) (angle : Nat) (q : Quality) : State :=
  { attached with
    posture := { running.posture with posture := p, band := band, basePose := .flat }
    angle := { running.angle with reported := angle, quality := q } }
/-- The widened bounds of LAPTOP end at 2446; from 2447 STAND is the first that fits a flat base, and with no pose none. -/
theorem witness_PostureOfSet :
    (postured .laptop (some 1) 2446 .good).postureSet someSet
      = (postured .laptop (some 1) 2446 .good).postureSet { someSet with seq := 0 } ∧
    ((defaultTable[1]?.map fun b => (b.keeps 2446 .flat, b.keeps 2447 .flat)) = some (true, false)) ∧
    firstFit 2447 .flat 0 defaultTable = (defaultTable[3]?.map fun b => (3, b)) ∧
    firstFit 2447 .unknown 0 defaultTable = none ∧ attached.baseAttached = true ∧
    (postured .laptop (some 1) 2447 .good).settings.table = defaultTable ∧ running.attach.state = .detached ∧
    ∃ s : State, s.attach.state = .seating ∧ s.posture.posture = .detached :=
  ⟨rfl, by decide +kernel, by decide +kernel, by decide +kernel, by decide +kernel, rfl, rfl,
    { postured .detached none 0 .unavailable with attach := { attached.attach with state := .seating } }, rfl, rfl⟩
/-- A lid upright, turned by a quarter, flat, and not to be used; rotation free in DETACHED and forbidden in UNKNOWN. -/
theorem witness_OrientationOfSet : atan2 0 4096 = 0 ∧ atan2 4096 0 = 1024 ∧
    ¬ (max 0 4096 + min 0 4096 / 2 < running.settings.active.flatMin) ∧
    (max 0 100 + min 0 100 / 2 < running.settings.active.flatMin) ∧
    512 + running.settings.active.rotationHysteresis < 1024 ∧ running.rotationAllowed = false ∧
    running.posture.lock = none ∧
    State.rotationAllowed { running with posture := { running.posture with posture := .detached } } = true := by
  decide +kernel
/-- Every debounce runs, towards the other level. -/
def bouncing : State :=
  { running with
    sensor := { running.sensor with
                lidClosed := { line := true, level := false, timer := some 5 }
                foldBack := { line := true, level := false, timer := some 5 } }
    pen := { running.pen with penIn := { line := true, level := false, timer := some 5 } }
    sleep := { running.sleep with button := { line := true, level := false, timer := some 5 } }
    attach := { running.attach with detect := { line := true, level := false, timer := some 5 } } }
theorem witness_DebouncedLines : bouncing.betweenEvents ∧ bouncing.dispatch.queue = [] ∧ bouncing.hostOn = true ∧
    bouncing.sensor.lidClosed.timer = some 5 ∧ bouncing.sensor.foldBack.timer = some 5 ∧
    bouncing.pen.penIn.timer = some 5 ∧ bouncing.sleep.button.timer = some 5 ∧ bouncing.sleep.button.line = true ∧
    bouncing.sleep.button.level = false := ⟨between_of ⟨rfl, rfl⟩, by decide +kernel⟩
/-- The host asleep as every debounce ends, the lid's and the pen's towards inactive, with every wake source enabled or none. -/
def stirring (mask : Byte) : State :=
  { bouncing with
    sensor := { bouncing.sensor with lidClosed := { line := false, level := true, timer := some 5 } }
    pen := { paired.pen with penIn := { line := false, level := true, timer := some 5 } }
    sleep := { asleep.sleep with wakeMask := mask, button := bouncing.sleep.button } }
theorem witness_DebouncedLines_wake : ∀ mask ∈ ([0, 255] : List Byte), (stirring mask).betweenEvents ∧
    (stirring mask).nothingDraws ∧ (stirring mask).dispatch.queue = [] ∧ (stirring mask).hostOn = false ∧
    (stirring mask).sensor.lidClosed.timer = some 5 ∧ (stirring mask).sensor.lidClosed.line = false ∧
    (stirring mask).sensor.lidClosed.level = true ∧ (stirring mask).pen.penIn.timer = some 5 ∧
    (stirring mask).pen.penIn.line = false ∧ (stirring mask).sleep.button.timer = some 5 ∧
    (stirring mask).sleep.button.line = true ∧ (stirring mask).sleep.button.level = false ∧
    (stirring mask).pen.table[(0 : Fin 4)].identity = (stirring mask).pen.identity ∧ (stirring mask).pen.identity ≠ 0 := by
  intro mask hm
  simp only [List.mem_cons, List.not_mem_nil, or_false] at hm
  rcases hm with rfl | rfl <;> exact ⟨between_of ⟨rfl, rfl⟩, draws_of (by decide +kernel), by decide +kernel⟩
/-- A seated base whose loss is about to be debounced. -/
def leaving : State :=
  { attached with attach := { attached.attach with detect := { line := false, level := true, timer := some 5 } } }
theorem witness_DetectSettles : bouncing.noInputWaits ∧ bouncing.coilAndBaseOnly ∧ bouncing.attach.detect.timer = some 5 ∧
    bouncing.attach.state = .detached ∧ bouncing.link.state = .absent ∧ bouncing.allot.demand.base = 0 ∧
    bouncing.allot.grant = ⟨0, 0, 0, 0⟩ ∧ bouncing.allot.increases = noIncreases ∧ 250 ≤ bouncing.allot.budget ∧
    bouncing.sleep.withdrawal = false ∧ leaving.noInputWaits ∧ leaving.coilAndBaseOnly ∧ leaving.betweenEvents ∧
    leaving.hostOn = true ∧ leaving.attach.state ≠ .detached ∧ leaving.attach.detect.timer = some 5 ∧
    leaving.allot.demand.base = 250 :=
  ⟨noInput_of (by decide +kernel), coilAndBase_of (by decide +kernel), rfl, rfl, rfl, rfl, rfl, rfl, by decide +kernel, rfl,
    noInput_of (by decide +kernel), coilAndBase_of (by decide +kernel), between_of ⟨rfl, rfl⟩, rfl, by decide, rfl, rfl⟩
/-- Slots are consistent where none is POSTED and the base unit alone serves one, slot 2, which is TAKEN. -/
theorem slots_of {s : State} (hq : s.dispatch.queue = [] ∧ ∀ n, s.slotState n ≠ .posted)
    (ht : s.slotState 2 = .taken false ∨ s.slotState 2 = .taken true)
    (hu : ∀ u, s.servingSlot u = if u = .base then some 2 else none) : SlotsConsistent s := by
  have base : ∀ u n, s.servingSlot u = some n → u = .base ∧ n = 2 := by
    intro u n h
    rw [hu] at h
    split at h
    · exact ⟨by assumption, (Option.some.inj h).symm⟩
    · cases h
  refine ⟨by rw [hq.1]; exact List.nodup_nil, fun n => ⟨fun h => ?_, fun h => absurd h (hq.2 n)⟩, ?_, ?_⟩
  · rw [hq.1] at h; cases h
  · intro u n h
    rw [(base u n h).2]
    exact ht.elim (fun h => ⟨_, h⟩) (fun h => ⟨_, h⟩)
  · intro u v n h k
    rw [(base u n h).1, (base v n k).1]
/-- A base that leaves in the midst of a pulse. -/
def pulled : State :=
  { pulsing with attach := { pulsing.attach with detect := { line := false, level := true, timer := some 5 } } }
theorem witness_DetectSettles_release : pulled.betweenEvents ∧ pulled.noInputWaits ∧ pulled.coilAndBaseOnly ∧
    pulled.dispatch.queue = [] ∧ pulled.hostOn = true ∧ pulled.attach.detect.timer = some 5 ∧
    pulled.attach.state.inRelease = true ∧ pulled.attach.detect.line = false ∧ MemoryCanonical pulled ∧
    pulled.attach.request = some 2 ∧ pulled.servingSlot .base = some 2 ∧ pulled.slotState 2 = .taken false ∧
    (slotIn pulled 2 (.taken true)).slotState 2 = .taken true ∧ SlotsConsistent pulled ∧
    SlotsConsistent (slotIn pulled 2 (.taken true)) :=
  ⟨between_of ⟨rfl, rfl⟩, noInput_of (by decide +kernel), coilAndBase_of (by decide +kernel), rfl, rfl, rfl, rfl, rfl,
    canonical_of rfl, rfl, by decide +kernel, by decide +kernel, by decide +kernel,
    slots_of (by decide +kernel) (by decide +kernel) fun u => by cases u <;> decide +kernel,
    slots_of (by decide +kernel) (by decide +kernel) fun u => by cases u <;> decide +kernel⟩
/-- Every timer of the posture unit runs. -/
def dwelling : State :=
  { attached with posture := { attached.posture with
      candidate := some 0, dwell := some 5, unavailable := some 5, orientationDwell := some 5
      orientationCandidate := .portrait } }
theorem witness_PostureTimers : dwelling.betweenEvents ∧ dwelling.noInputWaits ∧ dwelling.hostOn = true ∧
    dwelling.dispatch.queue = [] ∧ dwelling.posture.dwell = some 5 ∧ dwelling.posture.candidate = some 0 ∧
    (dwelling.settings.table[0]?.isSome = true) ∧ dwelling.posture.unavailable = some 5 ∧
    dwelling.posture.orientationDwell = some 5 ∧ dwelling.posture.orientationCandidate ≠ dwelling.posture.oriented ∧
    (dwelling.settings.table.all fun b => decide (b.posture ≠ .detached ∧ b.posture ≠ .unknown)) = true :=
  ⟨between_of ⟨rfl, rfl⟩, noInput_of (by decide +kernel), by decide +kernel⟩
/-- The Input Journal at a write count of its own, with its read count 0. -/
def inputs (s : State) (written : Half) : State :=
  { s with journal := { s.journal with
      journals := s.journal.journals.set 1
        { writeCount := written, readCount := 0, drops := 0, full := written == 256, invalidCount := false } } }
/-- The check bytes of packets the tests write out. -/
theorem test_packet : packet [0x22, 30, 1] = [0x22, 30, 1, 0xBF] ∧ packet [0x60] = [0x60, 0xA0] ∧
    packet [0x71, 9] = [0x71, 9, 0x86] := by decide +kernel
/-- `attached` with a key waiting, and with no room for it. -/
def keyWaits : State :=
  inputs { attached with link := { attached.link with receiveQueue := [{ packet := .key 30 true, arrival := 0 }] } } 256
/-- A queue of sixteen packets that wait for room. -/
def crowded : State :=
  { keyWaits with link := { keyWaits.link with
      receiveQueue := List.replicate 16 { packet := .key 30 true, arrival := 0 } } }
theorem witness_PacketArrival_sample : attached.betweenEvents ∧ attached.link.state = .ready ∧
    attached.link.ignoring = false ∧ attached.link.receiveQueue = [] ∧ attached.link.owed = [] ∧
    keyWaits.room inputJournal = 0 ∧ keyWaits.link.receiveQueue.length < 16 ∧
    (∀ r ∈ keyWaits.link.receiveQueue, r.packet.isInput = true) ∧ crowded.link.receiveQueue.length = 16 ∧
    (∀ r ∈ crowded.link.receiveQueue, r.packet.isInput = true) ∧ crowded.room inputJournal = 0 ∧
    (parsePacket (packet [0x60]) = some .button ∧ parsePacket (packet [0x22, 30, 1]) = some (.key 30 true)) ∧
    running.link.state.receiving = false :=
  ⟨between_of ⟨rfl, rfl⟩, by decide +kernel⟩
/-- BASE_STATUS, BUTTON and ACK, each with a state for its clause. -/
theorem witness_PacketArrival_units : attached.linkListens ∧ attached.linkAlone ∧
    (0 : Byte).toNat = attached.link.lastLevelSent ∧ (1 : Byte).toNat ≠ attached.link.lastLevelSent ∧
    attached.link.capBacklight = true ∧ attached.link.sending = none ∧ attached.link.transmitList = [] ∧
    attached.link.capButton = false ∧ attached.detachAllowed = true ∧ attached.sleep.power = .active ∧
    attached.attach.pulses.length < attached.settings.active.pulseLimit ∧ 1200 ≤ attached.allot.budget ∧
    quiescing.linkListens ∧ quiescing.attach.phase = some .quiescing ∧ quiescing.attach.state = .releasing ∧
    quiescing.allot.demand = ⟨0, 250, 0, 0⟩ ∧ 1450 ≤ quiescing.allot.budget ∧
    attached.attach.phase ≠ some .quiescing ∧ attached.allot.awaiting = [] ∧ attached.noInputWaits ∧
    ∃ b c d e : State, b.linkListens ∧ b.link.capButton = true ∧ b.attach.state = .seating ∧ c.linkListens ∧
      c.link.capButton = true ∧ c.attach.state = .attached ∧ c.noInputWaits ∧ d.linkListens ∧
      d.allot.awaiting = [⟨.backlight, 100⟩] ∧ d.noInputWaits ∧ d.link.transmitList = [.light 0] ∧
      d.link.lastLevelSent = 0 ∧ e.linkListens ∧ .light 1 ∈ e.link.transmitList ∧ 1 ≠ e.link.lastLevelSent :=
  ⟨listens_of (by decide +kernel), linkAlone_of (by decide +kernel), rfl, by decide, rfl, rfl, rfl, rfl, by decide +kernel,
    rfl, by decide +kernel, by decide +kernel, listens_of (by decide +kernel), rfl, rfl, rfl, by decide +kernel, by decide,
    rfl, noInput_of (by decide +kernel),
    { attached with link := { attached.link with capButton := true }, attach := { attached.attach with state := .seating } },
    { attached with link := { attached.link with capButton := true } },
    { attached with
      link := { attached.link with sending := some .quiesce, transmitList := [.light 0] }
      allot := { attached.allot with awaiting := [⟨.backlight, 100⟩] } },
    { attached with link := { attached.link with sending := some .quiesce, transmitList := [.light 1] } },
    listens_of (by decide +kernel), rfl, rfl, listens_of (by decide +kernel), rfl, rfl, noInput_of (by decide +kernel),
    listens_of (by decide +kernel), rfl, noInput_of (by decide +kernel), rfl, rfl, listens_of (by decide +kernel),
    List.mem_singleton.mpr rfl, by decide⟩
/-- A base with a button, for each refusal of R131 that a BUTTON finds. -/
theorem witness_PacketArrival_refusals : ∃ a b c d : State,
    (a.linkListens ∧ a.betweenEvents ∧ a.link.capButton = true ∧ a.attach.state = .attached ∧ a.detachAllowed = false) ∧
    (b.linkListens ∧ b.betweenEvents ∧ b.link.capButton = true ∧ b.attach.state = .attached ∧ b.detachAllowed = true ∧
      b.sleep.power ≠ .active) ∧
    (c.linkListens ∧ c.betweenEvents ∧ c.link.capButton = true ∧ c.attach.state = .attached ∧ c.detachAllowed = true ∧
      c.sleep.power = .active ∧ ¬ c.attach.pulses.length < c.settings.active.pulseLimit ∧ c.attach.pulses ≠ []) ∧
    d.linkListens ∧ d.betweenEvents ∧ d.link.capButton = true ∧ d.attach.state = .attached ∧ d.detachAllowed = true ∧
      d.sleep.power = .active ∧ d.attach.pulses.length < d.settings.active.pulseLimit ∧ d.allot.budget < 1200 :=
  let b : State := { attached with link := { attached.link with capButton := true } }
  ⟨{ b with posture := { b.posture with posture := .detached } }, { b with sleep := { b.sleep with power := .doze } },
    { b with attach := { b.attach with pulses := [0, 0, 0, 0] } }, { b with allot := { b.allot with budget := 1199 } },
    ⟨listens_of (by decide +kernel), between_of ⟨rfl, rfl⟩, by decide +kernel⟩,
    ⟨listens_of (by decide +kernel), between_of ⟨rfl, rfl⟩, by decide +kernel⟩,
    ⟨listens_of (by decide +kernel), between_of ⟨rfl, rfl⟩, by decide +kernel⟩,
    listens_of (by decide +kernel), between_of ⟨rfl, rfl⟩, by decide +kernel⟩
/-- A base in GREETING that has said HELLO, seating. -/
def greeted : State :=
  { linkTimed .greeting .greeting with
    attach := { attached.attach with state := .seating }
    link := { (linkTimed .greeting .greeting).link with stage := .awaitAck } }
theorem witness_BaseGreeting : greeted.betweenEvents ∧ greeted.link.ignoring = false ∧ greeted.link.receiveQueue = [] ∧
    greeted.link.owed = [] ∧ greeted.link.state = .greeting ∧ greeted.allot.demand.backlight = 150 * greeted.attach.wish ∧
    greeted.link.sending = none ∧ greeted.link.transmitList = [] ∧ greeted.linkAlone ∧ greeted.link.stage = .awaitAck ∧
    greeted.sensor.period = greeted.link.lastPeriodSent ∧ greeted.allot.level = greeted.link.lastLevelSent ∧
    (linkTimed .greeting .greeting).link.stage = .awaitHello ∧ attached.linkAlone ∧ attached.attach.wish = 0 ∧
    attached.allot.demand.backlight = 0 ∧
    ∃ b c : State, b.betweenEvents ∧ b.link.state = .greeting ∧ b.link.sending = some .quiesce ∧
      b.allot.demand.backlight = 150 * b.attach.wish ∧ c.betweenEvents ∧ c.link.state = .greeting ∧ c.noInputWaits ∧
      c.allot.demand = ⟨0, 250, 0, 0⟩ ∧ c.allot.grant = ⟨0, 250, 0, 0⟩ ∧ c.attach.phase = none ∧ c.attach.wish = 3 ∧
      c.allot.level = 0 ∧ 250 ≤ c.allot.budget ∧ c.allot.demand.backlight ≠ 150 * c.attach.wish :=
  ⟨between_of ⟨rfl, rfl⟩, rfl, rfl, rfl, rfl, rfl, rfl, rfl, linkAlone_of (by decide +kernel), rfl, rfl, rfl, rfl,
    linkAlone_of (by decide +kernel), rfl, rfl, { greeted with link := { greeted.link with sending := some .quiesce } },
    { greeted with attach := { greeted.attach with wish := 3 } }, between_of ⟨rfl, rfl⟩, rfl, rfl, rfl,
    between_of ⟨rfl, rfl⟩, rfl, noInput_of (by decide +kernel), rfl, rfl, rfl, rfl, rfl, by decide +kernel, by decide⟩
/-- The gate open and closed, the pressed keys below and at their limit, room and none, and releases owed. -/
theorem witness_InputGate : attached.sound ∧ attached.linkListens ∧ 1 ≤ attached.room inputJournal ∧
    attached.keyboardOpen = true ∧ attached.link.pressed.length < 16 ∧ attached.pointerOpen = true ∧
    (inputs attached 256).betweenEvents ∧ (inputs attached 256).linkListens ∧ (inputs attached 256).room inputJournal = 0 ∧
    ∃ c f o : State, c.sound ∧ c.linkListens ∧ 1 ≤ c.room inputJournal ∧ c.keyboardOpen = false ∧ c.pointerOpen = false ∧
      f.sound ∧ f.linkListens ∧ f.keyboardOpen = true ∧ f.link.pressed.length = 16 ∧ 1 ≤ f.room inputJournal ∧
      (5 : Byte) ∈ f.link.pressed ∧ (100 : Byte) ∉ f.link.pressed ∧ o.sound ∧ o.port.hrst = false ∧
      o.link.receiveQueue = [] ∧ o.link.owed = [.key 7, .pointer] ∧ o.room inputJournal = 0 ∧
      ((o.journalOf inputJournal).writeCount - (1 : Word).setWidth 16).toNat = 255 ∧
      ((o.journalOf inputJournal).writeCount - (2 : Word).setWidth 16).toNat = 254 :=
  ⟨sound_of (by decide +kernel), listens_of (by decide +kernel), by decide +kernel, by decide +kernel, by decide,
    by decide +kernel, between_of ⟨rfl, rfl⟩, listens_of (by decide +kernel), by decide +kernel,
    { attached with link := { attached.link with keyboardFlag := false, touchpadFlag := false } },
    { attached with link := { attached.link with pressed := [1, 2, 3, 4, 5, 6, 7, 8, 9, 10, 11, 12, 13, 14, 15, 16] } },
    inputs { attached with link := { attached.link with owed := [.key 7, .pointer] } } 256,
    sound_of (by decide +kernel), listens_of (by decide +kernel), by decide +kernel, by decide +kernel, by decide +kernel,
    sound_of (by decide +kernel), listens_of (by decide +kernel), by decide +kernel, by decide +kernel, by decide +kernel,
    by decide +kernel, by decide +kernel, sound_of (by decide +kernel), rfl, rfl, rfl, by decide +kernel, by decide +kernel,
    by decide +kernel⟩
theorem witness_ReceiverAndTransmitter : attached.link.state.receiving = true ∧ attached.betweenEvents ∧
    running.link.sending = none ∧ ∃ s : State, s.betweenEvents ∧ s.link.sending = some .quiesce ∧
      s.link.transmitList = [.rate 5] ∧ s.link.state.allows (.rate 5) = true :=
  ⟨rfl, between_of ⟨rfl, rfl⟩, rfl,
    { attached with link := { attached.link with sending := some .quiesce, transmitList := [.rate 5] } },
    between_of ⟨rfl, rfl⟩, rfl, rfl, rfl⟩
/-- Four discards within the last 1000 ms, the oldest just so; after fewer than three recoveries and after three. -/
def noisy (recoveries : Nat) : State :=
  { attached with
    now := 2000
    link := { attached.link with discards := [1000, 1500, 1999, 2000], recoveries := recoveries } }
theorem witness_ReceiverAndTransmitter_fifth : (∀ r, (noisy r).linkAlone ∧ (noisy r).betweenEvents) ∧
    (noisy 2).link.state.receiving = true ∧ (noisy 2).link.ignoring = false ∧
    5 ≤ ((noisy 2).link.discards.filter (fun t => decide (((noisy 2).now - t).toNat ≤ 1000)) ++ [(noisy 2).now]).length ∧
    (noisy 2).link.recoveries < 3 ∧ 3 ≤ (noisy 3).link.recoveries ∧ MemoryCanonical (noisy 2) ∧
    (noisy 2).journal.gap = 0 ∧ 1 ≤ (noisy 2).room noticeJournal ∧ parsePacket [0x60, 0xA1] = none :=
  ⟨fun r => ⟨linkAlone_of ⟨⟨rfl, rfl, rfl, rfl⟩, ⟨rfl, rfl, rfl, rfl, rfl⟩, rfl, rfl, rfl, rfl, rfl⟩, between_of ⟨rfl, rfl⟩⟩,
    rfl, rfl, by decide +kernel, by decide, by decide, canonical_of rfl, rfl, by decide +kernel, by decide +kernel⟩
theorem witness_LinkTimers : (linkTimed .greeting .greeting).linkAlone ∧ (linkTimed .supervision .ready).linkAlone ∧
    (linkTimed .recovery .lost).linkAlone ∧ (linkTimed .greeting .greeting).linkTimer .greeting = some 5 ∧
    (linkTimed .supervision .ready).linkTimer .supervision = some 5 ∧ (linkTimed .supervision .ready).link.recoveries < 3 ∧
    (linkTimed .recovery .lost).linkTimer .recovery = some 5 ∧ 0 < (linkTimed .recovery .lost).allot.grant.base ∧
    (linkTimed .greeting .greeting).link.stage = .awaitHello ∧
    ∃ s : State, s.betweenEvents ∧ s.linkTimer .powerUp = some 5 ∧ s.attach.state = .seating ∧
      s.attach.detect.level = true ∧ s.link.transmitList = [] :=
  ⟨linkAlone_of (by decide +kernel), linkAlone_of (by decide +kernel), linkAlone_of (by decide +kernel), rfl, rfl,
    by decide +kernel, rfl, by decide +kernel, rfl,
    { linkTimed .powerUp .powering with attach := { attached.attach with state := .seating } }, between_of ⟨rfl, rfl⟩, rfl,
    rfl, rfl, rfl⟩
/-- The recovery without a base grant, and the last retry of a greeting. -/
theorem witness_LinkTimers_ends : ∃ s r : State, s.linkAlone ∧ s.linkTimer .recovery = some 5 ∧ s.allot.grant.base = 0 ∧
    s.betweenEvents ∧ r.betweenEvents ∧ r.linkAlone ∧ r.linkTimer .greeting = some 5 ∧ 3 ≤ r.link.retries :=
  ⟨{ linkTimed .recovery .lost with allot := { attached.allot with grant := ⟨0, 0, 0, 0⟩, budget := 0 } },
    { linkTimed .greeting .greeting with link := { (linkTimed .greeting .greeting).link with retries := 3 } },
    linkAlone_of (by decide +kernel), rfl, rfl, between_of ⟨rfl, rfl⟩, between_of ⟨rfl, rfl⟩,
    linkAlone_of (by decide +kernel), rfl, by decide⟩
/-- The removal window of the DETACH of slot 2. -/
def windowed : State :=
  { releasing .window 0 with
    attach := { (releasing .window 0).attach with state := .awaitingRemoval, windowTimer := some 9 } }
theorem witness_ReleaseTimers : quiescing.betweenEvents ∧ quiescing.allot.demand = ⟨0, 250, 0, 0⟩ ∧
    quiescing.allot.grant = ⟨0, 250, 0, 0⟩ ∧ 1450 ≤ quiescing.allot.budget ∧
    quiescing.attach.pulses.length < quiescing.settings.active.pulseLimit ∧ pulsing.noInputWaits ∧
    pulsing.attach.pulseTimer = some 200 ∧ pulsing.allot.grant = ⟨1200, 250, 0, 0⟩ ∧ windowed.sound ∧
    windowed.attach.windowTimer = some 9 ∧ windowed.servingSlot .base = some 2 ∧ windowed.slotState 2 = .taken false ∧
    windowed.noInputWaits ∧ windowed.link.state = .quiesced ∧ windowed.allot.demand.coil = 0 :=
  ⟨between_of ⟨rfl, rfl⟩, rfl, rfl, by decide +kernel, by decide +kernel, noInput_of (by decide +kernel), rfl, rfl,
    sound_of (by decide +kernel), rfl, by decide +kernel, by decide +kernel, noInput_of (by decide +kernel), rfl, rfl⟩
theorem witness_CoilSense : pulsing.betweenEvents ∧ pulsing.attach.coil = true ∧ pulsing.attach.currentSeen = false ∧
    (pulsing.faultEntry .latchCoil).active = false ∧ pulsing.attach.senseTimer = some 20 ∧ pulsing.attach.pulses = [0] ∧
    pulsing.noInputWaits ∧ pulsing.allot.demand = ⟨1200, 250, 0, 0⟩ ∧ 1450 ≤ pulsing.allot.budget ∧
    pulsing.attach.detect.level = true ∧ pulsing.link.state = .quiesced ∧ pulsing.dispatch.queue = [] :=
  ⟨between_of ⟨rfl, rfl⟩, rfl, rfl, by decide +kernel, rfl, rfl, noInput_of (by decide +kernel), rfl, by decide +kernel,
    rfl, rfl, rfl⟩
/-- The sense failure with the host's request taken, abandoned and without one; the current seen already; the coil at rest. -/
theorem witness_CoilSense_ends : MemoryCanonical pulsing ∧ pulsing.attach.request = some 2 ∧
    pulsing.servingSlot .base = some 2 ∧ pulsing.slotState 2 = .taken false ∧
    (slotIn pulsing 2 (.taken true)).slotState 2 = .taken true ∧ pulsing.attach.phase = some .pulse ∧
    pulsing.attach.state = .releasing ∧ running.attach.coil = false ∧
    ∃ s b : State, s.betweenEvents ∧ s.attach.senseTimer = some 20 ∧ s.attach.currentSeen = true ∧ s.attach.coil = true ∧
      b.betweenEvents ∧ b.attach.senseTimer = some 20 ∧ b.attach.request = none ∧ b.attach.phase = some .pulse :=
  ⟨canonical_of rfl, rfl, by decide +kernel, by decide +kernel, by decide +kernel, rfl, rfl, rfl,
    { pulsing with attach := { pulsing.attach with currentSeen := true } },
    { pulsing with attach := { pulsing.attach with request := none, origin := .button } }, between_of ⟨rfl, rfl⟩, rfl, rfl,
    rfl, between_of ⟨rfl, rfl⟩, rfl, rfl, rfl⟩
/-- A valid REPORT for each row of R150, at the boundary of its range. -/
theorem witness_PenExchange : querying.betweenEvents ∧ querying.dispatch.queue = [] ∧ running.pen.response = none ∧
    querying.pen.response = some 20 ∧ reportValid ⟨9, 99, 45, 2, 101⟩ = true ∧ reportValid ⟨9, 100, 0, 2, 145⟩ = true ∧
    reportValid ⟨9, 50, 46, 2, 149⟩ = true ∧ reportValid ⟨9, 50, 20, 3, 174⟩ = true ∧
    reportValid ⟨9, 101, 20, 2, 124⟩ = false ∧ querying.settings.active.penTarget = 100 ∧ GrantsWithinTargets querying ∧
    querying.allot.demand = ⟨0, 0, 0, 0⟩ ∧ querying.allot.awaiting = [] ∧ querying.attach.phase = none ∧
    querying.allot.increases = noIncreases ∧ querying.pen.mode = .normal :=
  ⟨between_of ⟨rfl, rfl⟩, rfl, rfl, rfl, by decide +kernel, by decide +kernel, by decide +kernel, by decide +kernel,
    by decide +kernel, by decide +kernel, grants_of (by decide +kernel), rfl, rfl, rfl, rfl, rfl⟩
/-- The fourth failure, the fault inactive and active; a battery fault and a REPORT of a pen with an entry and without one. -/
theorem witness_PenExchange_faults : ∃ f a e : State, f.betweenEvents ∧ f.dispatch.queue = [] ∧ f.pen.response = some 20 ∧
    3 ≤ f.pen.retries ∧ (f.faultEntry .penUnresponsive).active = false ∧ (f.faultEntry .penUnresponsive).count ≤ 255 ∧
    (a.betweenEvents ∧ a.dispatch.queue = [] ∧ a.pen.response = some 20 ∧ 3 ≤ a.pen.retries ∧
      (a.faultEntry .penUnresponsive).active = true) ∧
    e.betweenEvents ∧ e.dispatch.queue = [] ∧ e.pen.response = some 20 ∧ e.pen.table[(0 : Fin 4)].identity = 5 ∧
    reportValid ⟨5, 50, 20, 3, 178⟩ = true ∧ (∀ i : Fin 4, e.pen.table[i].identity ≠ 9) ∧
    reportValid ⟨9, 50, 20, 3, 174⟩ = true ∧ (e.faultEntry .penBattery).active = false ∧
    (e.faultEntry .penBattery).count ≤ 255 :=
  let f : State := { querying with pen := { querying.pen with retries := 3 } }
  ⟨f, { f with settings := { f.settings with faults := f.settings.faults.set 5 { active := true, count := 1, firstActive := 0 } } },
    { querying with pen := { querying.pen with table := paired.pen.table } },
    between_of ⟨rfl, rfl⟩, rfl, rfl, by decide, by decide +kernel, by decide +kernel,
    ⟨between_of ⟨rfl, rfl⟩, by decide +kernel⟩, between_of ⟨rfl, rfl⟩, by decide +kernel⟩
/-- A pen's decrease awaited while the base waits for its power. -/
def waiting : State :=
  { attached with
    pen := { attached.pen with confirmDue := true }
    allot := { attached.allot with
               demand := ⟨0, 250, 1250, 0⟩, grant := ⟨0, 0, 1250, 0⟩
               increases := { noIncreases with base := some 250 }, awaiting := [⟨.pen, 100⟩] } }
theorem witness_AllotmentEvents : waiting.betweenEvents ∧ waiting.dispatch.queue = [] ∧ waiting.pen.confirmDue = true ∧
    running.pen.confirmDue = false ∧ waiting.allot.awaiting = [⟨.pen, 100⟩] ∧ waiting.noInputWaits ∧
    waiting.hostOn = true ∧ waiting.attach.state.inRelease = false ∧ waiting.allot.demand.coil = 0 ∧
    ∃ s : State, s.betweenEvents ∧ s.allot.underVoltage = some 10 ∧ s.allot.demand.base ≠ 0 :=
  ⟨between_of ⟨rfl, rfl⟩, rfl, rfl, rfl, rfl, noInput_of (by decide +kernel), rfl, rfl, rfl,
    { attached with allot := { attached.allot with underVoltage := some 10 } }, between_of ⟨rfl, rfl⟩, rfl, by decide⟩
theorem witness_SleepTimers : ∃ s : State, s.betweenEvents ∧ s.sleep.holdAwake = some 5 ∧ s.sleep.idle = .running 5 5 ∧
    s.sleep.grace = some 5 ∧ s.sleep.answerTimer = some 5 ∧ s.sleep.gapTimer = some 5 ∧ s.sleep.assertions = 4 :=
  ⟨{ running with sleep := { running.sleep with
      holdAwake := some 5, idle := .running 5 5, grace := some 5, answerTimer := some 5, gapTimer := some 5
      assertions := 4 } }, between_of ⟨rfl, rfl⟩, rfl, rfl, rfl, rfl, rfl, rfl⟩
theorem witness_SleepTimers_standby : ∃ s : State, s.betweenEvents ∧ s.sleep.dozeTimer = some 5 ∧ s.sleep.power = .doze ∧
    s.nothingDraws ∧ s.angle.calibration = none :=
  ⟨{ asleep with sleep := { asleep.sleep with dozeTimer := some 5 } }, between_of ⟨rfl, rfl⟩, rfl, rfl,
    draws_of (by decide +kernel), rfl⟩
theorem witness_SleepTimers_wake : running.hostOn = true ∧ asleep.hostOn = false ∧
    asleep.sleep.wakeMask.getLsbD WakeSource.powerButton.bit = true ∧ asleep.sleep.wake = false ∧
    asleep.sleep.answerTimer = none ∧ asleep.sleep.gapTimer = none ∧
    ∃ w : WakeSource, asleep.sleep.wakeMask.getLsbD w.bit = false := by
  refine ⟨rfl, rfl, by decide +kernel, rfl, rfl, rfl, .postureChange, by decide +kernel⟩
theorem witness_FaultReports : (running.faultEntry .penBattery).active = false ∧
    running.reportActive .penBattery = running.reportActive .penBattery ∧ running.journal.gap = 0 ∧
    1 ≤ running.room noticeJournal ∧ ((running.reportActive .penBattery).faultEntry .penBattery).active = true := by
  decide +kernel
theorem witness_GrantOrder : GrantsWithinTargets attached ∧ attached.betweenEvents ∧
    attached.allot.grant = targets attached.allot.budget attached.allot.demand ∧
    attached.allot.increases = noIncreases ∧ attached.attach.phase = none :=
  ⟨grants_of (by decide +kernel), between_of ⟨rfl, rfl⟩, by decide +kernel, rfl, rfl⟩

end Sys2Proof.Tests
end

section
/-! Records written field by field, the notice an offer with room leaves, the fault table on the board, and from these
the reports at the fault table (R33, R34). -/

namespace Sys2Proof.Machine

/-! ## Records as runs of little-endian fields -/

theorem length_bytesLE (n v : Nat) : (bytesLE n v).length = n := by
  induction n generalizing v with
  | zero => rfl
  | succ n ih => simp [bytesLE, ih]

theorem putBytes_append (m : Memory) (a : Nat) (bs cs : List Byte) :
    m.putBytes a (bs ++ cs) = (m.putBytes a bs).putBytes (a + bs.length) cs := by
  induction bs generalizing m a with
  | nil => rfl
  | cons b bs ih =>
    rw [List.cons_append, Memory.putBytes, ih, List.length_cons, Nat.add_right_comm]
    rfl

theorem putBytes_bytesLE (m : Memory) (a n v : Nat) : m.putBytes a (bytesLE n v) = m.putLE a n v := by
  induction n generalizing m a v with
  | zero => rfl
  | succ n ih => exact ih _ _ _

/-- The bytes of a record given by the width and the value of each field. -/
def recordBytes (fields : List (Nat × Nat)) : List Byte := fields.flatMap fun f => bytesLE f.1 f.2

/-- Memory holds, from an offset upward, each field of a record. -/
def Memory.holdsRecord (m : Memory) (a : Nat) : List (Nat × Nat) → Prop
  | [] => True
  | f :: fields => m.getLE a f.1 = f.2 ∧ m.holdsRecord (a + f.1) fields

/-- A record whose values fit their widths reads back field by field: the fields after one lie above it. -/
theorem holdsRecord_putBytes (m : Memory) (hm : m.wf = true) (a : Nat) (fields : List (Nat × Nat))
    (hfit : ∀ f ∈ fields, f.2 < 256 ^ f.1) : (m.putBytes a (recordBytes fields)).holdsRecord a fields := by
  induction fields generalizing m a with
  | nil => trivial
  | cons f fields ih =>
    obtain ⟨hvalue, hfit⟩ := List.forall_mem_cons.mp hfit
    have hwf := Memory.wf_putLE m a f.1 f.2 hm
    have hsplit : m.putBytes a (recordBytes (f :: fields)) = (m.putLE a f.1 f.2).putBytes (a + f.1) (recordBytes fields) := by
      rw [recordBytes, List.flatMap_cons, putBytes_append, putBytes_bytesLE, length_bytesLE, recordBytes]
    rw [hsplit]
    refine ⟨?_, ih _ hwf _ hfit⟩
    rw [getLE_putBytes_ne _ hwf _ _ _ _ (Or.inl (Nat.le_refl _)), Memory.getLE_putLE _ hm, Nat.mod_eq_of_lt hvalue]

/-! ## A record written with room -/

theorem journalOf_updJournalOf_same (s : State) (j : Fin 3) (f : Journal → Journal) :
    (s.updJournalOf j f).journalOf j = f (s.journalOf j) := by
  simp [State.updJournalOf, State.journalOf]

theorem writeRecord_mem (s : State) (j : Fin 3) (bytes : List Byte) (h : s.used j < journalCapacity j) :
    (s.writeRecord j bytes).mem =
      s.mem.putBytes (journalBase j + recordSize j * ((s.journalOf j).writeCount.toNat % journalCapacity j)) bytes := by
  unfold State.writeRecord
  rw [if_pos h]
  dsimp only
  split <;> rfl

theorem writeRecord_writeCount (s : State) (j : Fin 3) (bytes : List Byte) (h : s.used j < journalCapacity j) :
    ((s.writeRecord j bytes).journalOf j).writeCount = (s.journalOf j).writeCount + 1 := by
  have hcount (m : Memory) :
      (((s.setMem m).updJournalOf j fun q => Journal.refresh j { q with writeCount := q.writeCount + 1 }).journalOf
        j).writeCount = (s.journalOf j).writeCount + 1 := by
    rw [journalOf_updJournalOf_same]
    rfl
  unfold State.writeRecord
  rw [if_pos h]
  dsimp only
  split <;> exact hcount _

/-- The fields of a notice record (spec/01, "Notice record"). -/
def State.noticeFields (s : State) (kind : NoticeKind) (cause old new arg : Nat) : List (Nat × Nat) :=
  [(4, s.now.toNat), (2, (s.journalOf noticeJournal).writeCount.toNat), (1, kind.code), (1, cause), (1, old), (1, new),
    (2, 0), (4, arg)]

theorem noticeBytes_eq (s : State) (kind : NoticeKind) (cause old new arg : Nat) :
    s.noticeBytes kind cause old new arg = recordBytes (s.noticeFields kind cause old new arg) := by
  simp [State.noticeBytes, State.noticeFields, recordBytes]

theorem noticeKind_code_lt (kind : NoticeKind) : kind.code < 256 := by cases kind <;> decide

theorem noticeFields_fit (s : State) (kind : NoticeKind) (cause old new arg : Nat) (hcause : cause < 256)
    (hold : old < 256) (hnew : new < 256) (harg : arg < 2 ^ 32) :
    ∀ f ∈ s.noticeFields kind cause old new arg, f.2 < 256 ^ f.1 := by
  have hnow := s.now.isLt
  have hcount := (s.journalOf noticeJournal).writeCount.isLt
  have hkind := noticeKind_code_lt kind
  simp only [State.noticeFields, List.forall_mem_cons]
  exact ⟨hnow, hcount, hkind, hcause, hold, hnew, by decide, harg, List.forall_mem_nil _⟩

/-- With room and no gap an offered notice is written at W and reads back as offered (R20). -/
theorem offerNotice_written (s : State) (kind : NoticeKind) (cause old new arg : Nat) (hm : MemoryCanonical s)
    (hgap : s.journal.gap = 0) (hroom : 1 ≤ s.room noticeJournal) (hcause : cause < 256) (hold : old < 256)
    (hnew : new < 256) (harg : arg < 2 ^ 32) :
    ((s.offerNotice kind cause old new arg).journalOf noticeJournal).writeCount =
        (s.journalOf noticeJournal).writeCount + 1 ∧
      (s.offerNotice kind cause old new arg).noticeAt (s.journalOf noticeJournal).writeCount s.now kind cause old new
        arg := by
  have hused : s.used noticeJournal < journalCapacity noticeJournal := Nat.lt_of_sub_pos hroom
  have hoffer : s.offerNotice kind cause old new arg = s.writeNotice kind cause old new arg := by
    simp only [State.offerNotice, hgap, hroom, if_true]
  rw [hoffer]
  refine ⟨writeRecord_writeCount s noticeJournal _ hused, ?_⟩
  have hmem : (s.writeNotice kind cause old new arg).mem = _ := writeRecord_mem s noticeJournal _ hused
  have hrecord := holdsRecord_putBytes s.mem hm (noticePlace (s.journalOf noticeJournal).writeCount) _
    (noticeFields_fit s kind cause old new arg hcause hold hnew harg)
  rw [← noticeBytes_eq] at hrecord
  obtain ⟨htime, hseq, hkind, hcause', hold', hnew', hpad, harg', -⟩ := hrecord
  unfold State.noticeAt
  rw [hmem]
  exact ⟨htime, hseq, hkind, hcause', hold', hnew', hpad, harg'⟩

/-! ## The fault table -/

theorem faultKind_ofCode_index (k : FaultKind) : FaultKind.ofCode k.index.val = some k := by cases k <;> rfl

theorem faultKind_index_injective (k k' : FaultKind) (h : k.index = k'.index) : k = k' :=
  Option.some.inj (by rw [← faultKind_ofCode_index, h, faultKind_ofCode_index])

@[simp] theorem faultEntry_setFault_same (s : State) (k : FaultKind) (e : FaultEntry) :
    (s.setFault k e).faultEntry k = e := by
  simp [State.setFault, State.faultEntry]

theorem faultEntry_setFault_ne (s : State) (k k' : FaultKind) (e : FaultEntry) (h : k' ≠ k) :
    (s.setFault k e).faultEntry k' = s.faultEntry k' := by
  have hindex : (k.index : Nat) ≠ k'.index := fun heq => h (faultKind_index_injective k' k (Fin.ext heq.symm))
  simp [State.setFault, State.faultEntry, hindex]

/-- A notice leaves the fault table as it is. -/
theorem faultEntry_offerNotice (s : State) (kind : NoticeKind) (cause old new arg : Nat) (k : FaultKind) :
    (s.offerNotice kind cause old new arg).faultEntry k = s.faultEntry k := by
  rw [offerNotice_frame]
  rfl

/-- Each entry takes two words of the run of entries. -/
theorem flatMap_faultWords_get (l : List FaultEntry) (i : Nat) (h : i < l.length) :
    (l.flatMap FaultEntry.words)[2 * i]? = some (bytes4 (boolNat l[i].active) l[i].count 0 0) ∧
      (l.flatMap FaultEntry.words)[2 * i + 1]? = some l[i].firstActive := by
  induction l generalizing i with
  | nil => cases h
  | cons e l ih =>
    cases i with
    | zero => exact ⟨rfl, rfl⟩
    | succ i => exact ih i (Nat.lt_of_succ_lt_succ h)

/-- The fault table begins at word 16 of the board's fields. -/
theorem boardWords_fault (s : State) (i : Nat) (h : i < 16) :
    s.boardWords[16 + i]? = (s.settings.faults.toList.flatMap FaultEntry.words)[i]? := by
  have hfields : s.boardFields.length = 16 := rfl
  have hfaults : (s.settings.faults.toList.flatMap FaultEntry.words).length = 16 := by
    simp [List.length_flatMap, FaultEntry.words]
  rw [State.boardWords, List.getElem?_append_left (by simp only [List.length_append]; omega),
    List.getElem?_append_right (by omega), hfields, Nat.add_sub_cancel_left]

/-- The board shows the entry of each kind (spec/01, "Status Board"). -/
theorem boardWord_fault (s : State) (k : FaultKind) :
    s.boardWord (0x48 + 8 * k.index.val) = bytes4 (boolNat (s.faultEntry k).active) (s.faultEntry k).count 0 0 ∧
      s.boardWord (0x4C + 8 * k.index.val) = (s.faultEntry k).firstActive := by
  have hk := k.index.isLt
  obtain ⟨hcount, hfirst⟩ := flatMap_faultWords_get s.settings.faults.toList k.index.val (by simp)
  have hword (i : Nat) (hi : i < 16) : s.boardWord (0x48 + 4 * i) =
      ((s.settings.faults.toList.flatMap FaultEntry.words)[i]?).getD 0 := by
    rw [State.boardWord, if_neg (by omega), if_neg (by omega), show (0x48 + 4 * i) / 4 - 2 = 16 + i by omega,
      List.getD_eq_getElem?_getD, boardWords_fault s i hi]
  constructor
  · rw [show 0x48 + 8 * k.index.val = 0x48 + 4 * (2 * k.index.val) by omega, hword _ (by omega), hcount]
    rfl
  · rw [show 0x4C + 8 * k.index.val = 0x48 + 4 * (2 * k.index.val + 1) by omega, hword _ (by omega), hfirst]
    rfl

/-! ## Reports at the fault table (R33, R34) -/

theorem reportActive_of_active (s : State) (k : FaultKind) (h : (s.faultEntry k).active = true) : s.reportActive k = s := by
  simp [State.reportActive, h]

theorem reportInactive_of_inactive (s : State) (k : FaultKind) (h : (s.faultEntry k).active = false) :
    s.reportInactive k = s := by
  simp [State.reportInactive, h]

/-- The entry after a report that changes it: its flag is turned, and an occurrence that begins is counted. -/
def FaultEntry.turned (e : FaultEntry) (now : PartTime) : FaultEntry :=
  { active := !e.active
    count := if e.active then e.count else min 255 (e.count + 1)
    firstActive := if e.active = false ∧ e.count = 0 then now else e.firstActive }

/-- The state with the entry of a kind turned, FAULT latched where it becomes active. -/
def State.faultTurned (s : State) (k : FaultKind) : State :=
  let s' := s.setFault k ((s.faultEntry k).turned s.now)
  s'.updPort fun p =>
    { p with attnLatch := if (s.faultEntry k).active then p.attnLatch else p.attnLatch ||| Cause.fault.mask }

@[simp] theorem faultEntry_faultTurned_same (s : State) (k : FaultKind) :
    (s.faultTurned k).faultEntry k = (s.faultEntry k).turned s.now := faultEntry_setFault_same _ _ _

theorem faultEntry_faultTurned_ne (s : State) (k k' : FaultKind) (h : k' ≠ k) :
    (s.faultTurned k).faultEntry k' = s.faultEntry k' := faultEntry_setFault_ne _ _ _ _ h

theorem turned_count_le (e : FaultEntry) (now : PartTime) (h : e.count ≤ 255) : (e.turned now).count ≤ 255 := by
  simp only [FaultEntry.turned]
  split <;> omega

theorem bump_eq_min (n : Nat) (h : n ≤ 255) : bump 255 n = min 255 (n + 1) := by
  unfold bump
  split <;> omega

theorem reportActive_of_inactive (s : State) (k : FaultKind) (h : (s.faultEntry k).active = false)
    (hcount : (s.faultEntry k).count ≤ 255) :
    s.reportActive k = (s.faultTurned k).offerNotice .fault k.index.val 0 1 ((s.faultEntry k).turned s.now).count := by
  simp [State.reportActive, State.faultTurned, FaultEntry.turned, State.latch, h, bump_eq_min _ hcount]

theorem reportInactive_of_active (s : State) (k : FaultKind) (h : (s.faultEntry k).active = true) :
    s.reportInactive k = (s.faultTurned k).offerNotice .fault k.index.val 1 0 ((s.faultEntry k).turned s.now).count := by
  simp [State.reportInactive, State.faultTurned, FaultEntry.turned, State.updPort, h]

/-- A report that changes the entry turns it and offers the notice of the old and the new flag. -/
theorem report_turns (s t : State) (k : FaultKind) (hcount : (s.faultEntry k).count ≤ 255)
    (ht : ((s.faultEntry k).active = false ∧ t = s.reportActive k) ∨
      ((s.faultEntry k).active = true ∧ t = s.reportInactive k)) :
    t = (s.faultTurned k).offerNotice .fault k.index.val (if (s.faultEntry k).active then 1 else 0)
      (1 - if (s.faultEntry k).active then 1 else 0) ((s.faultEntry k).turned s.now).count := by
  obtain ⟨h, rfl⟩ | ⟨h, rfl⟩ := ht
  · rw [reportActive_of_inactive s k h hcount, h]
    rfl
  · rw [reportInactive_of_active s k h, h]
    rfl

/-- The new flag as a number, from the old one. -/
theorem boolNat_not (b : Bool) : boolNat (!b) = 1 - if b then 1 else 0 := by cases b <;> rfl

/-- Settles O56: a report that changes the entry turns it and offers a notice, which leaves the fault table alone; the
board shows the turned entry, and the record is the one an offer with room writes. -/
theorem faultReports : Obligations.FaultReports := by
  intro s k
  refine ⟨reportActive_of_active s k, reportInactive_of_inactive s k, fun t ht hcount => ?_⟩
  have hturns := report_turns s t k hcount ht
  have hentry (k' : FaultKind) : t.faultEntry k' = (s.faultTurned k).faultEntry k' := by
    rw [hturns, faultEntry_offerNotice]
  have hsame : t.faultEntry k = (s.faultEntry k).turned s.now := by rw [hentry, faultEntry_faultTurned_same]
  obtain ⟨hboardCount, hboardFirst⟩ := boardWord_fault t k
  rw [hsame] at hboardCount hboardFirst
  refine ⟨hturns, hsame, fun k' hk => ?_, hboardCount.trans ?_, hboardFirst, fun hm hgap hroom => ?_⟩
  · rw [hentry, faultEntry_faultTurned_ne s k k' hk]
  · rw [← boolNat_not]
    rfl
  · have hle := turned_count_le (s.faultEntry k) s.now hcount
    have hflag : (if (s.faultEntry k).active then 1 else 0) < 256 := by split <;> decide
    rw [hturns]
    exact offerNotice_written (s.faultTurned k) .fault k.index.val _ _ _ hm hgap hroom (by omega) hflag (by omega)
      (by omega)

end Sys2Proof.Machine
end

section
/-! The grant order (R166): what each claimant's target is bounded by, the sum of the targets and of grants within them, and
a recomputation that finds every target in force. -/

namespace Sys2Proof.Machine

/-! ## Each claimant's target -/

theorem coilTarget_le (budget : Nat) (d : Allotments) : coilTarget budget d ≤ min d.coil budget := by
  unfold coilTarget
  split <;> omega

theorem baseTarget_le (remainder : Nat) (d : Allotments) : baseTarget remainder d ≤ min d.base remainder := by
  unfold baseTarget
  split <;> omega

theorem penTarget_le (remainder : Nat) (d : Allotments) : penTarget remainder d ≤ min d.pen remainder := by
  unfold penTarget
  split <;> omega

/-- Without the base there is no backlight. -/
@[simp] theorem backlightTarget_no_base (remainder : Nat) (d : Allotments) : backlightTarget remainder 0 d = 0 := rfl

theorem backlightTarget_of_base (remainder base : Nat) (d : Allotments) (h : base ≠ 0) :
    backlightTarget remainder base d = min d.backlight remainder / 150 * 150 := if_neg h

/-- With the base the backlight's share is rounded down to a multiple of 150. -/
theorem backlightTarget_rounded (remainder base : Nat) (d : Allotments) (h : base ≠ 0) :
    backlightTarget remainder base d % 150 = 0 ∧ backlightTarget remainder base d ≤ min d.backlight remainder ∧
      min d.backlight remainder < backlightTarget remainder base d + 150 := by
  rw [backlightTarget_of_base remainder base d h]
  exact ⟨Nat.mul_mod_left _ _, Nat.div_mul_le_self _ _, Nat.lt_div_mul_add (by decide)⟩

theorem backlightTarget_le (remainder base : Nat) (d : Allotments) :
    backlightTarget remainder base d ≤ min d.backlight remainder := by
  by_cases h : base = 0
  · subst h
    exact Nat.zero_le _
  · obtain ⟨-, hle, -⟩ := backlightTarget_rounded remainder base d h
    exact hle

/-! ## The targets together -/

theorem targets_le_demand (budget : Nat) (d : Allotments) : (targets budget d).le d :=
  ⟨(coilTarget_le _ d).trans (Nat.min_le_left _ _), (baseTarget_le _ d).trans (Nat.min_le_left _ _),
    (penTarget_le _ d).trans (Nat.min_le_left _ _), (backlightTarget_le _ _ d).trans (Nat.min_le_left _ _)⟩

/-- Each target is taken from the remainder the earlier ones leave. -/
theorem targets_sum_le_budget (budget : Nat) (d : Allotments) : (targets budget d).sum ≤ budget := by
  have hcoil : (targets budget d).coil ≤ min d.coil budget := coilTarget_le _ d
  have hbase : (targets budget d).base ≤ min d.base (budget - (targets budget d).coil) := baseTarget_le _ d
  have hpen : (targets budget d).pen ≤ min d.pen (budget - (targets budget d).coil - (targets budget d).base) :=
    penTarget_le _ d
  have hbacklight : (targets budget d).backlight ≤
      min d.backlight (budget - (targets budget d).coil - (targets budget d).base - (targets budget d).pen) :=
    backlightTarget_le _ _ d
  unfold Allotments.sum
  omega

theorem Allotments.le_trans {a b c : Allotments} (hab : a.le b) (hbc : b.le c) : a.le c := by
  obtain ⟨hcoil, hbase, hpen, hbacklight⟩ := hab
  obtain ⟨hcoil', hbase', hpen', hbacklight'⟩ := hbc
  exact ⟨hcoil.trans hcoil', hbase.trans hbase', hpen.trans hpen', hbacklight.trans hbacklight'⟩

theorem Allotments.sum_le_sum {a b : Allotments} (hab : a.le b) : a.sum ≤ b.sum := by
  obtain ⟨hcoil, hbase, hpen, hbacklight⟩ := hab
  unfold Allotments.sum
  omega

/-- Grants within the targets are within the budget and the demands too. -/
theorem grants_within_budget_and_demand (s : State) (h : GrantsWithinTargets s) :
    s.allot.grant.sum ≤ s.allot.budget ∧ s.allot.grant.le s.allot.demand := by
  obtain ⟨hle, -, -⟩ := h
  exact ⟨(Allotments.sum_le_sum hle).trans (targets_sum_le_budget _ _), Allotments.le_trans hle (targets_le_demand _ _)⟩

/-! ## A recomputation with every target in force -/

@[simp] theorem lowered_self (g : Allotments) : lowered g g = g := by simp [lowered]

@[simp] theorem increasesOf_self (g : Allotments) : increasesOf g g = noIncreases := by
  simp [increasesOf, increaseOf, noIncreases]

@[simp] theorem raised_noIncreases (g : Allotments) : raised g noIncreases = g := rfl

@[simp] theorem awaitingAfter_self (list : List Awaiting) (g : Allotments) (turnedOff : Bool) (deadline : PartTime) :
    awaitingAfter list g g turnedOff deadline = list := by simp [awaitingAfter]

@[simp] theorem grantTasks_self (g : Allotments) : grantTasks g g = [] := by simp [grantTasks]

/-- VBASE that neither turns on nor off leaves the under-voltage timer as it is. -/
@[simp] theorem watchVbase_self (s : State) : s.watchVbase s = s := by simp [State.watchVbase]

@[simp] theorem touchGrants_grant (s : State) : s.touchGrants s.allot.grant = s := by
  simp [State.touchGrants, State.touchWhen]

/-- The grants in force put in force again, where no increase is pending. -/
theorem updAllot_grant_noIncreases (s : State) (hinc : s.allot.increases = noIncreases) :
    (s.updAllot fun u => { u with grant := s.allot.grant, increases := noIncreases }) = s := by
  rw [← hinc]
  rfl

/-- With every target in force and no increase pending a recomputation only hands on its two closing steps. -/
theorem recompute_targets_in_force (s : State) (hgrant : s.allot.grant = targets s.allot.budget s.allot.demand)
    (hinc : s.allot.increases = noIncreases) : s.recompute = s.hand [.settleIncreases, .coilAnswer] := by
  have hawait : (s.updAllot fun u => { u with awaiting := u.awaiting }) = s := rfl
  simp only [State.recompute, ← hgrant, lowered_self, increasesOf_self, updAllot_grant_noIncreases s hinc,
    watchVbase_self, awaitingAfter_self, hawait, touchGrants_grant, grantTasks_self, List.nil_append]

/-- With no increase pending settling puts nothing in force. -/
theorem settleIncreases_none (s : State) (hinc : s.allot.increases = noIncreases) :
    s.settleIncreases = if s.allot.awaiting.isEmpty then s.hand [.coilAnswer] else s := by
  simp only [State.settleIncreases, hinc, raised_noIncreases, updAllot_grant_noIncreases s hinc, watchVbase_self,
    touchGrants_grant, grantTasks_self, List.nil_append]

/-- Outside CLAIMING, and in PULSE with the grant of its claim, a standing coil claim has its answer (R170). -/
theorem coilAnswer_answered (s : State) (hclaiming : s.attach.phase ≠ some .claiming)
    (hpulse : s.attach.phase = some .pulse → s.allot.demand.coil = 1200 → s.allot.grant.coil = 1200) :
    s.coilAnswer = s := by
  unfold State.coilAnswer
  split
  next hdemand =>
    cases hphase : s.attach.phase with
    | none => rfl
    | some phase =>
      cases phase with
      | claiming => exact absurd hphase hclaiming
      | pulse => exact if_neg (by rw [hpulse hphase hdemand]; decide)
      | quiescing => rfl
      | window => rfl
  next => rfl

/-- Answers that change nothing are carried one by one, and nothing is left to do. -/
theorem runTasks_coilAnswers (s : State) (hanswer : ∀ ts, (s.setTasks ts).coilAnswer = s.setTasks ts) (k n : Nat)
    (hk : k ≤ n) : runTasks n (s.setTasks (List.replicate k .coilAnswer)) = s.setTasks [] := by
  induction k generalizing n with
  | zero => exact runTasks_done n _ rfl
  | succ k ih =>
    rw [runTasks_front n _ .coilAnswer (List.replicate k .coilAnswer) rfl (by omega)]
    have hfront : doTask .coilAnswer (s.setTasks (List.replicate k .coilAnswer)) =
        s.setTasks (List.replicate k .coilAnswer) := hanswer _
    exact (congrArg (runTasks (n - 1)) hfront).trans (ih (n - 1) (by omega))

/-- A recomputation that finds every target in force, with no increase pending and no coil claim to answer, changes nothing
(R166): settling and the coil's answers leave the state as it is. -/
theorem runTasks_recompute_targets_in_force (s : State) (htasks : s.tasks = [])
    (hgrant : s.allot.grant = targets s.allot.budget s.allot.demand) (hinc : s.allot.increases = noIncreases)
    (hclaiming : s.attach.phase ≠ some .claiming)
    (hpulse : s.attach.phase = some .pulse → s.allot.demand.coil = 1200 → s.allot.grant.coil = 1200) (n : Nat)
    (hn : 3 ≤ n) : runTasks n s.recompute = s := by
  have hidle : s.setTasks [] = s := by
    rw [← htasks]
    rfl
  have hanswer (ts : List Task) : (s.setTasks ts).coilAnswer = s.setTasks ts := coilAnswer_answered _ hclaiming hpulse
  have hsettle : ∃ k, k ≤ 2 ∧
      doTask .settleIncreases (s.setTasks [.coilAnswer]) = s.setTasks (List.replicate k .coilAnswer) := by
    have hnone := settleIncreases_none (s.setTasks [.coilAnswer]) hinc
    split at hnone
    · exact ⟨2, by decide, hnone⟩
    · exact ⟨1, by decide, hnone⟩
  obtain ⟨k, hk, hsettle⟩ := hsettle
  have hrecompute : s.recompute = s.setTasks [.settleIncreases, .coilAnswer] := by
    rw [recompute_targets_in_force s hgrant hinc, State.hand, htasks]
    rfl
  calc runTasks n s.recompute
      = runTasks (n - 1) (doTask .settleIncreases (s.setTasks [.coilAnswer])) := by
        rw [hrecompute]
        exact runTasks_front n _ .settleIncreases [.coilAnswer] rfl (by omega)
    _ = s.setTasks [] := by rw [hsettle, runTasks_coilAnswers s hanswer k (n - 1) (by omega)]
    _ = s := hidle

/-- Settles O60: the order and the bounds come from each claimant's target, and the recomputation from the three steps it
carries, each of which leaves the state as it is. -/
theorem grantOrder : Obligations.GrantOrder := by
  intro budget d t r1 r2 r3
  refine ⟨rfl, rfl, rfl, fun hbase => ?_, backlightTarget_rounded r3 t.base d, targets_le_demand budget d,
    targets_sum_le_budget budget d, ?_⟩
  · have hbacklight : t.backlight = backlightTarget r3 t.base d := rfl
    rw [hbacklight, hbase, backlightTarget_no_base]
  · rintro s rfl rfl
    refine ⟨grants_within_budget_and_demand s, fun hbetween hgrant hinc hclaiming hpulse => ?_⟩
    obtain ⟨htasks, -⟩ := hbetween
    refine runTasks_recompute_targets_in_force s htasks hgrant hinc hclaiming fun hphase hdemand => ?_
    rw [hgrant]
    exact hpulse hphase hdemand

end Sys2Proof.Machine
end

section
/-! What one operation of the model may do, said once: `Moves` gathers the properties that every step keeps and the state that
hand-ons leave alone, as a relation that composes. One lemma per operation, in the order of the model's definitions, follows
the operation's own text. -/

namespace Sys2Proof.Machine

set_option Elab.async false

/-! ## The relation -/

/-- How far an operation reaches: the units of themselves; the same inside a change of DETECT, before the attachment state
has followed it; the serving of a request too; the host's accesses and resets but for HOST_WRITE; HOST_WRITE too. -/
inductive Scope where
  | calm
  | settling
  | served
  | host
  | write

/-- Whether an operation is the part's own. -/
def Scope.ofPart : Scope → Prop
  | .calm | .settling | .served => True
  | .host | .write => False

/-- A hand-on that serves no request. -/
def Task.still : Task → Bool
  | .serve _ _ => false
  | _ => true

/-- A hand-on whose result words fit the four of a slot. -/
def Task.fits : Task → Bool
  | .finish _ _ _ words => decide (words.length ≤ 4)
  | _ => true

/-- From s to t the properties hold on that every step keeps, and the queue and the update count stand. -/
structure Keeps (s t : State) : Prop where
  pending : t.pending = s.pending
  count : t.port.updateCount = s.port.updateCount
  canonical : MemoryCanonical s → MemoryCanonical t
  journals : JournalsBounded s → JournalsBounded t
  hinge : HingeBounded s → HingeBounded t
  pulses : PulsesBounded s → PulsesBounded t
  topUp : TopUpBelowTarget s → TopUpBelowTarget t
  hold : HoldFollowsQueue s → HoldFollowsQueue t
  pressed : PressedBounded s → PressedBounded t
  grants : GrantsWithinTargets s → GrantsWithinTargets t
  slots : SlotsConsistent s → SlotsConsistent t
  fits : s.tasks.all Task.fits = true → t.tasks.all Task.fits = true

/-- The port unit's state that only the host and the resets change. -/
def PortUnit.hostSide (p : PortUnit) := (p.hrst, p.phase, p.selfCheck, p.resetKind, p.attnMask, p.capture)

/-- From s to t nothing of the host's is touched at the port: no latched cause is cleared. -/
structure Leaves (s t : State) : Prop where
  port : t.port.hostSide = s.port.hostSide
  latch : s.port.attnLatch &&& t.port.attnLatch = s.port.attnLatch

/-- What only a request or a reset changes. -/
def State.requested (s : State) :=
  (s.dispatch.queue, s.settings.active, s.settings.generation, s.settings.locked, s.settings.table,
   (s.journalOf 0).kept, (s.journalOf 1).kept, (s.journalOf 2).kept, s.sleep.host, s.sleep.wakeMask,
   s.sleep.standbyAllowed, s.allot.source, s.posture.lock, s.attach.wish, s.pen.mode)

/-- A byte of no slot that a unit serves. -/
def State.unserved (s : State) (a : Nat) : Prop :=
  ∀ u n, s.servingSlot u = some n → a < slotBase n ∨ slotBase n + 64 ≤ a

/-- From s to t no request is served: of exchange memory below the journals only slots being served are written. -/
structure Stills (s t : State) : Prop where
  requested : t.requested = s.requested
  serving : ∀ u n, t.servingSlot u = some n → s.servingSlot u = some n
  memory : MemoryCanonical s → ∀ a, a < 0x1000 → s.unserved a → t.mem.get a = s.mem.get a
  still : s.tasks.all Task.still = true → t.tasks.all Task.still = true

/-- What an operation of a scope may do. -/
structure Moves (r : Scope) (s t : State) : Prop where
  keeps : Keeps s t
  follows : r ≠ .settling → AttachFollowsDetect s → AttachFollowsDetect t
  leaves : r.ofPart → Leaves s t
  staging : r ≠ .write → MemoryCanonical s → ∀ a, 0x0E00 ≤ a → a < 0x1000 → t.mem.get a = s.mem.get a
  stills : r = .calm ∨ r = .settling → Stills s t

variable {r : Scope} {s t u : State}

theorem Moves.refl (r : Scope) (s : State) : Moves r s s :=
  ⟨⟨rfl, rfl, id, id, id, id, id, id, id, id, id, id⟩, fun _ => id,
    fun _ => ⟨rfl, BitVec.and_self⟩, fun _ _ _ _ _ => rfl, fun _ => ⟨rfl, fun _ _ => id, fun _ _ _ _ => rfl, id⟩⟩

theorem latch_trans {a b c : BitVec 10} (hab : a &&& b = a) (hbc : b &&& c = b) : a &&& c = a := by
  rw [← hab, BitVec.and_assoc, hbc]

theorem Keeps.trans (h : Keeps s t) (k : Keeps t u) : Keeps s u where
  pending := k.pending.trans h.pending
  count := k.count.trans h.count
  canonical := k.canonical ∘ h.canonical
  journals := k.journals ∘ h.journals
  hinge := k.hinge ∘ h.hinge
  pulses := k.pulses ∘ h.pulses
  topUp := k.topUp ∘ h.topUp
  hold := k.hold ∘ h.hold
  pressed := k.pressed ∘ h.pressed
  grants := k.grants ∘ h.grants
  slots := k.slots ∘ h.slots
  fits := k.fits ∘ h.fits

theorem Moves.trans (h : Moves r s t) (k : Moves r t u) : Moves r s u where
  keeps := h.keeps.trans k.keeps
  follows hr := k.follows hr ∘ h.follows hr
  leaves hr := by
    obtain ⟨hport, hlatch⟩ := h.leaves hr
    obtain ⟨kport, klatch⟩ := k.leaves hr
    exact ⟨kport.trans hport, latch_trans hlatch klatch⟩
  staging hr hm a hlo hhi := (k.staging hr (h.keeps.canonical hm) a hlo hhi).trans (h.staging hr hm a hlo hhi)
  stills hr := by
    obtain ⟨hreq, hserv, hmem, hstill⟩ := h.stills hr
    obtain ⟨kreq, kserv, kmem, kstill⟩ := k.stills hr
    exact ⟨kreq.trans hreq, fun v n => hserv v n ∘ kserv v n, fun hm a ha hout =>
      (kmem (h.keeps.canonical hm) a ha fun v n hv => hout v n (hserv v n hv)).trans (hmem hm a ha hout), kstill ∘ hstill⟩

/-- All the state that the relation speaks of. -/
def State.view (s : State) :=
  (s.pending, s.tasks, s.mem, s.dispatch, s.journal.journals, (s.port.updateCount, s.port.hostSide, s.port.attnLatch),
   (s.settings.active, s.settings.generation, s.settings.locked, s.settings.table), (s.angle.accumulator, s.angle.reported),
   (s.link.receiveQueue, s.link.hold, s.link.pressed), (s.attach.pulses, s.attach.state, s.attach.detect.level, s.attach.wish),
   (s.allot.grant, s.allot.demand, s.allot.increases, s.allot.budget, s.allot.source),
   (s.sleep.host, s.sleep.wakeMask, s.sleep.standbyAllowed), s.posture.lock, s.pen.mode)

/-- A state of the same view is as well related. -/
theorem Moves.of_view (h : Moves r s t) (hv : u.view = t.view) : Moves r s u := by
  refine h.trans ?_
  simp only [State.view, Prod.mk.injEq] at hv
  obtain ⟨hpending, htasks, hmem, hdispatch, hjournals, ⟨hcount, hport, hlatch⟩, ⟨hactive, hgeneration, hlocked, htable⟩,
    ⟨hacc, hreported⟩, ⟨hqueue, hhold, hpressed⟩, ⟨hpulses, hstate, hdetect, hwish⟩,
    ⟨hgrant, hdemand, hincreases, hbudget, hsource⟩, ⟨hhost, hmask, hstandby⟩, hlock, hmode⟩ := hv
  have hserving (v : ServingUnit) : u.servingSlot v = t.servingSlot v := by simp only [State.servingSlot, hdispatch]
  refine ⟨⟨hpending, hcount, ?_, ?_, ?_, ?_, ?_, ?_, ?_, ?_, ?_, ?_⟩, fun _ => ?_, fun _ => ⟨hport, ?_⟩, fun _ _ a _ _ => ?_,
    fun _ => ⟨?_, fun v n => (hserving v).symm ▸ id, fun _ a _ _ => ?_, ?_⟩⟩
  · simp only [MemoryCanonical, hmem, imp_self]
  · simp only [JournalsBounded, State.used, State.journalOf, hjournals, imp_self]
  · simp only [HingeBounded, hacc, hreported, imp_self]
  · simp only [PulsesBounded, hpulses, hactive, imp_self]
  · simp only [TopUpBelowTarget, hactive, imp_self]
  · simp only [HoldFollowsQueue, hqueue, hhold, imp_self]
  · simp only [PressedBounded, hpressed, imp_self]
  · simp only [GrantsWithinTargets, hgrant, hdemand, hincreases, hbudget, imp_self]
  · simp only [SlotsConsistent, hserving, State.slotState, hdispatch, imp_self]
  · rw [htasks]; exact id
  · simp only [AttachFollowsDetect, hstate, hdetect, imp_self]
  · rw [hlatch, BitVec.and_self]
  · rw [hmem]
  · simp only [State.requested, State.journalOf, hdispatch, hactive, hgeneration, hlocked, htable, hjournals, hhost, hmask,
      hstandby, hsource, hlock, hwish, hmode]
  · rw [hmem]
  · rw [htasks]; exact id

theorem Moves.ite {c : Prop} [Decidable c] {t' : State} (ht : c → Moves r s t) (he : ¬ c → Moves r s t') :
    Moves r s (if c then t else t') := by
  split
  · exact ht ‹_›
  · exact he ‹_›

/-! ## Updates of one unit, hand-ons and part time -/

theorem Moves.setNow (h : Moves r s t) (x : PartTime) : Moves r s (t.setNow x) := h.of_view rfl
theorem Moves.setChoices (h : Moves r s t) (n : Nat) : Moves r s (t.setChoices n) := h.of_view rfl
theorem Moves.updSensor (h : Moves r s t) (f) : Moves r s (t.updSensor f) := h.of_view rfl
theorem Moves.touchBoard (h : Moves r s t) : Moves r s t.touchBoard := h.of_view rfl
theorem Moves.touchWhen (h : Moves r s t) (c : Prop) [Decidable c] : Moves r s (t.touchWhen c) :=
  .ite (fun _ => h.touchBoard) fun _ => h
theorem Moves.reach (h : Moves r s t) (e : PartTime) : Moves r s (t.reach e) :=
  .ite (fun _ => h.setNow e) fun _ => h

theorem Moves.updAngle (h : Moves r s t) (f : AngleUnit → AngleUnit)
    (hf : ∀ u, (f u).accumulator = u.accumulator ∧ (f u).reported = u.reported := by intros; exact ⟨rfl, rfl⟩) :
    Moves r s (t.updAngle f) := by
  obtain ⟨hacc, hreported⟩ := hf t.angle
  exact h.of_view (by simp only [State.view, State.updAngle, hacc, hreported])

theorem Moves.updPosture (h : Moves r s t) (f : PostureUnit → PostureUnit) (hf : ∀ u, (f u).lock = u.lock := by intros; rfl) :
    Moves r s (t.updPosture f) := h.of_view (by simp only [State.view, State.updPosture, hf])

theorem Moves.updPen (h : Moves r s t) (f : PenUnit → PenUnit) (hf : ∀ u, (f u).mode = u.mode := by intros; rfl) :
    Moves r s (t.updPen f) := h.of_view (by simp only [State.view, State.updPen, hf])

/-- What the relation speaks of in the link, attachment, allotment and sleep units. -/
def LinkUnit.viewed (u : LinkUnit) := (u.receiveQueue, u.hold, u.pressed)
def AttachUnit.viewed (u : AttachUnit) := (u.pulses, u.state, u.detect.level, u.wish)
def AllotUnit.viewed (u : AllotUnit) := (u.grant, u.demand, u.increases, u.budget, u.source)
def SleepUnit.viewed (u : SleepUnit) := (u.host, u.wakeMask, u.standbyAllowed)

theorem Moves.updLink (h : Moves r s t) (f : LinkUnit → LinkUnit) (hf : ∀ u, (f u).viewed = u.viewed := by intros; rfl) :
    Moves r s (t.updLink f) :=
  h.of_view (by have := hf t.link; simp only [LinkUnit.viewed, Prod.mk.injEq] at this; simp [State.view, State.updLink, this])

theorem Moves.updAttach (h : Moves r s t) (f : AttachUnit → AttachUnit)
    (hf : ∀ u, (f u).viewed = u.viewed := by intros; rfl) : Moves r s (t.updAttach f) :=
  h.of_view (by
    have := hf t.attach; simp only [AttachUnit.viewed, Prod.mk.injEq] at this; simp [State.view, State.updAttach, this])

theorem Moves.updAllot (h : Moves r s t) (f : AllotUnit → AllotUnit)
    (hf : ∀ u, (f u).viewed = u.viewed := by intros; rfl) : Moves r s (t.updAllot f) :=
  h.of_view (by
    have := hf t.allot; simp only [AllotUnit.viewed, Prod.mk.injEq] at this; simp [State.view, State.updAllot, this])

theorem Moves.updSleep (h : Moves r s t) (f : SleepUnit → SleepUnit)
    (hf : ∀ u, (f u).viewed = u.viewed := by intros; rfl) : Moves r s (t.updSleep f) :=
  h.of_view (by
    have := hf t.sleep; simp only [SleepUnit.viewed, Prod.mk.injEq] at this; simp [State.view, State.updSleep, this])

theorem Moves.setTasks (h : Moves r s t) (ts : List Task) (hfits : t.tasks.all Task.fits = true → ts.all Task.fits = true)
    (hstill : r = .calm ∨ r = .settling → t.tasks.all Task.still = true → ts.all Task.still = true) :
    Moves r s (t.setTasks ts) :=
  h.trans ⟨⟨rfl, rfl, id, id, id, id, id, id, id, id, id, hfits⟩, fun _ => id,
    fun _ => ⟨rfl, BitVec.and_self⟩, fun _ _ _ _ _ => rfl, fun hr => ⟨rfl, fun _ _ => id, fun _ _ _ _ => rfl, hstill hr⟩⟩

/-- Hand-ons that fit and serve no request. -/
def calmTasks (ts : List Task) : Bool := ts.all Task.fits && ts.all Task.still

theorem calmTasks_append (as bs : List Task) : calmTasks (as ++ bs) = (calmTasks as && calmTasks bs) := by
  simp only [calmTasks, List.all_append]
  ac_rfl

theorem Moves.hand (h : Moves r s t) (ts : List Task) (hts : calmTasks ts = true := by rfl) : Moves r s (t.hand ts) := by
  simp only [calmTasks, Bool.and_eq_true] at hts
  refine h.setTasks _ (fun ht => ?_) fun _ ht => ?_
  · simp only [List.all_append, hts, ht, Bool.and_self]
  · simp only [List.all_append, hts, ht, Bool.and_self]

theorem Moves.handLast (h : Moves r s t) (x : Task) (hx : calmTasks [x] = true := by rfl) : Moves r s (t.handLast x) := by
  simp only [calmTasks, Bool.and_eq_true] at hx
  refine h.setTasks _ (fun ht => ?_) fun _ ht => ?_
  · simp only [List.all_append, hx, ht, Bool.and_self]
  · simp only [List.all_append, hx, ht, Bool.and_self]

/-! ## Exchange memory, the port and the journals -/

theorem Moves.setMem (h : Moves r s t) (m : Memory) (hwf : t.mem.wf = true → m.wf = true)
    (hstaging : r ≠ .write → t.mem.wf = true → ∀ a, 0x0E00 ≤ a → a < 0x1000 → m.get a = t.mem.get a)
    (hlow : r = .calm ∨ r = .settling → t.mem.wf = true → ∀ a, a < 0x1000 → t.unserved a → m.get a = t.mem.get a) :
    Moves r s (t.setMem m) :=
  h.trans ⟨⟨rfl, rfl, hwf, id, id, id, id, id, id, id, id, id⟩, fun _ => id,
    fun _ => ⟨rfl, BitVec.and_self⟩, hstaging, fun hr => ⟨rfl, fun _ _ => id, hlow hr, id⟩⟩

/-- Writing from 0x1000 upward, where the journals stand, is open to every scope. -/
theorem Moves.putBytes (h : Moves r s t) (a : Nat) (bs : List Byte) (ha : 0x1000 ≤ a) :
    Moves r s (t.setMem (t.mem.putBytes a bs)) :=
  h.setMem _ (Memory.wf_putBytes _ a bs)
    (fun _ hm b _ hb => Memory.get_putBytes_ne _ hm _ _ _ (Or.inl (by omega)))
    fun _ hm b hb _ => Memory.get_putBytes_ne _ hm _ _ _ (Or.inl (by omega))

theorem and_or_self (a b : BitVec 10) : a &&& (a ||| b) = a := by
  ext i hi
  simpa using Or.inl

theorem Moves.latch (h : Moves r s t) (c : Cause) : Moves r s (t.latch c) :=
  h.trans ⟨⟨rfl, rfl, id, id, id, id, id, id, id, id, id, id⟩, fun _ => id,
    fun _ => ⟨rfl, and_or_self _ _⟩, fun _ _ _ _ _ => rfl, fun _ => ⟨rfl, fun _ _ => id, fun _ _ _ _ => rfl, id⟩⟩

/-- An update of the port unit by the host or a reset. -/
theorem Moves.updPort_host (h : Moves .host s t) (f : PortUnit → PortUnit)
    (hf : ∀ p, (f p).updateCount = p.updateCount := by intros; rfl) : Moves .host s (t.updPort f) :=
  h.trans ⟨⟨rfl, hf _, id, id, id, id, id, id, id, id, id, id⟩, fun _ => id, False.elim, fun _ _ _ _ _ => rfl,
    fun hr => by cases hr <;> contradiction⟩

theorem Moves.recordError (h : Moves .host s t) (k : CaptureKind) (n : Nat) (w : Window) :
    Moves .host s (t.recordError k n w) := (h.latch _).updPort_host _

theorem Moves.clearCauses (h : Moves .host s t) (data : Word) : Moves .host s (t.clearCauses data) := h.updPort_host _

theorem Moves.setMask (h : Moves .host s t) (data : Word) : Moves .host s (t.setMask data) := h.updPort_host _

theorem journalOf_updJournalOf_ne (s : State) (j k : Fin 3) (f : Journal → Journal) (h : k ≠ j) :
    (s.updJournalOf j f).journalOf k = s.journalOf k := by
  have hval : (j : Nat) ≠ k := fun e => h (Fin.ext e.symm)
  simp [State.updJournalOf, State.journalOf, hval]

theorem Moves.updJournalOf (h : Moves r s t) (j : Fin 3) (f : Journal → Journal)
    (hbound : (t.journalOf j).used ≤ journalCapacity j → (f (t.journalOf j)).used ≤ journalCapacity j)
    (hkept : r = .calm ∨ r = .settling → (f (t.journalOf j)).kept = (t.journalOf j).kept) :
    Moves r s (t.updJournalOf j f) := by
  refine h.trans ⟨⟨rfl, rfl, id, fun hj k => ?_, id, id, id, id, id, id, id, id⟩, fun _ => id,
    fun _ => ⟨rfl, BitVec.and_self⟩, fun _ _ _ _ _ => rfl, fun hr => ⟨?_, fun _ _ => id, fun _ _ _ _ => rfl, id⟩⟩
  · by_cases hk : k = j
    · subst hk
      rw [State.used, journalOf_updJournalOf_same]
      exact hbound (hj k)
    · rw [State.used, journalOf_updJournalOf_ne _ _ _ _ hk]
      exact hj k
  · have hsame (k : Fin 3) : ((t.updJournalOf j f).journalOf k).kept = (t.journalOf k).kept := by
      by_cases hk : k = j
      · subst hk
        rw [journalOf_updJournalOf_same]
        exact hkept hr
      · rw [journalOf_updJournalOf_ne _ _ _ _ hk]
    simp only [State.requested, hsame]
    rfl

/-- The gap count and the quiet timer are the journal unit's own. -/
theorem Moves.updJournalUnit (h : Moves r s t) (f : JournalUnit → JournalUnit)
    (hf : ∀ u, (f u).journals = u.journals := by intros; rfl) : Moves r s (t.updJournal f) :=
  h.of_view (by simp only [State.view, State.updJournal, hf])

theorem used_advance (w q : Half) (c : Nat) (hc : c ≤ 256) (h : (w - q).toNat < c) : (w + 1 - q).toNat ≤ c := by
  have hw := w.isLt
  have hq := q.isLt
  rw [BitVec.toNat_sub] at h ⊢
  rw [BitVec.toNat_add]
  have : (1 : Half).toNat = 1 := rfl
  omega

theorem journalCapacity_le (j : Fin 3) : journalCapacity j ≤ 256 := by
  revert j
  decide

theorem journalBase_ge (j : Fin 3) : 0x1000 ≤ journalBase j := by
  revert j
  decide

theorem Moves.writeRecord (h : Moves r s t) (j : Fin 3) (bs : List Byte) : Moves r s (t.writeRecord j bs) := by
  unfold State.writeRecord
  refine .ite (fun hroom => ?_) fun _ => h
  have hput := h.putBytes (journalBase j + recordSize j * ((t.journalOf j).writeCount.toNat % journalCapacity j)) bs
    ((journalBase_ge j).trans (Nat.le_add_right _ _))
  have hcount := hput.updJournalOf j (fun q => Journal.refresh j { q with writeCount := q.writeCount + 1 })
    (fun _ => used_advance _ _ _ (journalCapacity_le j) hroom) fun _ => rfl
  exact .ite (fun _ => hcount.latch _) fun _ => hcount

theorem Moves.countDrop (h : Moves r s t) (j : Fin 3) : Moves r s (t.countDrop j) := h.updJournalOf j _ id fun _ => rfl
theorem Moves.setGap (h : Moves r s t) (n : Nat) : Moves r s (t.setGap n) := h.updJournalUnit _
theorem Moves.writeNotice (h : Moves r s t) (k : NoticeKind) (c o n a : Nat) : Moves r s (t.writeNotice k c o n a) :=
  h.writeRecord _ _
theorem Moves.writeGap (h : Moves r s t) : Moves r s t.writeGap := h.writeNotice _ _ _ _ _

theorem Moves.offerNotice (h : Moves r s t) (k : NoticeKind) (c o n a : Nat) : Moves r s (t.offerNotice k c o n a) := by
  unfold State.offerNotice
  exact .ite (fun _ => .ite (fun _ => h.writeNotice _ _ _ _ _) fun _ => (h.countDrop _).setGap _) fun _ =>
    .ite (fun _ => (h.writeGap.setGap _).writeNotice _ _ _ _ _) fun _ =>
    .ite (fun _ => (h.writeGap.countDrop _).setGap _) fun _ => (h.countDrop _).setGap _

theorem Moves.writeInput (h : Moves r s t) (k : InputKind) (c dx dy : Byte) (x : PartTime) :
    Moves r s (t.writeInput k c dx dy x) := by
  unfold State.writeInput
  exact (h.writeRecord _ _).updJournalUnit _

theorem Moves.setFault (h : Moves r s t) (k : FaultKind) (e : FaultEntry) : Moves r s (t.setFault k e) := h.of_view rfl

theorem Moves.reportActive (h : Moves r s t) (k : FaultKind) : Moves r s (t.reportActive k) := by
  unfold State.reportActive
  exact .ite (fun _ => h) fun _ => ((h.setFault _ _).latch _).offerNotice _ _ _ _ _

theorem Moves.reportInactive (h : Moves r s t) (k : FaultKind) : Moves r s (t.reportInactive k) := by
  unfold State.reportInactive
  exact .ite (fun _ => (h.setFault _ _).offerNotice _ _ _ _ _) fun _ => h

/-! ## The dispatcher -/

theorem writeResult_get_ne (s : State) (hm : s.mem.wf = true) (n : Fin 32) (code : ResultCode) (detail : Nat)
    (words : List Word) (hw : words.length ≤ 4) (a : Nat) (ha : a < slotBase n + 0x24 ∨ slotBase n + 64 ≤ a) :
    (s.writeResult n code detail words).mem.get a = s.mem.get a := by
  have w1 := Memory.wf_putLE s.mem (slotBase n + 0x24) 2 code.code hm
  have w2 := Memory.wf_putLE _ (slotBase n + 0x26) 2 detail w1
  have w3 := Memory.wf_putWords _ (slotBase n + 0x28) words w2
  simp only [State.writeResult, State.setMem]
  rw [Memory.get_putLE_ne _ w3 _ _ _ _ (by omega), get_putWords_ne _ w2 _ _ _ (by omega),
    Memory.get_putLE_ne _ w1 _ _ _ _ (by omega), Memory.get_putLE_ne _ hm _ _ _ _ (by omega)]

theorem writeResult_wf (s : State) (hm : s.mem.wf = true) (n : Fin 32) (code : ResultCode) (detail : Nat)
    (words : List Word) : (s.writeResult n code detail words).mem.wf = true :=
  Memory.wf_putLE _ _ _ _ (Memory.wf_putWords _ _ _ (Memory.wf_putLE _ _ _ _ (Memory.wf_putLE _ _ _ _ hm)))

theorem slotBase_le (n : Fin 32) : slotBase n + 64 ≤ 0x0D00 := by
  unfold slotBase
  omega

/-- A result is written into a slot: open to the calm scopes for a slot that a unit serves. -/
theorem Moves.writeResult (h : Moves r s t) (n : Fin 32) (code : ResultCode) (detail : Nat) (words : List Word)
    (hw : words.length ≤ 4) (hn : r = .calm ∨ r = .settling → ∃ v, t.servingSlot v = some n) :
    Moves r s (t.writeResult n code detail words) := by
  have hbase := slotBase_le n
  refine h.setMem _ (fun hm => writeResult_wf t hm n code detail words) (fun _ hm a ha _ => ?_) fun hr hm a _ hout => ?_
  · exact writeResult_get_ne t hm n code detail words hw a (Or.inr (by omega))
  · obtain ⟨v, hv⟩ := hn hr
    have := hout v n hv
    exact writeResult_get_ne t hm n code detail words hw a (by omega)

theorem Moves.updDispatch (h : Moves r s t) (f : Dispatcher → Dispatcher)
    (hslots : SlotsConsistent s → SlotsConsistent t → SlotsConsistent (t.updDispatch f))
    (hcalm : r = .calm ∨ r = .settling → (f t.dispatch).queue = t.dispatch.queue ∧
      ∀ v n, (t.updDispatch f).servingSlot v = some n → t.servingSlot v = some n) : Moves r s (t.updDispatch f) where
  keeps := { h.keeps with slots := fun hs => hslots hs (h.keeps.slots hs) }
  follows hr := h.follows hr
  leaves hr := ⟨(h.leaves hr).port, (h.leaves hr).latch⟩
  staging := h.staging
  stills hr := by
    obtain ⟨hreq, hserv, hmem, hstill⟩ := h.stills hr
    obtain ⟨hqueue, hserving⟩ := hcalm hr
    refine ⟨?_, fun v n => hserv v n ∘ hserving v n, hmem, hstill⟩
    rw [← hreq]
    simp only [State.requested, State.updDispatch, hqueue]
    rfl

/-- A unit that stops serving leaves the slots consistent. -/
theorem SlotsConsistent.setServing_none (h : SlotsConsistent t) (v : ServingUnit) : SlotsConsistent (t.setServing v none) := by
  obtain ⟨hnodup, hposted, htaken, hone⟩ := h
  have hserved (w : ServingUnit) (n : Fin 32) (hw : (t.setServing v none).servingSlot w = some n) :
      t.servingSlot w = some n := by
    by_cases hwv : w = v
    · rw [hwv, servingSlot_setServing] at hw
      cases hw
    · rwa [servingSlot_setServing_ne _ _ _ _ hwv] at hw
  exact ⟨hnodup, hposted, fun w n hw => htaken w n (hserved w n hw), fun w x n hw hx =>
    hone w x n (hserved w n hw) (hserved x n hx)⟩

/-- A slot that is not POSTED and that no unit serves may become FREE or DONE. -/
theorem SlotsConsistent.setSlot (h : SlotsConsistent t) (n : Fin 32) (st : SlotState) (hst : st = .free ∨ st = .done)
    (hposted : t.slotState n ≠ .posted) (hserved : ∀ v, t.servingSlot v ≠ some n) : SlotsConsistent (t.setSlot n st) := by
  obtain ⟨hnodup, hqueue, htaken, hone⟩ := h
  refine ⟨hnodup, fun k => ?_, fun v k hv => ?_, hone⟩
  · rw [slotState_setSlot]
    by_cases hk : k = n
    · subst hk
      rw [if_pos rfl]
      exact ⟨fun hmem => absurd ((hqueue k).mp hmem) hposted, fun e => by obtain rfl | rfl := hst <;> cases e⟩
    · rw [if_neg hk]
      exact hqueue k
  · obtain ⟨a, ha⟩ := htaken v k hv
    have hk : k ≠ n := fun e => hserved v (e ▸ hv)
    exact ⟨a, by rw [slotState_setSlot, if_neg hk, ha]⟩

/-- A slot that is TAKEN stays TAKEN, abandoned. -/
theorem SlotsConsistent.abandon (h : SlotsConsistent t) (n : Fin 32) (hn : t.slotState n = .taken false) :
    SlotsConsistent (t.setSlot n (.taken true)) := by
  obtain ⟨hnodup, hqueue, htaken, hone⟩ := h
  refine ⟨hnodup, fun k => ?_, fun v k hv => ?_, hone⟩
  · rw [slotState_setSlot]
    split
    · next hk =>
      refine (hqueue k).trans ?_
      rw [hk, hn]
      constructor <;> intro e <;> cases e
    · exact hqueue k
  · rw [slotState_setSlot]
    split
    · exact ⟨true, rfl⟩
    · exact htaken v k hv

/-- A slot leaves the queue with the state it has then: TAKEN, or FREE by a RELEASE. -/
theorem SlotsConsistent.dequeue (h : SlotsConsistent t) (n : Fin 32) (st : SlotState) (hst : st ≠ .posted)
    (hn : t.slotState n = .posted) :
    SlotsConsistent ((t.updDispatch fun d => { d with queue := d.queue.filter (· ≠ n) }).setSlot n st) := by
  obtain ⟨hnodup, hqueue, htaken, hone⟩ := h
  refine ⟨hnodup.filter _, fun k => ?_, fun v k hv => ?_, hone⟩
  · have hmem : k ∈ t.dispatch.queue.filter (· ≠ n) ↔ k ∈ t.dispatch.queue ∧ k ≠ n := by simp
    rw [slotState_setSlot]
    refine hmem.trans ?_
    by_cases hk : k = n
    · rw [if_pos hk]
      exact ⟨fun e => absurd hk e.2, fun e => absurd e hst⟩
    · rw [if_neg hk]
      exact ⟨fun e => (hqueue k).mp e.1, fun e => ⟨(hqueue k).mpr e, hk⟩⟩
  · obtain ⟨a, ha⟩ := htaken v k hv
    have hk : k ≠ n := fun e => by rw [e, hn] at ha; cases ha
    refine ⟨a, ?_⟩
    rw [slotState_setSlot, if_neg hk]
    exact ha

/-- A FREE slot is queued as POSTED. -/
theorem SlotsConsistent.enqueue (h : SlotsConsistent t) (n : Fin 32) (hn : t.slotState n = .free) :
    SlotsConsistent ((t.setSlot n .posted).updDispatch fun d => { d with queue := d.queue ++ [n] }) := by
  obtain ⟨hnodup, hqueue, htaken, hone⟩ := h
  have hout : n ∉ t.dispatch.queue := fun e => by rw [hqueue, hn] at e; cases e
  have hstate (k : Fin 32) : ((t.setSlot n .posted).updDispatch fun d => { d with queue := d.queue ++ [n] }).slotState k =
      if k = n then .posted else t.slotState k := slotState_setSlot t n k .posted
  refine ⟨?_, fun k => ?_, fun v k hv => ?_, hone⟩
  · exact List.Nodup.append hnodup (List.nodup_singleton n) (List.disjoint_singleton.mpr hout)
  · rw [hstate]
    have hmem : k ∈ t.dispatch.queue ++ [n] ↔ k ∈ t.dispatch.queue ∨ k = n := by simp
    refine hmem.trans ?_
    by_cases hk : k = n
    · simp [hk]
    · rw [if_neg hk, ← hqueue]
      simp [hk]
  · obtain ⟨a, ha⟩ := htaken v k hv
    have hk : k ≠ n := fun e => by rw [e, hn] at ha; cases ha
    exact ⟨a, by rw [hstate, if_neg hk, ha]⟩

/-- A unit begins to serve a TAKEN slot that no unit serves. -/
theorem SlotsConsistent.serve (h : SlotsConsistent t) (v : ServingUnit) (n : Fin 32) (a : Bool)
    (hn : t.slotState n = .taken a) (hserved : ∀ w, t.servingSlot w ≠ some n) : SlotsConsistent (t.setServing v (some n)) := by
  obtain ⟨hnodup, hqueue, htaken, hone⟩ := h
  have hcases (w : ServingUnit) (k : Fin 32) (hw : (t.setServing v (some n)).servingSlot w = some k) :
      (w = v ∧ k = n) ∨ (w ≠ v ∧ k ≠ n ∧ t.servingSlot w = some k) := by
    by_cases hwv : w = v
    · rw [hwv, servingSlot_setServing] at hw
      exact Or.inl ⟨hwv, (Option.some.inj hw).symm⟩
    · rw [servingSlot_setServing_ne _ _ _ _ hwv] at hw
      exact Or.inr ⟨hwv, fun e => hserved w (e ▸ hw), hw⟩
  refine ⟨hnodup, hqueue, fun w k hw => ?_, fun w x k hw hx => ?_⟩
  · obtain ⟨-, rfl⟩ | ⟨-, -, hw⟩ := hcases w k hw
    · exact ⟨a, hn⟩
    · exact htaken w k hw
  · obtain ⟨rfl, hk⟩ | ⟨-, hk, hw⟩ := hcases w k hw <;> obtain ⟨rfl, hk'⟩ | ⟨-, hk', hx⟩ := hcases x k hx
    · rfl
    · exact absurd hk hk'
    · exact absurd hk' hk
    · exact hone w x k hw hx

/-- A unit stops serving, and its slot becomes FREE or DONE (R9, R13). -/
theorem Moves.stopServing (h : Moves r s t) (v : ServingUnit) (n : Fin 32) (st : SlotState) (hst : st = .free ∨ st = .done)
    (hn : t.servingSlot v = some n) : Moves r s ((t.setServing v none).setSlot n st) := by
  have hstop : Moves r s (t.setServing v none) := by
    refine h.updDispatch _ (fun _ hs => hs.setServing_none v) fun _ => ⟨rfl, fun w k hw => ?_⟩
    by_cases hwv : w = v
    · have hnone : (t.setServing v none).servingSlot w = some k := hw
      rw [hwv, servingSlot_setServing] at hnone
      cases hnone
    · have hsame : (t.setServing v none).servingSlot w = some k := hw
      rwa [servingSlot_setServing_ne _ _ _ _ hwv] at hsame
  refine hstop.updDispatch _ (fun hs hs' => ?_) fun _ => ⟨rfl, fun w k => id⟩
  obtain ⟨-, -, htaken, hone⟩ := h.keeps.slots hs
  obtain ⟨a, ha⟩ := htaken v n hn
  refine hs'.setSlot n st hst (fun e => ?_) fun w hw => ?_
  · have hposted : t.slotState n = .posted := e
    rw [ha] at hposted
    cases hposted
  · by_cases hwv : w = v
    · rw [hwv, servingSlot_setServing] at hw
      cases hw
    · rw [servingSlot_setServing_ne _ _ _ _ hwv] at hw
      exact hwv (hone w v n hw hn)

theorem Moves.finishUnit (h : Moves r s t) (v : ServingUnit) (code : ResultCode) (detail : Nat) (words : List Word)
    (hw : words.length ≤ 4 := by simp) : Moves r s (t.finishUnit v code detail words) := by
  unfold State.finishUnit
  split
  · exact h
  · next n hn =>
    refine Moves.handLast ?_ .considerQueue
    unfold State.finishSlot
    split
    · exact h.stopServing v n .free (Or.inl rfl) hn
    · exact ((h.writeResult n code detail words hw fun _ => ⟨v, hn⟩).stopServing v n .done (Or.inr rfl) hn).latch _

theorem Moves.cancelSlot (h : Moves .host s t) (v : ServingUnit) (n : Fin 32) (hn : t.servingSlot v = some n) :
    Moves .host s (t.cancelSlot v n) := by
  refine Moves.handLast ?_ .considerQueue
  have hmem := h.setMem ((t.mem.putLE (slotBase n + 0x24) 2 ResultCode.cancelled.code).putLE (slotBase n + 0x3C) 4 t.now.toNat)
    (fun hm => Memory.wf_putLE _ _ _ _ (Memory.wf_putLE _ _ _ _ hm)) (fun _ hm a ha _ => by
      have := slotBase_le n
      rw [Memory.get_putLE_ne _ (Memory.wf_putLE _ _ _ _ hm) _ _ _ _ (by omega), Memory.get_putLE_ne _ hm _ _ _ _ (by omega)])
    fun hr => by cases hr <;> contradiction
  exact hmem.stopServing v n .free (Or.inl rfl) hn

theorem Moves.takeSlot (h : Moves .served s t) (n : Fin 32) (hn : n ∈ t.dispatch.queue) : Moves .served s (t.takeSlot n) := by
  have hbase := slotBase_le n
  have hcalm {p : Prop} (hr : Scope.served = .calm ∨ Scope.served = .settling) : p := by cases hr <;> contradiction
  have hmem := h.setMem (((t.mem.putBytes (slotBase n + 0x24) (List.replicate 20 0)).putLE (slotBase n + 0x38) 4
      t.now.toNat).putLE (slotBase n + 0x3C) 4 0)
    (fun hm => Memory.wf_putLE _ _ _ _ (Memory.wf_putLE _ _ _ _ (Memory.wf_putBytes _ _ _ hm)))
    (fun _ hm a ha _ => by
      have w1 := Memory.wf_putBytes t.mem (slotBase n + 0x24) (List.replicate 20 0) hm
      rw [Memory.get_putLE_ne _ (Memory.wf_putLE _ _ _ _ w1) _ _ _ _ (by omega),
        Memory.get_putLE_ne _ w1 _ _ _ _ (by omega), Memory.get_putBytes_ne _ hm _ _ _ (by simp; omega)])
    hcalm
  generalize hcleared : ((t.mem.putBytes (slotBase n + 0x24) (List.replicate 20 0)).putLE (slotBase n + 0x38) 4
      t.now.toNat).putLE (slotBase n + 0x3C) 4 0 = m at hmem
  have hslot := hmem.updDispatch (fun d => { d with queue := d.queue.filter (· ≠ n), slots := d.slots.set n (.taken false) })
    (fun _ hs => hs.dequeue n (.taken false) (by intro e; cases e) ((hs.2.1 n).mp hn)) hcalm
  have hunserved (hs : SlotsConsistent s) (v : ServingUnit) : t.servingSlot v ≠ some n := fun hv => by
    obtain ⟨-, hqueue, htaken, -⟩ := h.keeps.slots hs
    obtain ⟨a, ha⟩ := htaken v n hv
    rw [(hqueue n).mp hn] at ha
    cases ha
  simp only [State.takeSlot, State.updDispatch_mem, State.updDispatch_now, hcleared]
  split
  · refine Moves.handLast ?_ .considerQueue
    refine .ite (fun ht => absurd ht ?_) fun _ => .latch ?_ _
    · rw [slotState_setSlot, if_pos rfl]
      intro e
      cases e
    · refine (hslot.writeResult n .badRequest _ [] (by decide) hcalm).updDispatch _ (fun hs hs' => ?_) hcalm
      refine hs'.setSlot n .done (Or.inr rfl) (fun e => ?_) (hunserved hs)
      have htaken : (t.setSlot n (.taken false)).slotState n = .posted := e
      rw [slotState_setSlot, if_pos rfl] at htaken
      cases htaken
  · refine Moves.handLast ?_ .considerQueue
    refine Moves.setTasks ?_ _ (fun ht => ht) hcalm
    refine hslot.updDispatch _ (fun hs hs' => hs'.serve _ n false ?_ (hunserved hs)) hcalm
    exact (slotState_setSlot t n n (.taken false)).trans (if_pos rfl)

theorem Moves.considerQueue (h : Moves .served s t) : Moves .served s t.considerQueue := by
  unfold State.considerQueue
  refine .ite (fun _ => ?_) fun _ => h
  split
  · exact h
  · next n hn => exact h.takeSlot n (List.mem_of_find?_eq_some hn)

theorem Moves.postSlot (h : Moves .host s t) (n : Fin 32) : Moves .host s (t.postSlot n) := by
  unfold State.postSlot
  refine .ite (fun hf => Moves.handLast ?_ .considerQueue) fun _ => h.recordError _ _ _
  exact h.updDispatch (fun d => { d with slots := d.slots.set n .posted, queue := d.queue ++ [n] })
    (fun _ hs => hs.enqueue n hf) fun hr => by cases hr <;> contradiction

end Sys2Proof.Machine
end

section
/-! What the operations of the sensor sequencer, the angle, posture, link and allotment units may do: `Moves` for each, in
the order of the model's definitions. -/

namespace Sys2Proof.Machine

set_option Elab.async false

variable {r : Scope} {s t : State}

/-! ## The sensor sequencer -/

theorem Moves.startPeriod (h : Moves r s t) : Moves r s t.startPeriod := by
  unfold State.startPeriod
  exact .ite (fun _ => h.updSensor _) fun _ => (h.updSensor _).hand _

theorem Moves.periodExpired (h : Moves r s t) : Moves r s t.periodExpired := (h.updSensor _).startPeriod

theorem Moves.sensorPower (h : Moves r s t) (b : PowerState) : Moves r s (t.sensorPower b) := by
  unfold State.sensorPower
  exact .ite (fun _ => h.updSensor _) fun _ => .ite (fun _ => h.startPeriod) fun _ => h

theorem Moves.sensorAttach (h : Moves r s t) : Moves r s t.sensorAttach := h.updSensor _

theorem Moves.holdBaseSample (h : Moves r s t) (x y z : Half) : Moves r s (t.holdBaseSample x y z) :=
  .ite (fun _ => h.updSensor _) fun _ => h

theorem Moves.updHall (h : Moves r s t) (l : HallLine) (f : DebouncedLine → DebouncedLine) : Moves r s (t.updHall l f) := by
  unfold State.updHall
  cases l
  · exact h.updSensor _
  · exact h.updSensor _

theorem Moves.hallChange (h : Moves r s t) (l : HallLine) (b : Bool) : Moves r s (t.hallChange l b) :=
  .ite (fun _ => h.updHall _ _) fun _ => h.updHall _ _

theorem Moves.hallSettle (h : Moves r s t) (l : HallLine) : Moves r s (t.hallSettle l) := by
  unfold State.hallSettle
  exact .ite (fun _ => (h.updHall _ _).hand _) fun _ => h.updHall _ _

theorem Moves.judgeRead (h : Moves r s t) (good : Bool) : Moves r s (t.judgeRead good) := by
  unfold State.judgeRead
  exact .ite (fun _ => .ite (fun _ => (h.updSensor _).reportInactive _) fun _ => h.updSensor _) fun _ =>
    .ite (fun _ => (h.updSensor _).reportActive _) fun _ => h.updSensor _

theorem Moves.handSet (h : Moves r s t) (set : SampleSet) : Moves r s (t.handSet set) := h.updSensor _

theorem Moves.offerSample (h : Moves r s t) (set : SampleSet) (a : AngleResult) : Moves r s (t.offerSample set a) :=
  .ite (fun _ => .ite (fun _ => h.writeRecord _ _) fun _ => h.countDrop _) fun _ => h

/-! ## The angle unit -/

theorem Moves.checkHalls (h : Moves r s t) (set : SampleSet) : Moves r s (t.checkHalls set) :=
  .ite (fun _ => h.reportActive _) fun _ => h.reportInactive _

/-- The accumulator moves toward sixteen times the hinge angle and not past it (R72). -/
theorem filterStep_le (hasValue : Bool) (acc a k : Nat) (hacc : acc ≤ 65536) (ha : a ≤ 4096) :
    filterStep hasValue acc a k ≤ 65536 := by
  unfold filterStep
  split
  · have hpow : (1 : Int) ≤ 2 ^ k := by exact_mod_cast Nat.one_le_two_pow
    by_cases hd : (0 : Int) ≤ 16 * a - acc
    · have : (16 * (a : Int) - acc) / 2 ^ k ≤ 16 * a - acc := Int.ediv_le_self _ hd
      omega
    · have : (16 * (a : Int) - acc) / 2 ^ k < 0 := Int.ediv_neg_of_neg_of_pos (by omega) (by omega)
      omega
  · omega

theorem Moves.filter (h : Moves r s t) (a : Nat) (ha : a ≤ 4096) (q : Quality) (side : Side) :
    Moves r s (t.filter a q side) := by
  refine h.trans ⟨⟨rfl, rfl, id, id, fun hb => ?_, id, id, id, id, id, id, id⟩, fun _ => id,
    fun _ => ⟨rfl, BitVec.and_self⟩, fun _ _ _ _ _ => rfl, fun _ => ⟨rfl, fun _ _ => id, fun _ _ _ _ => rfl, id⟩⟩
  have hacc := filterStep_le t.angle.hasValue t.angle.accumulator a t.settings.active.filterShift hb.1 ha
  refine ⟨hacc, ?_⟩
  show (filterStep t.angle.hasValue t.angle.accumulator a t.settings.active.filterShift + 8) / 16 ≤ 4096
  omega

theorem rawDifference_lt (b l o : Nat) (c : Int) : rawDifference b l o c < 4096 := by
  unfold rawDifference
  omega

theorem unwrap_le (side : Side) (d : Nat) (hd : d ≤ 4096) : unwrap side d ≤ 4096 := by
  unfold unwrap
  repeat' split
  all_goals omega

theorem hallAngle_le (s : State) (set : SampleSet) (a : Nat) (side : Side) (h : s.hallAngle set = some (a, side)) :
    a ≤ 4096 := by
  unfold State.hallAngle at h
  split at h
  · split at h
    · cases h
      decide
    · cases h
      decide
    · cases h
  · cases h

theorem Moves.holdSet (h : Moves r s t) : Moves r s t.holdSet :=
  h.updAngle _ fun u => by repeat' split
                           all_goals exact ⟨rfl, rfl⟩

theorem Moves.loseSet (h : Moves r s t) : Moves r s t.loseSet := h.updAngle _

theorem Moves.angleSet (h : Moves r s t) (set : SampleSet) : Moves r s (t.angleSet set).1 := by
  have hchecked := h.checkHalls set
  unfold State.angleSet
  dsimp only
  split
  · exact hchecked.filter _ (unwrap_le _ _ (rawDifference_lt _ _ _ _).le) _ _
  · split
    · next ha => exact hchecked.filter _ (hallAngle_le _ _ _ _ ha) _ _
    · exact hchecked.holdSet
  · split
    · next ha => exact hchecked.filter _ (hallAngle_le _ _ _ _ ha) _ _
    · exact hchecked.loseSet

theorem Moves.setCalibration (h : Moves r s t) (c : Option Calibration) : Moves r s (t.setCalibration c) := h.updAngle _
theorem Moves.beginCalibration (h : Moves r s t) : Moves r s t.beginCalibration := h.setCalibration _

theorem Moves.failCalibration (h : Moves r s t) (d : Nat) : Moves r s (t.failCalibration d) := by
  unfold State.failCalibration
  split
  · exact h
  · exact (h.setCalibration _).finishUnit _ _ _ _

theorem Moves.completeCalibration (h : Moves r s t) (sum : Int) : Moves r s (t.completeCalibration sum) := by
  unfold State.completeCalibration
  exact .ite (fun _ => ((h.setCalibration _).updAngle _).finishUnit _ _ _ _) fun _ =>
    (h.setCalibration _).finishUnit _ _ _ _

theorem Moves.calibrateSet (h : Moves r s t) (a : AngleResult) : Moves r s (t.calibrateSet a) := by
  unfold State.calibrateSet
  split
  · exact h
  · dsimp only
    split
    · exact (h.setCalibration _).failCalibration _
    · exact .ite (fun _ => (h.setCalibration _).completeCalibration _) fun _ =>
        .ite (fun _ => (h.setCalibration _).failCalibration _) fun _ => h.setCalibration _
    · exact .ite (fun _ => (h.setCalibration _).failCalibration _) fun _ => h.setCalibration _
    · exact .ite (fun _ => (h.setCalibration _).failCalibration _) fun _ => h.setCalibration _

theorem Moves.restartCollection (h : Moves r s t) : Moves r s t.restartCollection := h.updAngle _
theorem Moves.angleDetached (h : Moves r s t) : Moves r s t.angleDetached := (h.updAngle _).failCalibration _
theorem Moves.angleStandby (h : Moves r s t) : Moves r s t.angleStandby := h.failCalibration _
theorem Moves.seedSide (h : Moves r s t) (b : Bool) : Moves r s (t.seedSide b) := h.updAngle _

/-! ## The posture unit -/

theorem Moves.commitOrientation (h : Moves r s t) (o : Orientation) (c : Nat) : Moves r s (t.commitOrientation o c) := by
  unfold State.commitOrientation
  exact .ite (fun _ => h.updPosture _) fun _ =>
    (((((h.updPosture _).updPosture _).touchBoard).latch _).offerNotice _ _ _ _ _).hand _

theorem Moves.compareOrientation (h : Moves r s t) : Moves r s t.compareOrientation := by
  unfold State.compareOrientation
  exact .ite (fun _ => h.updPosture _) fun _ => .ite (fun _ => h) fun _ => .ite (fun _ => h.commitOrientation _ _) fun _ =>
    h.updPosture _

theorem Moves.gateRotation (h : Moves r s t) : Moves r s t.gateRotation := by
  unfold State.gateRotation
  refine .ite (fun _ => ?_) fun _ => h.commitOrientation _ _
  split
  · exact h.commitOrientation _ _
  · exact h.compareOrientation

theorem Moves.commitPosture (h : Moves r s t) (p : Posture) (b : Option Nat) (c : Nat) :
    Moves r s (t.commitPosture p b c) := (h.updPosture _).touchBoard.hand _

theorem Moves.reportPosture (h : Moves r s t) (b : Posture) (c : Nat) : Moves r s (t.reportPosture b c) :=
  (h.latch _).offerNotice _ _ _ _ _

theorem Moves.commitDetached (h : Moves r s t) : Moves r s t.commitDetached :=
  .ite (fun _ => h) fun _ => (h.updPosture _).commitPosture _ _ _

theorem Moves.freshEvaluation (h : Moves r s t) (c : Nat) : Moves r s (t.freshEvaluation c) := by
  have settle {u : State} (hu : Moves r s u) (p : Posture) (b : Option Nat) :
      Moves r s (if p = u.posture.posture ∧ b = u.posture.band then
        (if b.isSome then u.hand [.publishFlags, .sleepRefresh, .gateRotation] else u.hand [.gateRotation])
        else u.commitPosture p b c) :=
    .ite (fun _ => .ite (fun _ => hu.hand _) fun _ => hu.hand _) fun _ => hu.commitPosture _ _ _
  have hcleared := h.updPosture fun u => { u with dwell := none, unavailable := none, candidate := none }
  unfold State.freshEvaluation
  refine .ite (fun _ => hcleared.hand _) fun _ => .ite (fun _ => ?_) fun _ => settle hcleared _ _
  split
  · exact settle (hcleared.updPosture _) _ _
  · exact settle (hcleared.updPosture _) _ _

theorem Moves.keepBand (h : Moves r s t) : Moves r s t.keepBand := h.updPosture _

theorem Moves.considerBand (h : Moves r s t) (i : Nat) (b : Band) : Moves r s (t.considerBand i b) := by
  unfold State.considerBand
  exact .ite (fun _ => h) fun _ => .ite (fun _ => h.commitPosture _ _ _) fun _ => h.updPosture _

theorem Moves.evaluateBand (h : Moves r s t) : Moves r s t.evaluateBand := by
  have flag (b : Bool) : Moves r s (t.updPosture fun u => { u with outOfTable := b }) := h.updPosture _
  unfold State.evaluateBand
  refine .ite (fun _ => (flag false).keepBand) fun _ => ?_
  split
  · exact (flag true).keepBand
  · exact .ite (fun _ => (flag false).keepBand) fun _ => (flag false).considerBand _ _

theorem Moves.evaluateUnbanded (h : Moves r s t) : Moves r s t.evaluateUnbanded := by
  unfold State.evaluateUnbanded
  split
  · exact (h.updPosture _).commitPosture _ _ _
  · exact .ite (fun _ => (h.updPosture _).commitPosture _ _ _) fun _ => h.updPosture _

theorem Moves.evaluateLost (h : Moves r s t) : Moves r s t.evaluateLost := by
  unfold State.evaluateLost
  exact .ite (fun _ => h.keepBand.updPosture _) fun _ => .ite (fun _ => h.keepBand.updPosture _) fun _ => h.keepBand

/-- The posture evaluation of a set with an angle, while a base is attached (R89, R93). -/
def State.evaluatePlaced (s : State) : State :=
  match s.posture.posture with
  | .detached | .unknown => (s.updPosture fun u => { u with unavailable := none }).evaluateUnbanded
  | .closed | .laptop | .stand | .tent | .tablet => (s.updPosture fun u => { u with unavailable := none }).evaluateBand

theorem Moves.evaluatePlaced (h : Moves r s t) : Moves r s t.evaluatePlaced := by
  have hmeasured : Moves r s (t.updPosture fun u => { u with unavailable := none }) := h.updPosture _
  unfold State.evaluatePlaced
  split
  · exact hmeasured.evaluateUnbanded
  · exact hmeasured.evaluateUnbanded
  all_goals exact hmeasured.evaluateBand

theorem Moves.evaluatePosture (h : Moves r s t) : Moves r s t.evaluatePosture := by
  have hattached : Moves r s (match t.posture.lastQuality with
      | .unavailable => t.evaluateLost
      | .good | .held | .hall => t.evaluatePlaced) := by
    split
    · exact h.evaluateLost
    all_goals exact h.evaluatePlaced
  unfold State.evaluatePosture
  split
  · exact h.commitDetached
  · exact h.evaluateLost
  all_goals exact hattached

theorem Moves.postureSet (h : Moves r s t) (set : SampleSet) : Moves r s (t.postureSet set) := by
  unfold State.postureSet
  exact ((h.updPosture _).hand _).evaluatePosture

theorem Moves.dwellExpired (h : Moves r s t) : Moves r s t.dwellExpired := by
  unfold State.dwellExpired
  split
  · exact h.keepBand
  · split
    · exact h.commitPosture _ _ _
    · exact h.keepBand

theorem Moves.signalLost (h : Moves r s t) : Moves r s t.signalLost := (h.updPosture _).commitPosture _ _ _

theorem Moves.evaluateOrientation (h : Moves r s t) (set : SampleSet) : Moves r s (t.evaluateOrientation set) := by
  unfold State.evaluateOrientation
  exact .ite (fun _ => .ite (fun _ => h.updPosture _) fun _ => .ite (fun _ => (h.updPosture _).compareOrientation) fun _ =>
    h.updPosture _) fun _ => h

theorem Moves.orientationDwellExpired (h : Moves r s t) : Moves r s t.orientationDwellExpired := h.commitOrientation _ _

theorem Moves.posturePower (h : Moves r s t) : Moves r s t.posturePower := .ite (fun _ => h.updPosture _) fun _ => h

/-- An update of the posture unit by a request or a reset. -/
theorem Moves.updPosture_served (h : Moves r s t) (hr : r = .served ∨ r = .host) (f : PostureUnit → PostureUnit) :
    Moves r s (t.updPosture f) :=
  h.trans ⟨⟨rfl, rfl, id, id, id, id, id, id, id, id, id, id⟩, fun _ => id,
    fun _ => ⟨rfl, BitVec.and_self⟩, fun _ _ _ _ _ => rfl, fun hc => by obtain rfl | rfl := hr <;> cases hc <;> contradiction⟩

theorem Moves.resetPosture (h : Moves .host s t) : Moves .host s t.resetPosture := h.updPosture_served (.inr rfl) _

theorem Moves.lockRotation (h : Moves .served s t) (w0 w1 : Nat) : Moves .served s (t.lockRotation w0 w1) := by
  unfold State.lockRotation
  refine .ite (fun _ => h.finishUnit _ _ _ _) fun _ => .ite (fun _ => .ite (fun _ => h.finishUnit _ _ _ _) fun _ => ?_)
    fun _ => ?_
  · have hlock := ((h.updPosture_served (.inl rfl) fun u =>
      { u with lock := some (if w1 = 255 then t.posture.oriented else Orientation.ofCode w1), orientationDwell := none }).touchWhen
      t.posture.lock.isNone).hand [.finishLock (word (if w1 = 255 then t.posture.oriented else Orientation.ofCode w1).code)]
    exact .ite (fun _ => hlock.commitOrientation _ _) fun _ => hlock.updPosture _
  · have hunlock := ((h.updPosture_served (.inl rfl) fun u => { u with lock := none }).touchWhen
      t.posture.lock.isSome).hand [.finishLock 255]
    exact .ite (fun _ => hunlock.compareOrientation) fun _ => hunlock

theorem Moves.finishLock (h : Moves r s t) (w : Word) : Moves r s (t.finishLock w) := h.finishUnit _ _ _ _

/-- An update of the settings unit by a request or a reset that leaves the pulse limit and the pen's thresholds in order. -/
theorem Moves.updSettings (h : Moves r s t) (hr : r = .served ∨ r = .host) (f : SettingsUnit → SettingsUnit)
    (hlimit : t.settings.active.pulseLimit ≤ 8 → (f t.settings).active.pulseLimit ≤ 8)
    (hpen : TopUpBelowTarget t → TopUpBelowTarget (t.updSettings f)) : Moves r s (t.updSettings f) :=
  h.trans ⟨⟨rfl, rfl, id, id, id, fun hp => ⟨hp.1, hlimit hp.2⟩, hpen, id, id, id, id, id⟩, fun _ => id,
    fun _ => ⟨rfl, BitVec.and_self⟩, fun _ _ _ _ _ => rfl, fun hc => by obtain rfl | rfl := hr <;> cases hc <;> contradiction⟩

theorem Moves.loadTable (h : Moves .served s t) (n : Nat) : Moves .served s (t.loadTable n) := by
  unfold State.loadTable
  refine .ite (fun _ => h.finishUnit _ _ _ _) fun _ => ?_
  split
  · exact h.finishUnit _ _ _ _
  · exact (h.updSettings (.inl rfl) _ id id).hand _

theorem Moves.finishLoad (h : Moves r s t) (n : Nat) : Moves r s (t.finishLoad n) := h.finishUnit _ _ _ _

/-! ## The base link unit -/

/-- Starting or stopping the under-voltage timer is the allotment unit's own. -/
theorem Moves.watchVbase (h : Moves r s t) (before : State) : Moves r s (before.watchVbase t) := by
  unfold State.watchVbase
  exact .ite (fun _ => h.updAllot _) fun _ => .ite (fun _ => h.updAllot _) fun _ => h

theorem Moves.setHoldOff (h : Moves r s t) (b : Bool) : Moves r s (t.setHoldOff b) := (h.updLink _).watchVbase _

theorem send_viewed (period : Nat) (u : LinkUnit) : (LinkUnit.send period u).viewed = u.viewed := by
  unfold LinkUnit.send
  split
  · rfl
  · split
    · rfl
    · next p _ => cases p <;> rfl

theorem Moves.sendNext (h : Moves r s t) : Moves r s t.sendNext := h.updLink _ (send_viewed _)

theorem Moves.offerPacket (h : Moves r s t) (p : PartPacket) : Moves r s (t.offerPacket p) := by
  have hoffer : Moves r s ((t.updLink fun u => { u with transmitList := offerTo u.transmitList p }).sendNext) :=
    (h.updLink _).sendNext
  cases p with
  | light => exact .ite (fun _ => hoffer) fun _ => h.hand _
  | _ => exact .ite (fun _ => hoffer) fun _ => h

theorem Moves.offerRate (h : Moves r s t) : Moves r s t.offerRate := h.offerPacket _

theorem Moves.transmitDone (h : Moves r s t) : Moves r s t.transmitDone := by
  unfold State.transmitDone
  split
  · exact h
  · exact (h.updLink _).sendNext

theorem holdAfter_follows (hold : Bool) (n : Nat) : (12 ≤ n → holdAfter hold n = true) ∧ (n ≤ 4 → holdAfter hold n = false) := by
  unfold holdAfter
  constructor <;> intro h
  · rw [if_pos h]
  · rw [if_neg (by omega), if_pos h]

/-- A change of the receive queue that keeps it within sixteen packets. -/
theorem Moves.setReceiveQueue (h : Moves r s t) (q : List Received)
    (hq : t.link.receiveQueue.length ≤ 16 → q.length ≤ 16) : Moves r s (t.setReceiveQueue q) :=
  h.trans ⟨⟨rfl, rfl, id, id, id, id, id, fun hl => ⟨hq hl.1, holdAfter_follows _ _⟩, id, id, id, id⟩, fun _ => id,
    fun _ => ⟨rfl, BitVec.and_self⟩, fun _ _ _ _ _ => rfl, fun _ => ⟨rfl, fun _ _ => id, fun _ _ _ _ => rfl, id⟩⟩

theorem Moves.takeDown (h : Moves r s t) : Moves r s t.takeDown := by
  have hdown : Moves r s (t.updLink fun u =>
      { u with timer := none, receiveQueue := [], hold := false, discards := [], transmitList := [] }) :=
    h.trans ⟨⟨rfl, rfl, id, id, id, id, id, fun _ => ⟨Nat.zero_le _, fun h => absurd h (Nat.not_succ_le_zero 11), fun _ => rfl⟩, id, id, id, id⟩,
      fun _ => id, fun _ => ⟨rfl, BitVec.and_self⟩, fun _ _ _ _ _ => rfl,
      fun _ => ⟨rfl, fun _ _ => id, fun _ _ _ _ => rfl, id⟩⟩
  exact .ite (fun _ => hdown.hand _) fun _ => hdown

theorem Moves.enterLink (h : Moves r s t) (l : LinkState) (c : Nat) : Moves r s (t.enterLink l c) := by
  have hentered := ((h.updLink fun u => { u with state := l, ignoring := u.ignoring && l.receiving }).touchBoard).hand
    [.attachLink, .serveReceiveQueue]
  exact Moves.offerNotice (.ite (fun _ => hentered.takeDown) fun _ => hentered.sendNext) _ _ _ _ _

theorem Moves.setLinkTimer (h : Moves r s t) (k : LinkTimerKind) (ms : Nat) : Moves r s (t.setLinkTimer k ms) :=
  h.updLink (fun u => { u with timer := some (k, t.after ms) })

theorem Moves.enterPowering (h : Moves r s t) : Moves r s t.enterPowering := (h.setLinkTimer _ _).enterLink _ _

theorem Moves.enterGreeting (h : Moves r s t) (c : Nat) : Moves r s (t.enterGreeting c) :=
  ((h.updLink _).setLinkTimer _ _).enterLink _ _

theorem Moves.enterReady (h : Moves r s t) : Moves r s t.enterReady := by
  have hready := ((h.updLink fun u => { u with recoveries := 0 }).setLinkTimer .supervision 300).enterLink .ready 0
  have hrate {u : State} (hu : Moves r s u) :
      Moves r s (if u.sensor.period = u.link.lastPeriodSent then u else u.offerPacket (.rate u.sensor.period)) :=
    .ite (fun _ => hu) fun _ => hu.offerPacket _
  unfold State.enterReady
  exact .ite (fun _ => hrate hready) fun _ => (hrate hready).offerPacket _

theorem Moves.enterFaulted (h : Moves r s t) (c : Nat) : Moves r s (t.enterFaulted c) :=
  (((h.hand _).enterLink _ _).setHoldOff _).reportActive _

theorem Moves.enterLost (h : Moves r s t) (c : Nat) : Moves r s (t.enterLost c) :=
  .ite (fun _ => h.enterFaulted _) fun _ => (((h.enterLink _ _).setHoldOff _).setLinkTimer _ _).updLink _

theorem Moves.enterUnpowered (h : Moves r s t) (c : Nat) : Moves r s (t.enterUnpowered c) := h.enterLink _ _

theorem Moves.powerOrWait (h : Moves r s t) : Moves r s t.powerOrWait :=
  .ite (fun _ => h.enterPowering) fun _ => h.enterUnpowered _

theorem Moves.linkDetect (h : Moves r s t) : Moves r s t.linkDetect := by
  have hgone := ((((h.hand [.stateBacklight]).enterLink .absent 1).setHoldOff false).updLink fun u =>
    { u with stage := .awaitHello, retries := 0, recoveries := 0, capBacklight := false, capButton := false })
  unfold State.linkDetect
  exact .ite (fun _ => .ite (fun _ => h.powerOrWait) fun _ => h) fun _ => .ite (fun _ => h) fun _ =>
    .ite (fun _ => hgone.reportInactive _) fun _ => hgone

theorem Moves.linkGrant (h : Moves r s t) : Moves r s t.linkGrant := by
  unfold State.linkGrant
  refine .ite (fun _ => .ite (fun _ => h.enterPowering) fun _ => h) fun _ => ?_
  split
  all_goals first | exact h | exact h.enterUnpowered _

theorem Moves.offerWelcome (h : Moves r s t) : Moves r s t.offerWelcome := h.offerPacket _

theorem Moves.greetingExpired (h : Moves r s t) : Moves r s t.greetingExpired := by
  have hagain := (h.updLink fun u => { u with retries := u.retries + 1 }).setLinkTimer .greeting 200
  unfold State.greetingExpired
  exact .ite (fun _ => .ite (fun _ => hagain.offerWelcome) fun _ => hagain) fun _ => (h.updLink _).enterFaulted _

theorem Moves.recoveryExpired (h : Moves r s t) : Moves r s t.recoveryExpired :=
  ((h.updLink _).setHoldOff _).powerOrWait

theorem Moves.discardPacket (h : Moves r s t) (x : DiscardReason) : Moves r s (t.discardPacket x) := by
  unfold State.discardPacket
  exact .ite (fun _ => .ite (fun _ => ((h.updLink _).updLink _).enterLost _) fun _ => h.updLink _) fun _ => h

/-- A change of the pressed keys that keeps them few and distinct. -/
theorem Moves.updPressed (h : Moves r s t) (f : LinkUnit → LinkUnit)
    (hf : (f t.link).receiveQueue = t.link.receiveQueue ∧ (f t.link).hold = t.link.hold)
    (hp : PressedBounded t → PressedBounded (t.updLink f)) : Moves r s (t.updLink f) := by
  obtain ⟨hqueue, hhold⟩ := hf
  refine h.trans ⟨⟨rfl, rfl, id, id, id, id, id, fun hl => ?_, hp, id, id, id⟩, fun _ => id,
    fun _ => ⟨rfl, BitVec.and_self⟩, fun _ _ _ _ _ => rfl, fun _ => ⟨rfl, fun _ _ => id, fun _ _ _ _ => rfl, id⟩⟩
  simp only [HoldFollowsQueue, State.updLink, hqueue, hhold]
  exact hl

theorem closeHalves_queue (u : LinkUnit) (keyboard pointer : Bool) :
    (u.closeHalves keyboard pointer).receiveQueue = u.receiveQueue ∧ (u.closeHalves keyboard pointer).hold = u.hold ∧
      (u.closeHalves keyboard pointer).pressed = if keyboard then [] else u.pressed := by
  unfold LinkUnit.closeHalves
  cases keyboard <;> simp only [Bool.false_eq_true, if_false, if_true] <;> split <;> exact ⟨rfl, rfl, rfl⟩

theorem Moves.closeHalves (h : Moves r s t) (keyboard pointer : Bool) :
    Moves r s (t.updLink fun u => u.closeHalves keyboard pointer) := by
  obtain ⟨hqueue, hhold, hpressed⟩ := closeHalves_queue t.link keyboard pointer
  refine h.updPressed _ ⟨hqueue, hhold⟩ fun hp => ?_
  simp only [PressedBounded, State.updLink, hpressed]
  split
  · exact ⟨by decide, List.nodup_nil⟩
  · exact hp

theorem Moves.followGate (h : Moves r s t) : Moves r s t.followGate := (h.closeHalves _ _).hand _
theorem Moves.closeGate (h : Moves r s t) : Moves r s t.closeGate := h.closeHalves _ _
theorem Moves.publishFlags (h : Moves r s t) : Moves r s t.publishFlags := (h.updLink _).followGate
theorem Moves.askResume (h : Moves r s t) : Moves r s t.askResume :=
  .ite (fun _ => (h.offerPacket _).enterLink _ _) fun _ => h
theorem Moves.quiesceLink (h : Moves r s t) : Moves r s t.quiesceLink := ((h.offerPacket _).closeGate).enterLink _ _

theorem Moves.deliver (h : Moves r s t) (k : InputKind) (c dx dy : Byte) (x : PartTime) (wake : List Task)
    (hw : calmTasks (.activity :: wake) = true := by rfl) : Moves r s (t.deliver k c dx dy x wake) :=
  (h.writeInput _ _ _ _ _).hand _ hw

theorem Moves.countDroppedKey (h : Moves r s t) : Moves r s t.countDroppedKey := h.updLink _

theorem Moves.servePress (h : Moves r s t) (c : Byte) (x : PartTime) : Moves r s (t.servePress c x) := by
  unfold State.servePress
  refine .ite (fun _ => .ite (fun hroom => ?_) fun _ => h.countDroppedKey.offerNotice _ _ _ _ _) fun _ => h.countDroppedKey
  refine Moves.deliver (h.updPressed _ ⟨rfl, rfl⟩ fun hp => ?_) _ _ _ _ _ _
  obtain ⟨hlength, hnodup⟩ := hp
  simp only [PressedBounded, State.updLink]
  split
  · exact ⟨hlength, hnodup⟩
  · next hnew =>
    have hout : c ∉ t.link.pressed := by simpa using hnew
    refine ⟨?_, List.Nodup.append hnodup (List.nodup_singleton c) (List.disjoint_singleton.mpr hout)⟩
    simp only [List.length_append, List.length_singleton]
    omega

theorem Moves.serveRelease (h : Moves r s t) (c : Byte) (x : PartTime) : Moves r s (t.serveRelease c x) := by
  refine .ite (fun _ => Moves.deliver (h.updPressed _ ⟨rfl, rfl⟩ fun hp => ?_) _ _ _ _ _ _) fun _ => h
  obtain ⟨hlength, hnodup⟩ := hp
  exact ⟨(List.length_filter_le _ _).trans hlength, hnodup.filter _⟩

theorem Moves.servePointer (h : Moves r s t) (dx dy : Byte) (b : BitVec 3) (x : PartTime) :
    Moves r s (t.servePointer dx dy b x) := .ite (fun _ => (h.updLink _).deliver _ _ _ _ _ _) fun _ => h

theorem Moves.greetHello (h : Moves r s t) (v c : Byte) : Moves r s (t.greetHello v c) :=
  .ite (fun _ => (h.updLink _).hand _) fun _ => h.enterFaulted _

theorem Moves.greetPacket (h : Moves r s t) (p : BasePacket) : Moves r s (t.greetPacket p) := by
  cases p with
  | hello => exact h.greetHello _ _
  | ack => exact .ite (fun _ => h.enterReady) fun _ => h
  | _ => exact h

theorem Moves.rehello (h : Moves r s t) (x : Received) (v : Byte) : Moves r s (t.rehello x v) :=
  .ite (fun _ => (h.hand _).enterGreeting _) fun _ => h.enterFaulted _

theorem Moves.serveStatus (h : Moves r s t) (l f : Byte) : Moves r s (t.serveStatus l f) :=
  .ite (fun _ => h.enterFaulted _) fun _ => .ite (fun _ => h) fun _ => h.offerPacket _

theorem Moves.serveAck (h : Moves r s t) (k : Byte) : Moves r s (t.serveAck k) :=
  .ite (fun _ => h.hand _) fun _ => .ite (fun _ => h.hand _) fun _ => h

theorem Moves.servePacket (h : Moves r s t) (x : Received) : Moves r s (t.servePacket x) := by
  unfold State.servePacket
  repeat' split
  all_goals first
    | exact h
    | exact h.greetPacket _
    | exact h.rehello _ _
    | exact h.servePress _ _
    | exact h.serveRelease _ _
    | exact h.servePointer _ _ _ _
    | exact h.holdBaseSample _ _ _
    | exact h.serveStatus _ _
    | exact h.hand _
    | exact h.serveAck _

theorem Moves.writeOwed (h : Moves r s t) : Moves r s t.writeOwed := by
  unfold State.writeOwed
  split
  · exact h
  · dsimp only
    split
    · exact (h.updLink _).writeInput _ _ _ _ _
    · exact (h.updLink _).writeInput _ _ _ _ _

theorem Moves.serveReceiveQueue (h : Moves r s t) : Moves r s t.serveReceiveQueue := by
  unfold State.serveReceiveQueue
  refine .ite (fun _ => h) fun _ => .ite (fun _ => h.writeOwed.hand _) fun _ => ?_
  split
  · exact h
  · refine Moves.hand (h.setReceiveQueue _ fun hl => ?_) _
    exact (List.length_erase_le).trans hl

theorem Moves.packetArrived (h : Moves r s t) (p : BasePacket) : Moves r s (t.packetArrived p) := by
  have arrive {u : State} (hu : Moves r s u) :
      Moves r s (if u.link.receiveQueue.length < 16 then
        (u.setReceiveQueue (u.link.receiveQueue ++ [{ packet := p, arrival := u.now }])).hand [.serveReceiveQueue]
        else ((u.updLink fun x => { x with overruns := bump 65535 x.overruns }).touchBoard).hand [.serveReceiveQueue]) :=
    .ite (fun hl => Moves.hand (hu.setReceiveQueue _ fun _ => by simpa using hl) _) fun _ => (hu.updLink _).touchBoard.hand _
  unfold State.packetArrived
  exact .ite (fun _ => arrive (.ite (fun _ => h) fun _ => h.setLinkTimer _ _)) fun _ => h

end Sys2Proof.Machine
end

section
/-! What the operations of the allotment and attachment units may do: `Moves` for each, in the order of the model's
definitions. -/

namespace Sys2Proof.Machine

set_option Elab.async false

variable {r : Scope} {s t : State}

/-! ## The allotment unit -/

theorem targets_legal (budget : Nat) (d : Allotments) : (targets budget d).legal := by
  have hcoil : coilTarget budget d = 0 ∨ coilTarget budget d = 1200 := by unfold coilTarget; split <;> omega
  have hbase (b : Nat) : baseTarget b d = 0 ∨ baseTarget b d = 250 := by unfold baseTarget; split <;> omega
  have hpen (b : Nat) : penTarget b d = 0 ∨ 150 ≤ penTarget b d := by unfold penTarget; split <;> omega
  have hbacklight (b base : Nat) : backlightTarget b base d % 150 = 0 := by unfold backlightTarget; split <;> omega
  exact ⟨hcoil, hbase _, hpen _, hbacklight _ _⟩

theorem lowered_legal {g x : Allotments} (hg : g.legal) (hx : x.legal) : (lowered g x).legal := by
  obtain ⟨gcoil, gbase, gpen, gbacklight⟩ := hg
  obtain ⟨xcoil, xbase, xpen, xbacklight⟩ := hx
  unfold Allotments.legal lowered
  refine ⟨?_, ?_, ?_, ?_⟩ <;> dsimp only <;> omega

theorem lowered_le (g x : Allotments) : (lowered g x).le x :=
  ⟨Nat.min_le_right _ _, Nat.min_le_right _ _, Nat.min_le_right _ _, Nat.min_le_right _ _⟩

theorem increaseOf_getD (g x : Nat) : (increaseOf g x).getD (min g x) = x := by
  unfold increaseOf
  split
  · rfl
  · simp only [Option.getD_none]
    omega

/-- The decreases and the pending increases together make up the targets (R167). -/
theorem raised_lowered (g x : Allotments) : raised (lowered g x) (increasesOf g x) = x := by
  simp only [raised, lowered, increasesOf, increaseOf_getD]

/-- A change of the allotment unit that keeps the grants within the targets and the source. -/
theorem Moves.updGrants (h : Moves r s t) (f : AllotUnit → AllotUnit) (hsource : (f t.allot).source = t.allot.source)
    (hgrants : GrantsWithinTargets t → GrantsWithinTargets (t.updAllot f)) : Moves r s (t.updAllot f) := by
  refine h.trans ⟨⟨rfl, rfl, id, id, id, id, id, id, id, hgrants, id, id⟩, fun _ => id,
    fun _ => ⟨rfl, BitVec.and_self⟩, fun _ _ _ _ _ => rfl, fun _ => ⟨?_, fun _ _ => id, fun _ _ _ _ => rfl, id⟩⟩
  simp only [State.requested, State.updAllot, hsource]
  rfl

theorem grantTasks_calm (before after : Allotments) : calmTasks (grantTasks before after) = true := by
  unfold grantTasks
  simp only [calmTasks_append, Bool.and_eq_true]
  refine ⟨⟨?_, ?_⟩, ?_⟩ <;> split <;> rfl

theorem Moves.touchGrants (h : Moves r s t) (g : Allotments) : Moves r s (t.touchGrants g) := h.touchWhen _

/-- A change of the budget or of the demands, and the recomputation that follows it, keep the grants within the targets. -/
theorem Moves.recompute_after (h : Moves r s t) (f : AllotUnit → AllotUnit) (hgrant : (f t.allot).grant = t.allot.grant)
    (hsource : (f t.allot).source = t.allot.source) : Moves r s (t.updAllot f).recompute := by
  have hlowered := h.updGrants (fun u => { f u with
      grant := lowered (f t.allot).grant (targets (f t.allot).budget (f t.allot).demand)
      increases := increasesOf (f t.allot).grant (targets (f t.allot).budget (f t.allot).demand) }) hsource
    fun hg => ⟨lowered_le _ _, raised_lowered _ _, lowered_legal (hgrant ▸ hg.2.2) (targets_legal _ _)⟩
  unfold State.recompute
  refine Moves.hand (Moves.touchGrants (Moves.updAllot (Moves.watchVbase hlowered _) _) _) _ ?_
  rw [calmTasks_append, grantTasks_calm]
  rfl

theorem Moves.recompute (h : Moves r s t) : Moves r s t.recompute := h.recompute_after id rfl rfl

theorem raised_noIncreases_within (s : State) (x : Allotments) (hx : x = targets s.allot.budget s.allot.demand) :
    x.le (targets s.allot.budget s.allot.demand) ∧ raised x noIncreases = targets s.allot.budget s.allot.demand ∧ x.legal := by
  subst hx
  exact ⟨⟨le_rfl, le_rfl, le_rfl, le_rfl⟩, raised_noIncreases _, targets_legal _ _⟩

theorem Moves.settleIncreases (h : Moves r s t) : Moves r s t.settleIncreases := by
  unfold State.settleIncreases
  refine .ite (fun _ => ?_) fun _ => h
  have hraised := h.updGrants (fun u => { u with grant := raised t.allot.grant t.allot.increases, increases := noIncreases })
    rfl fun hg => raised_noIncreases_within t _ hg.2.1
  refine Moves.hand (Moves.touchGrants (Moves.watchVbase hraised _) _) _ ?_
  rw [calmTasks_append, grantTasks_calm]
  rfl

theorem Moves.confirmDecrease (h : Moves r s t) (c : Awaited) : Moves r s (t.confirmDecrease c) :=
  .ite (fun _ => (h.updAllot _).settleIncreases) fun _ => h

theorem Moves.ackLight (h : Moves r s t) : Moves r s t.ackLight := .ite (fun _ => h) fun _ => h.confirmDecrease _

theorem writeRecord_updAllot (t : State) (f : AllotUnit → AllotUnit) (j : Fin 3) (b : List Byte) :
    (t.updAllot f).writeRecord j b = (t.writeRecord j b).updAllot f := by
  unfold State.writeRecord
  simp only [apply_ite (State.updAllot · f)]
  rfl

theorem writeGap_updAllot (t : State) (f : AllotUnit → AllotUnit) :
    (t.updAllot f).writeGap = t.writeGap.updAllot f := writeRecord_updAllot _ _ _ _

/-- A notice offered does not depend on the allotments. -/
theorem offerNotice_updAllot (t : State) (f : AllotUnit → AllotUnit) (k : NoticeKind) (c o n a : Nat) :
    (t.updAllot f).offerNotice k c o n a = (t.offerNotice k c o n a).updAllot f := by
  have hnotice (u : State) : (u.updAllot f).writeNotice k c o n a = (u.writeNotice k c o n a).updAllot f :=
    writeRecord_updAllot _ _ _ _
  have hdrop (u : State) : (u.updAllot f).countDrop noticeJournal = (u.countDrop noticeJournal).updAllot f := rfl
  have hgap (u : State) (x : Nat) : (u.updAllot f).setGap x = (u.setGap x).updAllot f := rfl
  have hroom (u : State) : (u.updAllot f).room noticeJournal = u.room noticeJournal := rfl
  unfold State.offerNotice
  simp only [apply_ite (State.updAllot · f), hnotice, hdrop, hgap, hroom, writeGap_updAllot, State.updAllot_journal]

theorem Moves.selectBudget (h : Moves r s t) (c : Nat) : Moves r s (t.selectBudget c) := by
  unfold State.selectBudget
  refine .ite (fun _ => h) fun _ => ?_
  have hnoticed := (h.touchBoard.offerNotice .allotment c 0 0 t.selectedBudget).recompute_after
    (fun u => { u with budget := t.selectedBudget }) rfl rfl
  rwa [← offerNotice_updAllot] at hnoticed

theorem Moves.setDemand_recompute (h : Moves r s t) (f : Allotments → Allotments) : Moves r s (t.setDemand f).recompute :=
  h.recompute_after _ rfl rfl

theorem Moves.coilDemand (h : Moves r s t) (up : Bool) : Moves r s (t.coilDemand up) :=
  .ite (fun _ => h) fun _ => h.setDemand_recompute _

theorem Moves.penDemand (h : Moves r s t) (d : Nat) : Moves r s (t.penDemand d) := by
  have hhanded := h.hand [.penGrant]
  exact .ite (fun _ => hhanded) fun _ => hhanded.setDemand_recompute _

theorem Moves.stateBacklight (h : Moves r s t) : Moves r s t.stateBacklight :=
  .ite (fun _ => h) fun _ => h.setDemand_recompute _

theorem Moves.reviewBase (h : Moves r s t) : Moves r s t.reviewBase :=
  .ite (fun _ => h) fun _ => h.setDemand_recompute _

theorem Moves.baseFaultedOff (h : Moves r s t) : Moves r s t.baseFaultedOff := (h.updAllot _).reviewBase

theorem Moves.allotDetect (h : Moves r s t) : Moves r s t.allotDetect :=
  .ite (fun _ => h.reviewBase) fun _ => ((h.updAllot _).reportInactive _).reviewBase

theorem Moves.backlightGrant (h : Moves r s t) : Moves r s t.backlightGrant :=
  .ite (fun _ => h) fun _ => (h.updAllot _).offerPacket _

theorem Moves.finishBacklight (h : Moves r s t) : Moves r s t.finishBacklight := h.finishUnit _ _ _ _

theorem Moves.voltageChange (h : Moves r s t) (below : Bool) : Moves r s (t.voltageChange below) :=
  .ite (fun _ => h) fun _ => h.updAllot _

theorem Moves.underVoltageExpired (h : Moves r s t) : Moves r s t.underVoltageExpired :=
  ((h.updAllot _).reportActive _).reviewBase

theorem not_calm_of_served {p : Prop} (hr : r = .served ∨ r = .host) (hc : r = .calm ∨ r = .settling) : p := by
  obtain rfl | rfl := hr <;> cases hc <;> contradiction

theorem Moves.setSource (h : Moves .served s t) (code : Nat) : Moves .served s (t.setSource code) := by
  unfold State.setSource
  split
  · exact h.finishUnit _ _ _ _
  · next source _ =>
    have hsource : Moves .served s (t.updAllot fun u => { u with source := source }) :=
      h.trans ⟨⟨rfl, rfl, id, id, id, id, id, id, id, id, id, id⟩, fun _ => id,
        fun _ => ⟨rfl, BitVec.and_self⟩, fun _ _ _ _ _ => rfl, fun hc => not_calm_of_served (.inl rfl) hc⟩
    exact (hsource.touchWhen _).hand _

theorem Moves.finishSource (h : Moves r s t) (b : PowerSource) : Moves r s (t.finishSource b) := h.finishUnit _ _ _ _

/-! ## The attachment unit -/

/-- A change of the attachment unit, with what it owes to the relation. -/
theorem Moves.updAttachment (h : Moves r s t) (f : AttachUnit → AttachUnit)
    (hpulses : PulsesBounded t → (f t.attach).pulses.length ≤ 8)
    (hfollows : r ≠ .settling → AttachFollowsDetect t → AttachFollowsDetect (t.updAttach f))
    (hwish : r = .calm ∨ r = .settling → (f t.attach).wish = t.attach.wish) : Moves r s (t.updAttach f) := by
  refine h.trans ⟨⟨rfl, rfl, id, id, id, fun hp => ⟨hpulses hp, hp.2⟩, id, id, id, id, id, id⟩, hfollows,
    fun _ => ⟨rfl, BitVec.and_self⟩, fun _ _ _ _ _ => rfl, fun hr => ⟨?_, fun _ _ => id, fun _ _ _ _ => rfl, id⟩⟩
  simp only [State.requested, State.updAttach, hwish hr]
  rfl

theorem attachReaders_calm (before after : AttachState) : calmTasks (attachReaders before after) = true := by
  unfold attachReaders
  rw [calmTasks_append]
  split <;> rfl

theorem Moves.setAttach (h : Moves r s t) (after : AttachState) (c : Nat)
    (hfollows : r ≠ .settling → AttachFollowsDetect t → (after = .detached ↔ t.attach.detect.level = false)) :
    Moves r s (t.setAttach after c) := by
  unfold State.setAttach
  refine .ite (fun _ => h) fun _ => Moves.hand (Moves.offerNotice (Moves.latch (Moves.touchBoard ?_) _) _ _ _ _ _) _ ?_
  · exact h.updAttachment _ And.left hfollows fun _ => rfl
  · exact attachReaders_calm _ _

theorem Moves.setAttach_resting (h : Moves r s t) (c : Nat) : Moves r s (t.setAttach t.resting c) :=
  h.setAttach _ _ fun _ _ => resting_detached t

/-- A state other than DETACHED taken from another state other than DETACHED follows DETECT as that did. -/
theorem Moves.setAttach_attached (h : Moves r s t) (after : AttachState) (c : Nat) (hafter : after ≠ .detached)
    (hbefore : t.attach.state ≠ .detached) : Moves r s (t.setAttach after c) :=
  h.setAttach _ _ fun _ hf => ⟨fun e => absurd e hafter, fun e => absurd (hf.mpr e) hbefore⟩

theorem Moves.sleepAttach (h : Moves r s t) (a b : AttachState) : Moves r s (t.sleepAttach a b) := by
  unfold State.sleepAttach
  split
  · exact h.hand _
  · exact h.hand _

theorem Moves.coilOff (h : Moves r s t) : Moves r s t.coilOff := .ite (fun _ => h.updAttach _) fun _ => h
theorem Moves.clearRelease (h : Moves r s t) : Moves r s t.clearRelease := h.updAttach _

theorem finishTasks_calm (request : Option (Fin 32)) (code : ResultCode) (detail : Nat) (a b : Word) :
    calmTasks (finishTasks request code detail [a, b]) = true := by
  cases request <;> rfl

theorem Moves.endRelease (h : Moves r s t) (d : Nat) (x : Option Nat) : Moves r s (t.endRelease d x) := by
  refine Moves.hand (h.coilOff.clearRelease.updAttach _) _ ?_
  rw [calmTasks_append, finishTasks_calm]
  rfl

theorem inRelease_ne_detached {a : AttachState} (h : a.inRelease = true) : a ≠ .detached := by
  rintro rfl
  cases h

theorem Moves.returnToRest (h : Moves r s t) (c : Nat) : Moves r s (t.returnToRest c) :=
  .ite (fun _ => h.setAttach_resting _) fun _ => h

theorem Moves.awaitRemoval (h : Moves r s t) : Moves r s t.awaitRemoval :=
  .ite (fun hin => h.setAttach_attached _ _ (by decide) (inRelease_ne_detached hin)) fun _ => h

/-- The removal of the base in a release, inside the change of DETECT that brings it. -/
theorem Moves.removeBase (h : Moves .settling s t) : Moves .settling s t.removeBase := by
  have hreleased : Moves .settling s (t.coilOff.clearRelease.updAttach fun u => { u with request := none }) :=
    h.coilOff.clearRelease.updAttach _
  exact Moves.hand (Moves.setAttach (hreleased.hand _ (finishTasks_calm _ _ _ _ _)) _ _ (absurd rfl)) _

theorem Moves.detectChange (h : Moves r s t) (b : Bool) : Moves r s (t.detectChange b) := by
  unfold State.detectChange
  refine .ite (fun _ => h.updAttach _ fun u => ?_) fun _ => h.updAttach _
  simp only [AttachUnit.viewed, DebouncedLine.change]
  split <;> rfl

/-- What holds through a change of DETECT holds of every scope, once the attachment state follows. -/
theorem Moves.of_settling (h : Moves .settling s t) (hfollows : AttachFollowsDetect s → AttachFollowsDetect t) :
    Moves .calm s t :=
  ⟨h.keeps, fun _ => hfollows, fun _ => h.leaves trivial, fun _ => h.staging (by intro e; cases e), fun _ => h.stills (.inr rfl)⟩

theorem Moves.nextChoice (h : Moves r s t) : Moves r s t.nextChoice.2 := h.setChoices _

theorem removeBase_level (s : State) : s.removeBase.attach.state = .detached ∧
    s.removeBase.attach.detect.level = s.attach.detect.level := by
  have hcoil : s.coilOff.attach.detect = s.attach.detect := by
    unfold State.coilOff
    split <;> rfl
  simp only [State.removeBase, State.hand, State.setTasks_attach, setAttach_attach, State.updAttach_attach, State.clearRelease,
    hcoil, and_self]

theorem Moves.detectSettle (h : Moves .calm s t) : Moves .calm s t.detectSettle := by
  have hlevel : Moves .settling t (t.updAttach fun u => { u with detect := u.detect.settle }) :=
    (Moves.refl .settling t).updAttachment _ And.left (absurd rfl) fun _ => rfl
  refine h.trans ?_
  unfold State.detectSettle
  simp only
  generalize hu : (if Config.linkTakesDetectFirst _ = true then _ else _ : State) = u
  have hmoved : Moves .settling t u := hu ▸ .ite (fun _ => hlevel.nextChoice.hand _) fun _ => hlevel.nextChoice.hand _
  split
  · next hin =>
    have hstate := inRelease_ne_detached hin
    split
    · next hpresent => exact hmoved.of_settling fun _ => ⟨fun e => absurd e hstate, fun e => by rw [e] at hpresent; cases hpresent⟩
    · next habsent =>
      refine hmoved.removeBase.of_settling fun _ => ?_
      obtain ⟨hdetached, hsame⟩ := removeBase_level u
      simp only [AttachFollowsDetect, hdetached, hsame, true_iff]
      exact eq_false_of_ne_true habsent
  · exact (hmoved.setAttach _ _ (absurd rfl)).of_settling fun _ => setAttach_follows _ _ _ (resting_detached u)

theorem Moves.refuseClaim (h : Moves r s t) (c : Claim) (code : ResultCode) (d x : Nat) :
    Moves r s (t.refuseClaim c code d x) := by
  cases c with
  | host n => exact h.finishUnit _ _ _ _
  | button => exact h.offerNotice _ _ _ _ _

theorem Moves.acceptClaim (h : Moves r s t) (c : Claim) (hstate : t.attach.state ≠ .detached) : Moves r s (t.acceptClaim c) :=
  Moves.setAttach_attached ((h.updAttach _).hand _) _ _ (by decide) hstate

/-- A claim is accepted while ATTACHED or DEGRADED only (R131). -/
theorem judgeClaim_none (s : State) (h : s.judgeClaim = none) : s.attach.state = .attached ∨ s.attach.state = .degraded := by
  by_contra hne
  unfold State.judgeClaim at h
  rw [if_pos (not_or.mp hne)] at h
  cases h

theorem Moves.detachClaim (h : Moves r s t) (c : Claim) : Moves r s (t.detachClaim c) := by
  unfold State.detachClaim
  split
  · cases c with
    | button => exact h
    | host n => exact .ite (fun _ => h.updAttach _) fun _ => h
  · split
    · exact h.refuseClaim _ _ _ _
    · next hj => exact h.acceptClaim _ (by obtain e | e := judgeClaim_none t hj <;> rw [e] <;> decide)

theorem Moves.enterClaiming (h : Moves r s t) : Moves r s t.enterClaiming := (h.updAttach _).hand _

theorem Moves.askQuiesce (h : Moves r s t) : Moves r s t.askQuiesce :=
  .ite (fun _ => .ite (fun _ => (h.updAttach _).quiesceLink) fun _ => h.enterClaiming) fun _ => h

theorem Moves.enterPulse (h : Moves r s t) : Moves r s t.enterPulse := by
  unfold State.enterPulse
  refine .ite (fun hroom => h.updAttachment _ (fun hp => ?_) (fun _ => id) fun _ => rfl) fun _ => h.endRelease _ _
  have := hp.2
  simp only [List.length_append, List.length_singleton]
  omega

theorem Moves.coilAnswer (h : Moves r s t) : Moves r s t.coilAnswer := by
  unfold State.coilAnswer
  refine .ite (fun _ => ?_) fun _ => h
  split
  · exact .ite (fun _ => h.enterPulse) fun _ => .ite (fun _ => h) fun _ => h.endRelease _ _
  · exact .ite (fun _ => h.endRelease _ _) fun _ => h
  all_goals exact h

theorem Moves.attachLink (h : Moves r s t) : Moves r s t.attachLink := by
  unfold State.attachLink
  split
  case h_5 => exact .ite (fun _ => h.enterClaiming) fun _ => h
  case h_6 => exact h
  all_goals exact h.setAttach_resting _

theorem Moves.ackQuiesce (h : Moves r s t) : Moves r s t.ackQuiesce := .ite (fun _ => h.enterClaiming) fun _ => h

theorem Moves.quiesceExpired (h : Moves r s t) : Moves r s t.quiesceExpired :=
  .ite (fun _ => (h.updAttach _).enterClaiming) fun _ => h.updAttach _

theorem Moves.enterWindow (h : Moves r s t) : Moves r s t.enterWindow := by
  unfold State.enterWindow
  exact h.coilOff.updAttach _
theorem Moves.endPulse (h : Moves r s t) : Moves r s t.endPulse := h.enterWindow.hand _

theorem Moves.pulseExpired (h : Moves r s t) : Moves r s t.pulseExpired := .ite (fun _ => h.endPulse) fun _ => h.updAttach _

theorem Moves.windowExpired (h : Moves r s t) : Moves r s t.windowExpired :=
  .ite (fun _ => h.endRelease _ _) fun _ => h.updAttach _

theorem Moves.coilCurrent (h : Moves r s t) : Moves r s t.coilCurrent :=
  .ite (fun _ => (h.updAttach _).reportInactive _) fun _ => h

theorem Moves.senseExpired (h : Moves r s t) : Moves r s t.senseExpired := by
  have hstopped := h.updAttach fun u => { u with senseTimer := none }
  exact .ite (fun _ => ((hstopped.coilOff.updAttach _).reportActive _).endRelease _ _) fun _ => hstopped

theorem Moves.agePulse (h : Moves r s t) : Moves r s t.agePulse :=
  h.updAttachment _ (fun hp => (by simp : (t.attach.pulses.drop 1).length ≤ t.attach.pulses.length).trans hp.1) (fun _ => id) fun _ => rfl

theorem Moves.setBacklight (h : Moves .served s t) (n : Nat) : Moves .served s (t.setBacklight n) := by
  refine .ite (fun _ => h.finishUnit _ _ _ _) fun _ => Moves.hand ?_ _
  exact h.updAttachment _ And.left (fun _ => id) fun hc => not_calm_of_served (.inl rfl) hc

theorem Moves.cancelDetach (h : Moves .host s t) (n : Fin 32) (hn : t.servingSlot .base = some n) :
    Moves .host s (t.cancelDetach n) := by
  have hcancelled := (h.updAttach fun u => { u with request := none }).cancelSlot .base n hn
  unfold State.cancelDetach
  dsimp only
  split
  · exact hcancelled.endRelease _ _
  · exact hcancelled

theorem Moves.resetAttach (h : Moves .host s t) : Moves .host s t.resetAttach := by
  have hwithout := h.updAttach fun u => { u with request := none }
  unfold State.resetAttach
  dsimp only
  split
  · exact hwithout.clearRelease
  · exact hwithout.clearRelease
  · exact hwithout.enterWindow
  · exact hwithout
  · exact hwithout

theorem resetAttachTasks_calm (p : Option ReleasePhase) : calmTasks (resetAttachTasks p) = true := by
  cases p with
  | none => rfl
  | some p => cases p <;> rfl

end Sys2Proof.Machine
end

section
/-! What the operations of the pen, sleep and settings units, the host's accesses and the resets may do: `Moves` for each,
in the order of the model's definitions. -/

namespace Sys2Proof.Machine

set_option Elab.async false

variable {r : Scope} {s t : State}

/-! ## The pen unit -/

theorem Moves.setPenState (h : Moves r s t) (p : PenState) (c : Nat) : Moves r s (t.setPenState p c) :=
  .ite (fun _ => h) fun _ => ((h.updPen _).touchBoard.latch _).offerNotice _ _ _ _ _

theorem Moves.setCoilPower (h : Moves r s t) (p : Nat) : Moves r s (t.setCoilPower p) := h.updPen _

theorem Moves.penGrant (h : Moves r s t) : Moves r s t.penGrant := by
  unfold State.penGrant
  refine .ite (fun _ => h) fun _ => ?_
  split
  · exact (h.setPenState _ _).setCoilPower _
  · exact (h.setPenState _ _).setCoilPower _
  all_goals exact h.setCoilPower _

theorem Moves.penDecide (h : Moves r s t) : Moves r s t.penDecide := ((h.updPen _).setPenState _ _).setCoilPower _

theorem Moves.confirmPen (h : Moves r s t) : Moves r s t.confirmPen :=
  .ite (fun _ => (h.updPen _).confirmDecrease _) fun _ => h

theorem Moves.setTable (h : Moves r s t) (x : Vector PairedPen 4) : Moves r s (t.setTable x) := (h.updPen _).touchWhen _
theorem Moves.setEntry (h : Moves r s t) (i : Fin 4) (e : PairedPen) : Moves r s (t.setEntry i e) := h.setTable _

theorem Moves.refreshEntry (h : Moves r s t) : Moves r s t.refreshEntry := by
  unfold State.refreshEntry
  split
  · exact h
  · exact h.setEntry _ _

theorem Moves.capDemand (h : Moves r s t) : Moves r s t.capDemand := .ite (fun _ => h.hand _) fun _ => h
theorem Moves.beginExchange (h : Moves r s t) : Moves r s t.beginExchange := .ite (fun _ => h) fun _ => h.updPen _

theorem Moves.failExchange (h : Moves r s t) : Moves r s t.failExchange := by
  unfold State.failExchange
  exact .ite (fun _ => (h.updPen _).beginExchange) fun _ =>
    ((((h.updPen _).setPenState _ _).setCoilPower _).reportActive _).hand _

theorem Moves.recordReport (h : Moves r s t) (x : Sys2Proof.PenReport) : Moves r s (t.recordReport x) := by
  have hidentified := h.updPen fun u => { u with identity := x.identity }
  unfold State.recordReport
  exact Moves.refreshEntry (Moves.updPen (.ite (fun _ => (hidentified.latch _).offerNotice _ _ _ _ _) fun _ => hidentified) _)

theorem Moves.startPoll (h : Moves r s t) (ms : Nat) : Moves r s (t.startPoll ms) :=
  h.updPen fun u => { u with poll := t.start ms }

theorem Moves.decideReport (h : Moves r s t) (x : Sys2Proof.PenReport) : Moves r s (t.decideReport x) := by
  unfold State.decideReport
  refine .ite (fun _ => (((h.updPen _).setPenState _ _).reportActive _).hand _) fun _ => ?_
  split
  · exact ((h.startPoll _).setPenState _ _).hand _
  · exact ((h.startPoll _).updPen _).hand _

theorem Moves.takeReport (h : Moves r s t) (x : Sys2Proof.PenReport) : Moves r s (t.takeReport x) := by
  unfold State.takeReport
  split
  · exact h
  · exact .ite (fun _ => (((h.updPen _).updPen _).recordReport _).decideReport _) fun _ => (h.updPen _).failExchange

theorem Moves.responseExpired (h : Moves r s t) : Moves r s t.responseExpired := (h.updPen _).failExchange
theorem Moves.pollExpired (h : Moves r s t) : Moves r s t.pollExpired := (h.updPen _).beginExchange

theorem Moves.penInChange (h : Moves r s t) (b : Bool) : Moves r s (t.penInChange b) := by
  unfold State.penInChange
  exact .ite (fun _ => h.updPen _) fun _ => h.updPen _

theorem Moves.beginSession (h : Moves r s t) : Moves r s t.beginSession :=
  (((h.updPen _).setPenState _ _).beginExchange).hand _

theorem Moves.endSession (h : Moves r s t) : Moves r s t.endSession := by
  have hended := ((((h.updPen fun u => { u with response := none, poll := none }).refreshEntry.setCoilPower 0).reportInactive
    .penUnresponsive).reportInactive .penBattery).setPenState .absent 6
  exact (hended.updPen _).hand _

theorem Moves.penInSettle (h : Moves r s t) : Moves r s t.penInSettle :=
  .ite (fun _ => (h.updPen _).beginSession) fun _ => (h.updPen _).endSession

theorem Moves.writeEntry (h : Moves r s t) (i : Fin 4) (x : Word) : Moves r s (t.writeEntry i x) := h.setEntry _ _

theorem Moves.finishAccept (h : Moves r s t) (d : Nat) (i : Fin 4) (x : Word) : Moves r s (t.finishAccept d i x) :=
  h.finishUnit _ _ _ _

theorem Moves.acceptPen (h : Moves r s t) (x : Word) : Moves r s (t.acceptPen x) := by
  unfold State.acceptPen
  refine .ite (fun _ => h.finishUnit _ _ _ _) fun _ => ?_
  split
  · exact (h.setEntry _ _).finishAccept _ _ _
  · split
    · exact (h.writeEntry _ _).finishAccept _ _ _
    · have hwritten := (h.writeEntry (oldestPen t.now t.pen.table) x).finishAccept 2 (oldestPen t.now t.pen.table)
        t.pen.table[oldestPen t.now t.pen.table].identity
      exact .ite (fun _ => hwritten.capDemand) fun _ => hwritten

theorem Moves.forgetPen (h : Moves r s t) (n : Nat) (x : Word) : Moves r s (t.forgetPen n x) := by
  have hcap {u : State} (c : Prop) [Decidable c] (hu : Moves r s u) : Moves r s (if c then u.capDemand else u) :=
    .ite (fun _ => hu.capDemand) fun _ => hu
  unfold State.forgetPen
  refine .ite (fun _ => h.finishUnit _ _ _ _) fun _ => .ite (fun _ => hcap _ ((h.setTable _).finishUnit _ _ _ _)) fun _ =>
    .ite (fun _ => h.finishUnit _ _ _ _) fun _ => ?_
  split
  · exact h.finishUnit _ _ _ _
  · exact hcap _ ((h.setEntry _ _).finishUnit _ _ _ _)

theorem Moves.holdPen (h : Moves r s t) : Moves r s t.holdPen := by
  have hheld := (((h.setPenState .held 5).setCoilPower 0).hand [.penDemand 0])
  unfold State.holdPen
  split
  case h_1 | h_2 | h_3 | h_4 => exact hheld
  all_goals exact h

theorem Moves.releasePen (h : Moves r s t) : Moves r s t.releasePen := .ite (fun _ => (h.updPen _).beginExchange) fun _ => h

theorem Moves.setChargeMode (h : Moves .served s t) (n : Nat) : Moves .served s (t.setChargeMode n) := by
  have hchanged (m : ChargeMode) : Moves .served s (t.updPen fun u => { u with mode := m }) :=
    h.trans ⟨⟨rfl, rfl, id, id, id, id, id, id, id, id, id, id⟩, fun _ => id,
      fun _ => ⟨rfl, BitVec.and_self⟩, fun _ _ _ _ _ => rfl, not_calm_of_served (.inl rfl)⟩
  have hmode (m : ChargeMode) := (hchanged m).hand [.finishMode n]
  unfold State.setChargeMode
  exact .ite (fun _ => h.finishUnit _ _ _ _) fun _ => .ite (fun _ => (hmode _).holdPen) fun _ => (hmode _).releasePen

theorem Moves.finishMode (h : Moves r s t) (n : Nat) : Moves r s (t.finishMode n) := h.finishUnit _ _ _ _

/-! ## The sleep unit -/

theorem Moves.advise (h : Moves r s t) (a : Advice) (c : Nat) : Moves r s (t.advise a c) :=
  ((h.updSleep _).touchBoard.latch _).offerNotice _ _ _ _ _

theorem Moves.setIdle (h : Moves r s t) (i : IdleTimer) (w : Word) : Moves r s (t.setIdle i w) := by
  have hset := h.updSleep fun u => { u with idle := i, idleShown := w }
  cases i with
  | running e x => exact hset.touchBoard
  | stopped => exact hset
  | elapsed => exact hset

theorem Moves.restartIdle (h : Moves r s t) : Moves r s t.restartIdle := by
  unfold State.restartIdle
  split
  · exact h.setIdle _ _
  · exact h.setIdle _ _

theorem Moves.activity (h : Moves r s t) : Moves r s t.activity :=
  .ite (fun _ => .ite (fun _ => h.restartIdle.advise _ _) fun _ => h.restartIdle) fun _ => h

theorem Moves.sleepRefresh (h : Moves r s t) : Moves r s t.sleepRefresh := by
  unfold State.sleepRefresh
  refine .ite (fun _ => ?_) fun _ => h
  split
  · exact .ite (fun _ => h.setIdle _ _) fun _ => h
  · exact .ite (fun _ => h) fun _ => h.restartIdle
  · exact h

theorem Moves.idleExpired (h : Moves r s t) : Moves r s t.idleExpired :=
  .ite (fun _ => (h.setIdle _ _).advise _ _) fun _ => h.setIdle _ _

theorem Moves.rewriteIdle (h : Moves r s t) : Moves r s t.rewriteIdle := by
  unfold State.rewriteIdle
  split
  · exact h.setIdle _ _
  · exact h
  · exact h

theorem Moves.holdAwake (h : Moves r s t) (n : Nat) : Moves r s (t.holdAwake n) := by
  unfold State.holdAwake
  exact .ite (fun _ => h.finishUnit _ _ _ _) fun _ => .ite (fun _ => h.finishUnit _ _ _ _) fun _ => (h.updSleep _).hand _

theorem Moves.holdAwakeExpired (h : Moves r s t) : Moves r s t.holdAwakeExpired :=
  .ite (fun _ => (h.updSleep _).advise _ _) fun _ => h.updSleep _

theorem Moves.graceExpired (h : Moves r s t) : Moves r s t.graceExpired := (h.updSleep _).advise _ _

theorem Moves.startGrace (h : Moves r s t) : Moves r s t.startGrace :=
  .ite (fun _ => h.graceExpired) fun _ => h.updSleep _

theorem Moves.graceCommit (h : Moves r s t) (p : Posture) : Moves r s (t.graceCommit p) :=
  .ite (fun _ => .ite (fun _ => h.startGrace) fun _ => h) fun _ =>
    .ite (fun _ => .ite (fun _ => (h.updSleep _).advise _ _) fun _ => h.updSleep _) fun _ => h

theorem Moves.sleepCommit (h : Moves r s t) (p : Posture) : Moves r s (t.sleepCommit p) := by
  unfold State.sleepCommit
  dsimp only
  split
  · exact (h.graceCommit _).hand _
  · exact (h.graceCommit _).hand _

theorem powerReaders_calm (b : PowerState) (c : Nat) : calmTasks (powerReaders b c) = true := by
  unfold powerReaders
  split <;> rfl

theorem Moves.setPower (h : Moves r s t) (a : PowerState) (c : Nat) : Moves r s (t.setPower a c) := by
  unfold State.setPower
  exact .ite (fun _ => h) fun _ => Moves.hand (((h.updSleep _).updSensor _).touchBoard) _ (powerReaders_calm _ _)

theorem Moves.reportPower (h : Moves r s t) (b : PowerState) (c : Nat) : Moves r s (t.reportPower b c) :=
  h.offerNotice _ _ _ _ _

theorem Moves.withdrawBase (h : Moves r s t) : Moves r s t.withdrawBase := (h.updSleep _).reviewBase
theorem Moves.anglePower (h : Moves r s t) : Moves r s t.anglePower := .ite (fun _ => h.angleStandby) fun _ => h
theorem Moves.stopWake (h : Moves r s t) : Moves r s t.stopWake := h.updSleep _

theorem Moves.dropAdvice (h : Moves r s t) : Moves r s t.dropAdvice :=
  .ite (fun _ => h) fun _ => (h.updSleep _).touchBoard.offerNotice _ _ _ _ _

/-- A change of the sleep unit by a request or a reset. -/
theorem Moves.updSleep_served (h : Moves r s t) (hr : r = .served ∨ r = .host) (f : SleepUnit → SleepUnit) :
    Moves r s (t.updSleep f) :=
  h.trans ⟨⟨rfl, rfl, id, id, id, id, id, id, id, id, id, id⟩, fun _ => id,
    fun _ => ⟨rfl, BitVec.and_self⟩, fun _ _ _ _ _ => rfl, not_calm_of_served hr⟩

theorem Moves.enterSleep (h : Moves .served s t) (m n : Nat) : Moves .served s (t.enterSleep m n) := by
  unfold State.enterSleep
  refine .ite (fun _ => h.finishUnit _ _ _ _) fun _ => .ite (fun _ => h.finishUnit _ _ _ _) fun _ => ?_
  have hasleep := (h.updSleep_served (.inl rfl) fun u =>
    { u with host := .sleeping, wakeMask := BitVec.ofNat 8 m, standbyAllowed := n == 1, wakeReasons := 0 }).touchWhen
    (t.hostOn = true ∨ t.sleep.wakeReasons ≠ 0)
  exact Moves.hand (((hasleep.stopWake.setIdle .stopped 0xFFFFFFFF).updSleep _).dropAdvice) _

theorem Moves.startDozeTimer (h : Moves r s t) : Moves r s t.startDozeTimer := by
  unfold State.startDozeTimer
  exact h.updSleep _

theorem Moves.turnOn (h : Moves .served s t) : Moves .served s t.turnOn := by
  have hon := (h.updSleep_served (.inl rfl) fun u => { u with host := .on }).touchWhen (t.hostOn = false)
  exact .ite (fun _ => hon.hand _) fun _ => hon.hand _

theorem Moves.resumeHost (h : Moves r s t) (b : Bool) : Moves r s (t.resumeHost b) := by
  have hstopped := (h.stopWake.updSleep fun u => { u with dozeTimer := none }).reportInactive .wakeUnanswered
  unfold State.resumeHost
  exact Moves.finishUnit (.ite (fun _ => hstopped) fun _ => .ite (fun _ => hstopped.restartIdle.startGrace) fun _ =>
    hstopped.restartIdle) _ _ _ _

theorem Moves.hostState (h : Moves .served s t) (a m n : Nat) : Moves .served s (t.hostState a m n) :=
  .ite (fun _ => h.finishUnit _ _ _ _) fun _ => .ite (fun _ => h.enterSleep _ _) fun _ => h.turnOn

theorem Moves.dozeExpired (h : Moves r s t) : Moves r s t.dozeExpired :=
  .ite (fun _ => (h.updSleep _).setPower _ _) fun _ => h.updSleep _

theorem Moves.assertWake (h : Moves r s t) (n : Nat) : Moves r s (t.assertWake n) := by
  unfold State.assertWake
  exact h.updSleep _

theorem Moves.wakeEvent (h : Moves r s t) (w : WakeSource) : Moves r s (t.wakeEvent w) := by
  have hwoken := ((h.updSleep fun u => { u with wakeReasons := u.wakeReasons ||| BitVec.ofNat 8 (2 ^ w.bit) }).touchBoard).hand
    [.setPower .active 2]
  exact .ite (fun _ => .ite (fun _ => hwoken.assertWake _) fun _ => hwoken) fun _ => h

theorem Moves.answerExpired (h : Moves r s t) : Moves r s t.answerExpired := by
  unfold State.answerExpired
  exact .ite (fun _ => (h.updSleep _).reportActive _) fun _ => h.updSleep _

theorem Moves.gapExpired (h : Moves r s t) : Moves r s t.gapExpired := h.assertWake _

theorem Moves.buttonChange (h : Moves r s t) (b : Bool) : Moves r s (t.buttonChange b) := by
  unfold State.buttonChange
  exact .ite (fun _ => h.updSleep _) fun _ => h.updSleep _

theorem Moves.buttonSettle (h : Moves r s t) : Moves r s t.buttonSettle := by
  have hsettled := h.updSleep fun u => { u with button := u.button.settle }
  exact .ite (fun _ => .ite (fun _ => (hsettled.offerNotice _ _ _ _ _).hand _) fun _ => hsettled.hand _) fun _ => hsettled

theorem Moves.resetSleep (h : Moves .host s t) : Moves .host s t.resetSleep :=
  (h.stopWake.updSleep_served (.inr rfl) _).reportInactive _

theorem Moves.resetSleepEnd (h : Moves r s t) : Moves r s t.resetSleepEnd :=
  .ite (fun _ => (h.restartIdle.updSleep _).startGrace) fun _ => h.restartIdle.updSleep _

end Sys2Proof.Machine
end

section
/-! The values that APPLY_SETTINGS takes: clamping, the cross-field rule and the count of changed words (R28, R29). -/

namespace Sys2Proof.Machine

set_option Elab.async false

theorem settingRanges_ordered : ∀ x ∈ settingRanges, x.lowest ≤ x.highest := by decide

theorem clamp_bounds (x : SettingRange) (hx : x.lowest ≤ x.highest) (v : Nat) :
    x.lowest ≤ x.clamp v ∧ x.clamp v ≤ x.highest := by
  unfold SettingRange.clamp
  split <;> omega

theorem length_clampOwn (v : List Nat) (hv : v.length = 31) : (clampOwn v).length = 31 := by
  rw [clampOwn, List.length_zipWith, hv]
  rfl

/-- A clamped value lies in the range of its place in the table. -/
theorem clampOwn_bounds (v : List Nat) (hv : v.length = 31) (i : Nat) (hi : i < settingRanges.length) :
    settingRanges[i].lowest ≤ (clampOwn v).getD i 0 ∧ (clampOwn v).getD i 0 ≤ settingRanges[i].highest := by
  have hlength : i < (clampOwn v).length := by
    rw [length_clampOwn v hv]
    exact hi
  rw [List.getD_eq_getElem _ _ hlength]
  simp only [clampOwn, List.getElem_zipWith]
  exact clamp_bounds _ (settingRanges_ordered _ (List.getElem_mem hi)) _

theorem length_settle (v : List Nat) (hv : v.length = 31) : (settle v).length = 31 := by
  unfold settle crossField
  dsimp only
  split
  · exact length_clampOwn v hv
  · rw [List.length_set, length_clampOwn v hv]

/-- The cross-field rule changes the top-up threshold only. -/
theorem settle_getD_ne (v : List Nat) (i : Nat) (hi : i ≠ penTopUpIndex) : (settle v).getD i 0 = (clampOwn v).getD i 0 := by
  unfold settle crossField
  dsimp only
  split
  · rfl
  · simp only [List.getD_eq_getElem?_getD, List.getElem?_set_ne (Ne.symm hi)]

theorem settle_topUp (v : List Nat) (hv : v.length = 31) :
    (settle v).getD penTopUpIndex 0 =
      if (clampOwn v).getD penTopUpIndex 0 < (clampOwn v).getD penTargetIndex 0 then (clampOwn v).getD penTopUpIndex 0
      else (clampOwn v).getD penTargetIndex 0 - 1 := by
  unfold settle crossField
  dsimp only
  split
  · rfl
  · have hplace : penTopUpIndex < (clampOwn v).length := by
      rw [length_clampOwn v hv]
      decide
    rw [List.getD_eq_getElem?_getD, List.getElem?_set_self hplace, Option.getD_some]

theorem settle_topUp_lt (v : List Nat) (hv : v.length = 31) :
    (settle v).getD penTopUpIndex 0 < (settle v).getD penTargetIndex 0 := by
  have htarget : 50 ≤ (clampOwn v).getD penTargetIndex 0 := (clampOwn_bounds v hv penTargetIndex (by decide)).1
  rw [settle_topUp v hv, settle_getD_ne v penTargetIndex (by decide)]
  split <;> omega

theorem changedOffsets_ge (v w : List Nat) (i a : Nat) (ha : a ∈ changedOffsets i v w) : settingOffset i ≤ a := by
  induction v generalizing i w with
  | nil => simp [changedOffsets] at ha
  | cons x xs ih =>
    cases w with
    | nil => simp [changedOffsets] at ha
    | cons y ys =>
      have hrest : a ∈ changedOffsets (i + 1) xs ys → settingOffset i ≤ a := fun hmem => by
        have := ih ys (i + 1) hmem
        unfold settingOffset at this ⊢
        omega
      unfold changedOffsets at ha
      split at ha
      · exact hrest ha
      · rcases List.mem_cons.mp ha with rfl | ha
        · exact le_rfl
        · exact hrest ha

/-- Each word whose value changed is counted once. -/
theorem changedOffsets_count (v w : List Nat) (k i : Nat) (hlength : v.length = w.length) (hi : i < v.length) :
    (changedOffsets k v w).count (settingOffset (k + i)) = if w.getD i 0 = v.getD i 0 then 0 else 1 := by
  induction v generalizing k i w with
  | nil => simp at hi
  | cons x xs ih =>
    cases w with
    | nil => simp at hlength
    | cons y ys =>
      simp only [List.length_cons, Nat.add_right_cancel_iff] at hlength
      unfold changedOffsets
      cases i with
      | zero =>
        have hout : (changedOffsets (k + 1) xs ys).count (settingOffset k) = 0 := List.count_eq_zero.mpr fun hmem => by
          have := changedOffsets_ge xs ys (k + 1) _ hmem
          unfold settingOffset at this
          omega
        simp only [Nat.add_zero, List.getD_cons_zero, eq_comm (a := y)]
        split
        · exact hout
        · rw [List.count_cons_self, hout]
      | succ i =>
        have hrest := ih ys (k + 1) i hlength (Nat.lt_of_succ_lt_succ hi)
        rw [Nat.add_right_comm] at hrest
        simp only [List.getD_cons_succ, ← Nat.add_assoc] at hrest ⊢
        split
        · exact hrest
        · rw [List.count_cons_of_ne (by unfold settingOffset; omega), hrest]

/-- Settles O29: the target in force is at least 50, so the threshold can lie below it. -/
theorem topUpBelowTargetRule : Obligations.TopUpBelowTargetRule := by
  unfold Obligations.TopUpBelowTargetRule
  intro v hv
  refine ⟨settle_topUp_lt v hv, fun hbelow => if_pos hbelow, fun habove => if_neg habove, fun htarget => ?_, fun i hi => ?_⟩
  · have htopUp : 50 ≤ (clampOwn v).getD penTopUpIndex 0 := (clampOwn_bounds v hv penTopUpIndex (by decide)).1
    rw [settle_topUp v hv, htarget, if_neg (by omega)]
  · have hcount := changedOffsets_count v (settle v) 0 i (by rw [hv, length_settle v hv]) (by rw [hv]; exact hi)
    rw [Nat.zero_add] at hcount
    exact hcount

end Sys2Proof.Machine
end

section
/-! What the settings unit's requests, the host's accesses, the resets, and the carrying of hand-ons may do. -/

namespace Sys2Proof.Machine

set_option Elab.async false

variable {r : Scope} {s t : State}

/-! ## The settings unit's requests -/

theorem length_settingWords (m : Memory) : m.settingWords.length = 31 := by
  rw [Memory.settingWords, List.length_map, List.length_range]
  rfl

theorem putSettings_wf (m : Memory) (i : Nat) (vs : List Nat) (hm : m.wf = true) : (m.putSettings i vs).wf = true := by
  induction vs generalizing m i with
  | nil => exact hm
  | cons v vs ih => exact ih _ _ (Memory.wf_putLE _ _ _ _ hm)

theorem putSettings_get_ne (m : Memory) (hm : m.wf = true) (i : Nat) (vs : List Nat) (a : Nat)
    (ha : a < settingOffset i ∨ settingOffset (i + vs.length) ≤ a) : (m.putSettings i vs).get a = m.get a := by
  induction vs generalizing m i with
  | nil => rfl
  | cons v vs ih =>
    simp only [List.length_cons, settingOffset] at ha
    rw [Memory.putSettings, ih _ (Memory.wf_putLE _ _ _ _ hm) _ (by simp only [settingOffset]; omega),
      Memory.get_putLE_ne _ hm _ _ _ _ (by simp only [settingOffset]; omega)]

theorem settings_ofList_pulseLimit (v : List Nat) : (Settings.ofList v).pulseLimit = v.getD 10 0 := rfl
theorem settings_ofList_topUp (v : List Nat) : (Settings.ofList v).penTopUp = v.getD penTopUpIndex 0 := rfl
theorem settings_ofList_target (v : List Nat) : (Settings.ofList v).penTarget = v.getD penTargetIndex 0 := rfl

theorem settle_pulseLimit_le (v : List Nat) (hv : v.length = 31) : (settle v).getD 10 0 ≤ 8 :=
  (settle_getD_ne v 10 (by decide)).trans_le (clampOwn_bounds v hv 10 (by decide)).2

/-- The values taken are written back into the block, and are the settings in force (R28). -/
theorem Moves.takeSettings (h : Moves .served s t) (v : List Nat) (hv : v.length = 31) (hlimit : v.getD 10 0 ≤ 8)
    (htopUp : v.getD penTopUpIndex 0 < v.getD penTargetIndex 0) :
    Moves .served s ((t.setMem (t.mem.putSettings 0 v)).updSettings fun u =>
      { u with active := Settings.ofList v, generation := u.generation + 1 }) := by
  refine (h.setMem (t.mem.putSettings 0 v) (putSettings_wf _ _ _) (fun _ hm a ha _ => ?_)
    fun hr => not_calm_of_served (.inl rfl) hr).updSettings (.inl rfl) _ (fun _ => ?_) fun _ => ?_
  · refine putSettings_get_ne _ hm _ _ _ (.inr ?_)
    rw [hv]
    exact Nat.le_trans (by decide) ha
  · rw [settings_ofList_pulseLimit]
    exact hlimit
  · simp only [TopUpBelowTarget, State.updSettings_settings, settings_ofList_topUp, settings_ofList_target]
    exact htopUp

theorem Moves.applySettings (h : Moves .served s t) : Moves .served s t.applySettings := by
  have hlength := length_settingWords t.mem
  have htaken := h.takeSettings (settle t.mem.settingWords) (length_settle _ hlength) (settle_pulseLimit_le _ hlength)
    (settle_topUp_lt _ hlength)
  unfold State.applySettings
  exact .ite (fun _ => h.finishUnit _ _ _ _) fun _ =>
    Moves.hand (.ite (fun _ => htaken) fun _ => htaken.restartCollection) _

theorem Moves.lockSettings (h : Moves .served s t) : Moves .served s t.lockSettings :=
  .ite (fun _ => h.finishUnit _ _ _ _) fun _ => (h.updSettings (.inl rfl) _ id id).finishUnit _ _ _ _

theorem Moves.emptyJournal (h : Moves .served s t) (j : Fin 3) : Moves .served s (t.emptyJournal j) :=
  (h.updJournalOf j _ (fun _ => Nat.zero_le _) fun hr => not_calm_of_served (.inl rfl) hr).updJournalUnit _

theorem Moves.resetJournal (h : Moves .served s t) (n : Nat) : Moves .served s (t.resetJournal n) := by
  unfold State.resetJournal
  split
  · exact h.finishUnit _ _ _ _
  · dsimp only
    split
    · exact (h.emptyJournal _).hand _
    · exact (h.emptyJournal _).hand _

theorem Moves.ackFault (h : Moves r s t) (n : Nat) : Moves r s (t.ackFault n) := by
  unfold State.ackFault
  split
  · exact h.finishUnit _ _ _ _
  · exact .ite (fun _ => h.finishUnit _ _ _ _) fun _ => (h.setFault _ _).touchBoard.finishUnit _ _ _ _

theorem Moves.serve (h : Moves .served s t) (n : Fin 32) (x : Request) : Moves .served s (t.serve n x) := by
  cases x with
  | applySettings => exact h.applySettings
  | lockSettings => exact h.lockSettings
  | loadPostureTable => exact h.loadTable _
  | resetJournal => exact h.resetJournal _
  | ackFault => exact h.ackFault _
  | calibrateHinge => exact h.beginCalibration
  | setRotationLock => exact h.lockRotation _ _
  | detach => exact h.detachClaim _
  | setBacklight => exact h.setBacklight _
  | penAccept => exact h.acceptPen _
  | penForget => exact h.forgetPen _ _
  | penChargeMode => exact h.setChargeMode _
  | setPowerSource => exact h.setSource _
  | hostState => exact h.hostState _ _ _
  | holdAwake => exact h.holdAwake _

/-! ## The host's accesses -/

theorem no_calm {p : Prop} (hr : Scope.host = .calm ∨ Scope.host = .settling) : p := not_calm_of_served (.inr rfl) hr

/-- What an operation of the part or of the host does, a host write may do. -/
theorem Moves.to_write (h : Moves .host s t) : Moves .write s t :=
  ⟨h.keeps, fun _ => h.follows (by intro e; cases e), False.elim, absurd rfl, fun hr => by cases hr <;> contradiction⟩

/-- What an operation of the part does, a host access may bring about. -/
theorem Moves.to_host (h : Moves .served s t) : Moves .host s t :=
  ⟨h.keeps, fun _ => h.follows (by intro e; cases e), False.elim, fun _ => h.staging (by intro e; cases e), no_calm⟩

/-- What the part does without serving a request, it may do while serving one. -/
theorem Moves.to_served (h : Moves .calm s t) : Moves .served s t :=
  ⟨h.keeps, fun _ => h.follows (by intro e; cases e), fun _ => h.leaves trivial, fun _ => h.staging (by intro e; cases e),
    fun hr => not_calm_of_served (.inl rfl) hr⟩

theorem used_refresh (j : Fin 3) (q : Journal) : (Journal.refresh j q).used = q.used := rfl

theorem Moves.moveReadCount (h : Moves .host s t) (j : Fin 3) (data : Word) : Moves .host s (t.moveReadCount j data) := by
  have hread : Moves .host s (t.updJournalOf j fun q => q.moveRead j (data.setWidth 16)) := by
    refine h.updJournalOf j _ (fun _ => ?_) no_calm
    unfold Journal.moveRead
    split
    · exact ‹_›
    · show ((t.journalOf j).writeCount - (t.journalOf j).writeCount).toNat ≤ _
      rw [BitVec.sub_self]
      exact Nat.zero_le _
  have hchecked : Moves .host s (if decide (((t.journalOf j).writeCount - data.setWidth 16).toNat ≤ journalCapacity j) = true
      then t.updJournalOf j fun q => q.moveRead j (data.setWidth 16)
      else (t.updJournalOf j fun q => q.moveRead j (data.setWidth 16)).recordError .countInvalid (readCountOffset j)
        .exchange) := .ite (fun _ => hread) fun _ => hread.recordError _ _ _
  have hgap {u : State} (hu : Moves .host s u) : Moves .host s
      (if j = noticeJournal ∧ 0 < u.journal.gap ∧ 1 ≤ u.room noticeJournal then u.writeGap.setGap 0 else u) :=
    .ite (fun _ => hu.writeGap.setGap _) fun _ => hu
  unfold State.moveReadCount
  exact .ite (fun _ => (hgap hchecked).hand _) fun _ => hgap hchecked

theorem servingSlot_of_unitServing (s : State) (n : Fin 32) (u : ServingUnit) (h : s.unitServing n = some u) :
    s.servingSlot u = some n := by
  have := List.find?_some h
  simpa using this

theorem Moves.abandon (h : Moves .host s t) (n : Fin 32) (hn : t.slotState n = .taken false) :
    Moves .host s (t.setSlot n (.taken true)) := h.updDispatch _ (fun _ hs => hs.abandon n hn) no_calm

theorem Moves.releaseTaken (h : Moves .host s t) (n : Fin 32) (hn : t.slotState n = .taken false) :
    Moves .host s (t.releaseTaken n) := by
  unfold State.releaseTaken
  split
  · next hu => exact (h.setCalibration none).cancelSlot .angle n (servingSlot_of_unitServing t n _ hu)
  · next hu => exact .ite (fun _ => h.cancelDetach n (servingSlot_of_unitServing t n _ hu)) fun _ => h.abandon n hn
  · exact h.abandon n hn

theorem SlotsConsistent.unserved_of_done {n : Fin 32} (h : SlotsConsistent t) (hn : t.slotState n = .done)
    (v : ServingUnit) : t.servingSlot v ≠ some n := fun hv => by
  obtain ⟨-, -, htaken, -⟩ := h
  obtain ⟨a, ha⟩ := htaken v n hv
  rw [hn] at ha
  cases ha

theorem Moves.releaseSlot (h : Moves .host s t) (n : Fin 32) : Moves .host s (t.releaseSlot n) := by
  unfold State.releaseSlot
  split
  · exact h
  · next hn =>
    exact h.updDispatch (fun d => { d with slots := d.slots.set n .free, queue := d.queue.filter (· ≠ n) })
      (fun _ hs => hs.dequeue n .free (by intro e; cases e) hn) no_calm
  · next hn => exact h.releaseTaken n hn
  · exact h
  · next hn =>
    exact h.updDispatch _ (fun _ hs => hs.setSlot n .free (.inl rfl) (by rw [hn]; intro e; cases e) (hs.unserved_of_done hn)) no_calm

theorem Moves.storeWord (s : State) (a : Nat) (data : Word) : Moves .write s (s.storeWord a data) :=
  (Moves.refl _ s).setMem _ (Memory.wf_putLE _ _ _ _) (absurd rfl) fun hr => by cases hr <;> contradiction

/-- A slot word lies below Posture Table Staging. -/
theorem Moves.writeSlotWord (h : Moves .host s t) (a : Nat) (data : Word) (ha : a + 4 ≤ 0x0E00) :
    Moves .host s (t.writeSlotWord a data) := by
  have hput (b n v : Nat) (hb : b + n ≤ 0x0E00) : Moves .host s (t.setMem (t.mem.putLE b n v)) :=
    h.setMem _ (Memory.wf_putLE _ _ _ _) (fun _ hm c hc _ => Memory.get_putLE_ne _ hm _ _ _ _ (by omega)) no_calm
  have hstored : Moves .host s (t.storeSlotWord a data) := .ite (fun _ => hput _ _ _ (by omega)) fun _ => hput _ _ _ ha
  unfold State.writeSlotWord
  split
  · exact hstored
  · exact hstored
  · exact h.recordError _ _ _
  · exact h.recordError _ _ _

theorem Moves.writeExchange (s : State) (a : Nat) (data : Word) : Moves .write s (s.writeExchange a data) := by
  have h := Moves.refl .host s
  have hrefused (k : CaptureKind) : Moves .write s (s.recordError k a .exchange) := (h.recordError _ _ _).to_write
  exact .ite (fun _ => hrefused _) fun _ => .ite (fun _ => .ite (fun _ => hrefused _) fun _ => storeWord _ _ _) fun _ =>
    .ite (fun _ => (h.writeSlotWord _ _ (by omega)).to_write) fun _ =>
    .ite (fun _ => .ite (fun _ => (h.moveReadCount _ _).to_write) fun _ => hrefused _) fun _ =>
    .ite (fun _ => hrefused _) fun _ => .ite (fun _ => storeWord _ _ _) fun _ =>
    .ite (fun _ => hrefused _) fun _ => hrefused _

theorem Moves.writeControl (h : Moves .host s t) (a : Nat) (data : Word) : Moves .host s (t.writeControl a data) :=
  .ite (fun _ => .ite (fun _ => h.postSlot _) fun _ => h.releaseSlot _) fun _ => .ite (fun _ => h.clearCauses _) fun _ =>
    .ite (fun _ => h.setMask _) fun _ => h.recordError _ _ _

theorem Moves.hostWrite (s : State) (w : Window) (a : Nat) (lanes : BitVec 4) (data : Word) :
    Moves .write s (s.hostWrite w a lanes data) := by
  unfold State.hostWrite
  refine .ite (fun _ => Moves.refl _ s) fun _ => .ite (fun _ => ((Moves.refl .host s).recordError _ _ _).to_write) fun _ => ?_
  cases w with
  | exchange => exact writeExchange s _ _
  | control => exact ((Moves.refl .host s).writeControl _ _).to_write

theorem Moves.whenOpen (h : Moves .host s t) (f : State → State) (hf : Moves .host s (f t)) : Moves .host s (t.whenOpen f) :=
  .ite (fun _ => h) fun _ => hf

theorem Moves.writeParams (h : Moves .host s t) (n : Fin 32) (i : Nat) (ws : List Word) (hi : i + ws.length ≤ 15) :
    Moves .host s (t.writeParams n i ws) := by
  induction ws generalizing t i with
  | nil => exact h
  | cons w ws ih =>
    have := slotBase_le n
    simp only [List.length_cons] at hi
    exact ih (h.writeSlotWord _ _ (by omega)) _ (by omega)

theorem Moves.makeRequest (h : Moves .host s t) (n : Fin 32) (x : Request) (tag : Half) (ws : List Word)
    (hws : ws.length ≤ 15 := by simp) : Moves .host s (t.makeRequest n x tag ws) := by
  have := slotBase_le n
  exact h.whenOpen _ (((h.writeSlotWord _ _ (by omega)).writeParams _ _ _ (by omega)).postSlot _)

/-! ## The end of the self-check and host reset -/

theorem Moves.takeHalls (h : Moves r s t) (a b : Bool) : Moves r s (t.takeHalls a b) := (h.updSensor _).seedSide _

theorem Moves.failSignature (h : Moves r s t) : Moves r s t.failSignature := (h.reportActive _).updSensor _

/-- A line beginning to be watched keeps its debounced level. -/
theorem begin_level (d : DebouncedLine) (e : Timer) : (d.begin e).level = d.level := by
  unfold DebouncedLine.begin
  split <;> rfl

theorem Moves.beginOperation (h : Moves .host s t) : Moves .host s t.beginOperation := by
  refine Moves.handLast (Moves.startPeriod (Moves.updSleep (Moves.updPen (Moves.updAttach (h.updPort_host _) _ fun u => ?_) _) _)) _
  simp only [AttachUnit.viewed, begin_level]

theorem Moves.endSelfCheck (h : Moves .host s t) (rom : Half) (status : Byte) (a b : Bool) :
    Moves .host s (t.endSelfCheck rom status a b) := by
  have hhalls := h.takeHalls a b
  unfold State.endSelfCheck
  exact .ite (fun _ => .ite (fun _ => Moves.beginOperation (.ite (fun _ => hhalls) fun _ => hhalls.failSignature)) fun _ =>
    h.updPort_host _) fun _ => h

theorem Moves.resetPort (h : Moves .host s t) : Moves .host s t.resetPort := h.touchBoard.updPort_host _

theorem slotsConsistent_reset (s : State) : SlotsConsistent (s.updDispatch fun _ => Dispatcher.reset) := by
  have hfree (n : Fin 32) : (s.updDispatch fun _ => Dispatcher.reset).slotState n = .free := by
    have hreset : ∀ n : Fin 32, Dispatcher.reset.slots[n] = .free := by decide
    exact hreset n
  have hidle (u : ServingUnit) : (s.updDispatch fun _ => Dispatcher.reset).servingSlot u = none := by
    cases u <;> rfl
  refine ⟨List.nodup_nil, fun n => ?_, fun u n hu => ?_, fun u v n hu => ?_⟩
  · rw [hfree]
    exact ⟨fun e => absurd e List.not_mem_nil, fun e => by cases e⟩
  · rw [hidle] at hu
    cases hu
  · rw [hidle] at hu
    cases hu

theorem journalsBounded_reset (s : State) : JournalsBounded (s.updJournal fun _ => JournalUnit.reset) := by
  have hempty (j : Fin 3) : (s.updJournal fun _ => JournalUnit.reset).used j = 0 := by
    have hreset : ∀ j : Fin 3, JournalUnit.reset.journals[j].used = 0 := by decide
    exact hreset j
  exact fun j => (hempty j).trans_le (Nat.zero_le _)

/-- What a byte reads after a range is cleared. -/
theorem get_clear_from (m : Memory) (bound : Option Nat) (hm : Memory.wfFrom bound m = true) (lo hi a : Nat) :
    (m.clear lo hi).get a = if lo ≤ a ∧ a < hi then resetByte a else m.get a := by
  induction m generalizing bound with
  | nil => simp [Memory.clear, Memory.get]
  | cons c m ih =>
    obtain ⟨k, v⟩ := c
    rw [Memory.wfFrom_cons] at hm
    simp only [Bool.and_eq_true] at hm
    have hrest := ih (some k) hm.2
    rw [Memory.clear] at hrest ⊢
    rw [List.filter_cons]
    simp only [Bool.or_eq_true, decide_eq_true_eq]
    split
    · simp only [Memory.get, hrest]
      split
      · rfl
      · split
        · rw [if_neg (by omega)]
        · simp
    · rw [hrest]
      split
      · rfl
      · rcases Nat.lt_trichotomy k a with hlt | rfl | hgt
        · simp [Memory.get, hlt]
        · omega
        · rw [Memory.get_below m (some k) a hm.2 ⟨k, rfl, hgt.le⟩]
          simp [Memory.get, Nat.not_lt.mpr hgt.le, hgt.ne']

theorem get_clear_ne (m : Memory) (hm : m.wf = true) (lo hi a : Nat) (ha : a < lo ∨ hi ≤ a) :
    (m.clear lo hi).get a = m.get a := by
  rw [get_clear_from m none hm, if_neg (by omega)]

theorem Moves.resetHostSide (h : Moves .host s t) : Moves .host s t.resetHostSide := by
  have hdispatch := h.updDispatch (fun _ => Dispatcher.reset) (fun _ _ => slotsConsistent_reset t) no_calm
  have hjournals : Moves .host s ((t.updDispatch fun _ => Dispatcher.reset).updJournal fun _ => JournalUnit.reset) :=
    hdispatch.trans ⟨⟨rfl, rfl, id, fun _ => journalsBounded_reset _, id, id, id, id, id, id, id, id⟩, fun _ => id,
      False.elim, fun _ _ _ _ _ => rfl, no_calm⟩
  have hsettings := hjournals.updSettings (.inr rfl)
    (fun u => { u with active := Settings.defaults, generation := 0, locked := false, table := defaultTable })
    (fun _ => (by decide : Settings.defaults.pulseLimit ≤ 8)) fun _ => (by decide : Settings.defaults.penTopUp < Settings.defaults.penTarget)
  exact hsettings.setMem _ (Memory.wf_clear _ _ _) (fun _ hm a ha _ => get_clear_ne _ hm _ _ _ (by omega)) no_calm

theorem budgetAndClaim_calm (b : Bool) (p : Option ReleasePhase) : calmTasks (budgetAndClaim b p) = true := by
  cases b
  · show calmTasks (resetAttachTasks p ++ [.selectBudget 3]) = true
    rw [calmTasks_append, resetAttachTasks_calm]
    rfl
  · show calmTasks ([.selectBudget 3] ++ resetAttachTasks p) = true
    rw [calmTasks_append, resetAttachTasks_calm]
    rfl

theorem Moves.hostReset (h : Moves .host s t) : Moves .host s t.hostReset := by
  have hhost := ((h.resetPort.resetHostSide.setCalibration none).resetPosture)
  have hsource : Moves .host s (((((t.resetPort.resetHostSide).setCalibration none).resetPosture).updAllot fun u =>
      { u with source := .battery })) :=
    hhost.trans ⟨⟨rfl, rfl, id, id, id, id, id, id, id, id, id, id⟩, fun _ => id, False.elim, fun _ _ _ _ _ => rfl, no_calm⟩
  refine Moves.hand hsource.closeGate.resetSleep.resetAttach.nextChoice _ ?_
  rw [calmTasks_append]
  show (calmTasks ([.setPower .active 4] ++ budgetAndClaim _ _) && _) = true
  rw [calmTasks_append, budgetAndClaim_calm]
  rfl

end Sys2Proof.Machine
end

section
/-! The hand-ons, the events and the steps: what one step may do, and the properties that every step keeps. -/

namespace Sys2Proof.Machine

set_option Elab.async false

variable {r : Scope} {s t : State}

/-! ## Hand-ons -/

/-- What a hand-on may do, but for a slot taken from the queue and for a request served. -/
theorem Moves.doTask (h : Moves r s t) (x : Task) (hfits : x.fits = true) (hconsider : Moves r s t.considerQueue)
    (hserve : ∀ n q, x = .serve n q → Moves r s (t.serve n q)) : Moves r s (doTask x t) := by
  cases x with
  | considerQueue => exact hconsider
  | serve n q => exact hserve n q rfl
  | finish u code detail words => exact h.finishUnit _ _ _ _ (of_decide_eq_true hfits)
  | finishLoad n => exact h.finishLoad _
  | finishBacklight => exact h.finishBacklight
  | finishSource b => exact h.finishSource _
  | finishLock w => exact h.finishLock _
  | finishMode n => exact h.finishMode _
  | serveReceiveQueue => exact h.serveReceiveQueue
  | serveAfterReset => exact h.serveReceiveQueue
  | servePacket p => exact h.servePacket _
  | evaluateOrientation set => exact h.evaluateOrientation _
  | commitPosture p b c => exact h.commitPosture _ _ _
  | reportPosture b c => exact h.reportPosture _ _
  | gateRotation => exact h.gateRotation
  | freshEvaluation c => exact h.freshEvaluation _
  | publishFlags => exact h.publishFlags
  | sleepCommit b => exact h.sleepCommit _
  | sleepRefresh => exact h.sleepRefresh
  | activity => exact h.activity
  | wakeEvent w => exact h.wakeEvent _
  | postureAttach => exact h.commitDetached
  | angleAttach => exact h.angleDetached
  | sensorAttach => exact h.sensorAttach
  | linkAttach => exact h.followGate
  | sleepAttach b a => exact h.sleepAttach _ _
  | attachLink => exact h.attachLink
  | linkDetect => exact h.linkDetect
  | allotDetect => exact h.allotDetect
  | askQuiesce => exact h.askQuiesce
  | askResume => exact h.askResume
  | awaitRemoval => exact h.awaitRemoval
  | returnToRest c => exact h.returnToRest _
  | ackQuiesce => exact h.ackQuiesce
  | detachClaim c => exact h.detachClaim _
  | coilDemand b => exact h.coilDemand _
  | coilAnswer => exact h.coilAnswer
  | offerWelcome => exact h.offerWelcome
  | stateBacklight => exact h.stateBacklight
  | penDemand d => exact h.penDemand _
  | penDecide => exact h.penDecide
  | reviewBase => exact h.reviewBase
  | baseFaultedOff => exact h.baseFaultedOff
  | selectBudget c => exact h.selectBudget _
  | recompute => exact h.recompute
  | linkGrant => exact h.linkGrant
  | penGrant => exact h.penGrant
  | backlightGrant => exact h.backlightGrant
  | settleIncreases => exact h.settleIncreases
  | confirmDecrease c => exact h.confirmDecrease _
  | ackLight => exact h.ackLight
  | setPower a c => exact h.setPower _ _
  | reportPower b c => exact h.reportPower _ _
  | sensorPower b => exact h.sensorPower _
  | anglePower => exact h.anglePower
  | posturePower => exact h.posturePower
  | withdrawBase => exact h.withdrawBase
  | startDozeTimer => exact h.startDozeTimer
  | resumeHost b => exact h.resumeHost _
  | resetSleepEnd => exact h.resetSleepEnd
  | offerRate => exact h.offerRate

/-- Every hand-on of an event moves within a scope. -/
def Carries (r : Scope) (s : State) : Prop :=
  ∀ (x : Task) (t : State), Moves r s t → x.fits = true → (r = .calm ∨ r = .settling → x.still = true) → Moves r s (doTask x t)

theorem carries_served (s : State) : Carries .served s := fun x _ h hfits _ =>
  h.doTask x hfits h.considerQueue fun n q _ => h.serve n q

theorem carries_host (s : State) : Carries .host s := fun x t h hfits _ =>
  h.trans (carries_served t x t (Moves.refl _ t) hfits fun hr => by cases hr <;> contradiction).to_host

theorem carries_write (s : State) : Carries .write s := fun x t h hfits _ =>
  h.trans (carries_host t x t (Moves.refl _ t) hfits fun hr => by cases hr <;> contradiction).to_write

/-- With no slot waiting a hand-on takes none. -/
theorem carries_calm (s : State) (hs : s.dispatch.queue = []) : Carries .calm s := fun x t h hfits hstill => by
  have hqueue : t.dispatch.queue = [] := by
    have hreq := (h.stills (.inl rfl)).requested
    simp only [State.requested, Prod.mk.injEq] at hreq
    exact hreq.1.trans hs
  refine h.doTask x hfits ?_ fun n q hx => ?_
  · rw [considerQueue_idle t hqueue]
    exact h
  · have := hstill (.inl rfl)
    rw [hx] at this
    cases this

theorem Moves.runTasks (h : Moves r s t) (hcarries : Carries r s) (hs : s.tasks = []) (n : Nat) :
    Moves r s (runTasks n t) := by
  induction n generalizing t with
  | zero => exact h
  | succ n ih =>
    unfold Machine.runTasks
    split
    · exact h
    · next x rest htasks =>
      have hfits := h.keeps.fits (by rw [hs]; rfl)
      rw [htasks, List.all_cons, Bool.and_eq_true] at hfits
      have hstill (hr : r = .calm ∨ r = .settling) : x.still = true ∧ rest.all Task.still = true := by
        have := (h.stills hr).still (by rw [hs]; rfl)
        rwa [htasks, List.all_cons, Bool.and_eq_true] at this
      have hrest := h.setTasks rest (fun _ => hfits.2) fun hr _ => (hstill hr).2
      exact ih (hcarries x _ hrest hfits.1 fun hr => (hstill hr).1)

/-! ## Events -/

theorem Moves.openEvent (h : Moves r s t) : Moves r s t.openEvent :=
  (h.setTasks [] (fun _ => rfl) fun _ _ => rfl).of_view rfl

/-- An event: what is done at its unit and every hand-on move within its scope, and the bracket closes the board. -/
theorem Moves.event (s : State) (f : State → State) (hf : ∀ u, Moves r u (f u)) (hcarries : Carries r s.openEvent) :
    ∃ e, Moves r s e ∧ e.tasks = [] ∧ s.event f = e.closeBoard s := by
  refine ⟨_, (Moves.refl r s).openEvent.trans ?_, ?_, rfl⟩
  · exact ((hf _).runTasks hcarries rfl _).setTasks [] (fun _ => rfl) fun _ _ => rfl
  · rfl

theorem Moves.atExpiry (x : Timer) (f : State → State) (hf : ∀ u, Moves r u (f u)) (s : State) :
    Moves r s (s.atExpiry x f) := by
  unfold State.atExpiry
  split
  · exact Moves.refl r s
  · exact ((Moves.refl r s).reach _).trans (hf _)

/-- The outcome of an event whose own meaning moves within a scope. -/
def EventOf (r : Scope) (s : State) (o : Host.Outcome State Fault Refusal) : Prop :=
  ∃ f, o = takeEvent s f ∧ ∀ u, Moves r u (f u)

theorem EventOf.of {s : State} {f : State → State} (hf : ∀ u, Moves r u (f u)) : EventOf r s (takeEvent s f) := ⟨f, rfl, hf⟩

theorem EventOf.atExpiry {s : State} {x : State → Timer} {f : State → State} (hf : ∀ u, Moves r u (f u)) :
    EventOf r s (takeEvent s fun u => u.atExpiry (x u) f) := .of fun u => Moves.atExpiry (x u) f hf u

theorem EventOf.request {s : State} {n : Fin 32} {q : Request} {tag : Half} {ws : List Word} (hws : ws.length ≤ 15 := by simp) :
    EventOf .host s (takeEvent s fun u => u.makeRequest n q tag ws) := .of fun u => (Moves.refl _ u).makeRequest _ _ _ _ hws

theorem EventOf.access {s : State} {f : State → State} (hf : ∀ u, Moves .host u (f u)) :
    EventOf .host s (takeEvent s fun u => u.whenOpen f) := .of fun u => (Moves.refl _ u).whenOpen f (hf u)

theorem Moves.completeRead (h : Moves r s t) (status : Byte) (x y z : Half) : Moves r s (t.completeRead status x y z) := by
  unfold State.completeRead
  split
  · exact h
  · exact h.updSensor _
  · exact (((((h.judgeRead _).handSet _).angleSet _).offerSample _ _).postureSet _).calibrateSet _

/-- The events of the part itself are calm. -/
theorem exec_partEvent (c : Instr) (s : State) (hc : partEvent c = true) : EventOf .calm s (exec c s) := by
  have self (u : State) : Moves .calm u u := Moves.refl _ u
  cases c with
  | inputQuietFlushExpiry =>
    refine .atExpiry fun u => ?_
    exact .ite (fun _ => ((self u).updJournalUnit _).latch _) fun _ => (self u).updJournalUnit _
  | samplePeriodExpiry => exact .atExpiry fun u => (self u).periodExpired
  | lidReadCompletion a x y z => exact .of fun u => (self u).completeRead _ _ _ _
  | hallLineChange l b => exact .of fun u => (self u).hallChange _ _
  | hallDebounceExpiry l => exact .atExpiry fun u => (self u).hallSettle _
  | postureDwellExpiry => exact .atExpiry fun u => (self u).dwellExpired
  | unavailableTimerExpiry => exact .atExpiry fun u => (self u).signalLost
  | orientationDwellExpiry => exact .atExpiry fun u => (self u).orientationDwellExpired
  | packetArrival bytes =>
    refine .of fun u => ?_
    split
    · exact (self u).packetArrived _
    · exact (self u).discardPacket _
  | packetDiscard x => exact .of fun u => (self u).discardPacket _
  | transmitComplete => exact .of fun u => (self u).transmitDone
  | powerUpTimerExpiry => exact .atExpiry fun u => (self u).enterGreeting _
  | greetingTimerExpiry => exact .atExpiry fun u => (self u).greetingExpired
  | supervisionTimerExpiry => exact .atExpiry fun u => (self u).enterLost _
  | recoveryTimerExpiry => exact .atExpiry fun u => (self u).recoveryExpired
  | detectLineChange b => exact .of fun u => (self u).detectChange _
  | detectDebounceExpiry => exact .atExpiry fun u => (self u).detectSettle
  | quiesceTimerExpiry => exact .atExpiry fun u => (self u).quiesceExpired
  | coilCurrentSeen => exact .of fun u => (self u).coilCurrent
  | senseTimerExpiry => exact .atExpiry fun u => (self u).senseExpired
  | pulseTimerExpiry => exact .atExpiry fun u => (self u).pulseExpired
  | windowTimerExpiry => exact .atExpiry fun u => (self u).windowExpired
  | pulseAgeOut => exact .atExpiry fun u => (self u).agePulse
  | penInLineChange b => exact .of fun u => (self u).penInChange _
  | penInDebounceExpiry => exact .atExpiry fun u => (self u).penInSettle
  | report x => exact .of fun u => (self u).takeReport _
  | responseTimerExpiry => exact .atExpiry fun u => (self u).responseExpired
  | pollTimerExpiry => exact .atExpiry fun u => (self u).pollExpired
  | penDecreaseConfirm => exact .of fun u => (self u).confirmPen
  | awaitingDeadlineExpiry c => exact .atExpiry fun u => (self u).confirmDecrease _
  | vbaseVoltageChange b => exact .of fun u => (self u).voltageChange _
  | underVoltageTimerExpiry => exact .atExpiry fun u => (self u).underVoltageExpired
  | holdAwakeDeadlineExpiry => exact .atExpiry fun u => (self u).holdAwakeExpired
  | idleTimerExpiry => exact .atExpiry fun u => (self u).idleExpired
  | idleRemainingRewrite => exact .atExpiry fun u => (self u).rewriteIdle
  | graceTimerExpiry => exact .atExpiry fun u => (self u).graceExpired
  | dozeToStandbyExpiry => exact .atExpiry fun u => (self u).dozeExpired
  | answerTimerExpiry => exact .atExpiry fun u => (self u).answerExpired
  | gapTimerExpiry => exact .atExpiry fun u => (self u).gapExpired
  | powerButtonLineChange b => exact .of fun u => (self u).buttonChange _
  | powerButtonDebounceExpiry => exact .atExpiry fun u => (self u).buttonSettle
  | rxbRestTwoByteTimes => exact .of fun u => (self u).updLink _
  | _ => cases hc

/-- Every command but power-on reset and HOST_WRITE is an event that leaves Posture Table Staging alone. -/
theorem exec_event (c : Instr) (s : State) (hpower : c ≠ .powerOnReset)
    (hwrite : ∀ w offset lanes data, c ≠ .hostWrite w offset lanes data) : EventOf .host s (exec c s) := by
  have self (u : State) : Moves .host u u := Moves.refl _ u
  by_cases hc : partEvent c = true
  · obtain ⟨f, hf, hmoves⟩ := exec_partEvent c s hc
    exact ⟨f, hf, fun u => (hmoves u).to_served.to_host⟩
  cases c with
  | powerOnReset => exact absurd rfl hpower
  | hostWrite w offset lanes data => exact absurd rfl (hwrite _ _ _ _)
  | selfCheckEnd a b x y => exact .of fun u => (self u).endSelfCheck _ _ _ _
  | hrstAssert => exact .of fun u => (self u).updPort_host _
  | hostReset => exact .of fun u => (self u).hostReset
  | readCountWrite j data => exact .access fun u => (self u).moveReadCount _ _
  | post n => exact .access fun u => (self u).postSlot _
  | release n => exact .access fun u => (self u).releaseSlot _
  | attnLatchWrite data => exact .access fun u => (self u).clearCauses _
  | attnMaskWrite data => exact .access fun u => (self u).setMask _
  | applySettings | lockSettings | loadPostureTable | resetJournal | ackFault | calibrateHinge | setRotationLock | detach
  | setBacklight | penAccept | penForget | penChargeMode | setPowerSource | sleepEnter | hostOn | holdAwake => exact .request
  | _ => exact absurd rfl hc

end Sys2Proof.Machine
end

section
/-! What every step keeps, and what commands leave alone: the statements that follow from `Moves`. -/

namespace Sys2Proof.Machine

set_option Elab.async false

variable {r : Scope} {s t : State}

/-! ## After a reset -/

theorem reset_canonical : MemoryCanonical State.reset := by unfold MemoryCanonical; decide
theorem reset_journals : JournalsBounded State.reset := by unfold JournalsBounded; decide
theorem reset_hinge : HingeBounded State.reset := by unfold HingeBounded; decide
theorem reset_pulses : PulsesBounded State.reset := by unfold PulsesBounded; decide
theorem reset_topUp : TopUpBelowTarget State.reset := by unfold TopUpBelowTarget; decide
theorem reset_hold : HoldFollowsQueue State.reset := by unfold HoldFollowsQueue; decide
theorem reset_pressed : PressedBounded State.reset := by unfold PressedBounded; decide
theorem reset_grants : GrantsWithinTargets State.reset := by
  unfold GrantsWithinTargets Allotments.le Allotments.legal
  decide
theorem reset_slots : SlotsConsistent State.reset := slotsConsistent_reset State.reset
theorem reset_board : BoardClosed State.reset := by unfold BoardClosed State.betweenEvents; decide
theorem reset_attach : AttachFollowsDetect State.reset := by unfold AttachFollowsDetect; decide

/-- Settles O4: each property by the values of power-on reset. -/
theorem invariantsAtReset : Obligations.InvariantsAtReset :=
  ⟨reset_canonical, reset_journals, reset_hinge, reset_pulses, reset_topUp, reset_hold, reset_pressed, reset_grants,
    reset_slots, reset_board, reset_attach⟩

/-! ## One command -/

/-- A command of the host's may do what HOST_WRITE may. -/
theorem exec_moves (c : Instr) (s : State) (hpower : c ≠ .powerOnReset)
    (hinside : ∀ w offset lanes data, c = .hostWrite w offset lanes data → offset < windowSize w) :
    EventOf .write s (exec c s) := by
  by_cases hwrite : ∃ w offset lanes data, c = .hostWrite w offset lanes data
  · obtain ⟨w, offset, lanes, data, rfl⟩ := hwrite
    refine ⟨fun u => u.hostWrite w offset lanes data, ?_, fun u => Moves.hostWrite u _ _ _ _⟩
    exact if_neg (Nat.not_le.mpr (hinside _ _ _ _ rfl))
  · obtain ⟨f, hf, hmoves⟩ := exec_event c s hpower fun w offset lanes data hc => hwrite ⟨w, offset, lanes, data, hc⟩
    exact ⟨f, hf, fun u => (hmoves u).to_write⟩

theorem exec_hostWrite_outside (w : Window) (offset : Nat) (lanes : BitVec 4) (data : Word) (s : State)
    (h : windowSize w ≤ offset) : exec (.hostWrite w offset lanes data) s = .fault (.outsideWindows w offset) := if_pos h

/-- A next state is that of power-on reset, or the end of an event. -/
theorem exec_next (c : Instr) (s t : State) (h : exec c s = .next t) :
    (c = .powerOnReset ∧ t = s.powerOn) ∨
      c ≠ .powerOnReset ∧ ∃ e, Moves .write s e ∧ e.tasks = [] ∧ t = e.closeBoard s := by
  by_cases hpower : c = .powerOnReset
  · subst hpower
    exact .inl ⟨rfl, (Host.Outcome.next.inj h).symm⟩
  · obtain ⟨f, hf, hmoves⟩ := exec_moves c s hpower fun w offset lanes data hc => by
      by_contra hout
      rw [hc, exec_hostWrite_outside _ _ _ _ _ (Nat.not_lt.mp hout)] at h
      cases h
    obtain ⟨e, hse, htasks, he⟩ := Moves.event s f hmoves (carries_write _)
    rw [hf] at h
    exact .inr ⟨hpower, e, hse, htasks, (Host.Outcome.next.inj h).symm.trans he⟩

/-- Settles O2: a host write outside both windows is the only command that is no event and no reset. -/
theorem everyCommandAnswers : Obligations.EveryCommandAnswers := by
  unfold Obligations.EveryCommandAnswers
  refine ⟨fun c s hinside => ?_, fun w offset lanes data s hout => exec_hostWrite_outside w offset lanes data s hout⟩
  by_cases hpower : c = .powerOnReset
  · subst hpower
    exact ⟨s.powerOn, rfl, rfl, rfl⟩
  · obtain ⟨f, hf, hmoves⟩ := exec_moves c s hpower hinside
    obtain ⟨e, hse, htasks, he⟩ := Moves.event s f hmoves (carries_write _)
    refine ⟨_, hf, ?_, ?_⟩ <;> rw [he, closeBoard_frame]
    · exact hse.keeps.pending
    · exact htasks

/-! ## One step -/

/-- Settles O1: by the two cases of the queue. -/
theorem stepRunsFrontCommand : Obligations.StepRunsFrontCommand := by
  unfold Obligations.StepRunsFrontCommand
  refine ⟨fun c q s => rfl, fun s hs => ?_⟩
  unfold step
  split
  · rfl
  · next c q hq =>
    rw [hs] at hq
    cases hq

/-- A step passes a millisecond or carries out the front command. -/
theorem step_next (s t : State) (h : step s = .next t) :
    t = s.setNow (s.now + 1) ∨ ∃ c rest, exec c (s.setPending rest) = .next t := by
  unfold step at h
  split at h
  · exact .inl (Host.Outcome.next.inj h).symm
  · exact .inr ⟨_, _, h⟩

/-- A property that neither part time, the queue nor the port unit bears on, that power-on reset gives and that every
operation keeps, is kept by every step. -/
theorem step_keeps (P : State → Prop) (hnow : ∀ u x, P u → P (u.setNow x)) (hpending : ∀ u q, P u → P (u.setPending q))
    (hport : ∀ u f, P u → P (u.updPort f)) (hpower : ∀ u : State, P u.powerOn) (hkeeps : ∀ u e, Moves .write u e → P u → P e)
    (hs : P s) (h : step s = .next t) : P t := by
  obtain rfl | ⟨c, rest, hc⟩ := step_next s t h
  · exact hnow _ _ hs
  · obtain ⟨-, rfl⟩ | ⟨-, e, he, -, rfl⟩ := exec_next c _ t hc
    · exact hpower _
    · have := hkeeps _ _ he (hpending _ _ hs)
      unfold State.closeBoard
      split
      · exact hport _ _ this
      · exact this

/-- Settles O5. -/
theorem stepKeepsCanonicalMemory : Obligations.StepKeepsCanonicalMemory := fun _ _ =>
  step_keeps MemoryCanonical (fun _ _ => id) (fun _ _ => id) (fun _ _ => id) (fun _ => reset_canonical)
    fun _ _ he => he.keeps.canonical

/-- Settles O6. -/
theorem stepKeepsJournalBounds : Obligations.StepKeepsJournalBounds := fun _ _ =>
  step_keeps JournalsBounded (fun _ _ => id) (fun _ _ => id) (fun _ _ => id) (fun _ => reset_journals)
    fun _ _ he => he.keeps.journals

/-- Settles O7. -/
theorem stepKeepsHingeRange : Obligations.StepKeepsHingeRange := fun _ _ =>
  step_keeps HingeBounded (fun _ _ => id) (fun _ _ => id) (fun _ _ => id) (fun _ => reset_hinge)
    fun _ _ he => he.keeps.hinge

/-- Settles O8. -/
theorem stepKeepsAttachmentAndSettings : Obligations.StepKeepsAttachmentAndSettings :=
  ⟨fun _ _ => step_keeps PulsesBounded (fun _ _ => id) (fun _ _ => id) (fun _ _ => id) (fun _ => reset_pulses)
      fun _ _ he => he.keeps.pulses,
    fun _ _ => step_keeps TopUpBelowTarget (fun _ _ => id) (fun _ _ => id) (fun _ _ => id) (fun _ => reset_topUp)
      fun _ _ he => he.keeps.topUp,
    fun _ _ => step_keeps AttachFollowsDetect (fun _ _ => id) (fun _ _ => id) (fun _ _ => id) (fun _ => reset_attach)
      fun _ _ he => he.follows (by intro e; cases e)⟩

/-- Settles O9. -/
theorem stepKeepsInputPath : Obligations.StepKeepsInputPath :=
  ⟨fun _ _ => step_keeps HoldFollowsQueue (fun _ _ => id) (fun _ _ => id) (fun _ _ => id) (fun _ => reset_hold)
      fun _ _ he => he.keeps.hold,
    fun _ _ => step_keeps PressedBounded (fun _ _ => id) (fun _ _ => id) (fun _ _ => id) (fun _ => reset_pressed)
      fun _ _ he => he.keeps.pressed⟩

/-- Settles O10. -/
theorem stepKeepsGrants : Obligations.StepKeepsGrants := fun _ _ =>
  step_keeps GrantsWithinTargets (fun _ _ => id) (fun _ _ => id) (fun _ _ => id) (fun _ => reset_grants)
    fun _ _ he => he.keeps.grants

/-- Settles O11. -/
theorem stepKeepsSlots : Obligations.StepKeepsSlots := fun _ _ =>
  step_keeps SlotsConsistent (fun _ _ => id) (fun _ _ => id) (fun _ _ => id) (fun _ => reset_slots)
    fun _ _ he => he.keeps.slots

theorem even_add_two (n : Word) (h : n.getLsbD 0 = false) : (n + 2).getLsbD 0 = false := by
  have htwo : (2 : Word).toNat = 2 := rfl
  simp only [BitVec.getLsbD, Nat.testBit_zero, decide_eq_false_iff_not, BitVec.toNat_add, htwo] at h ⊢
  omega

/-- The bracket leaves the update count even. -/
theorem closeBoard_closed (e s : State) (htasks : e.tasks = []) (hcount : e.port.updateCount.getLsbD 0 = false) :
    BoardClosed (e.closeBoard s) := by
  unfold State.closeBoard
  split
  · exact ⟨even_add_two _ hcount, htasks, rfl⟩
  · next htouched =>
    rw [Bool.or_eq_true, not_or] at htouched
    exact ⟨hcount, htasks, eq_false_of_ne_true htouched.1⟩

/-- Settles O12: only the bracket moves the update count, and by two. -/
theorem stepKeepsBoardClosed : Obligations.StepKeepsBoardClosed := by
  intro s t hs h
  obtain rfl | ⟨c, rest, hc⟩ := step_next s t h
  · exact hs
  · obtain ⟨-, rfl⟩ | ⟨-, e, he, htasks, rfl⟩ := exec_next c _ t hc
    · exact reset_board
    · refine closeBoard_closed _ _ htasks ?_
      rw [he.keeps.count]
      exact hs.1

/-! ## What commands leave alone -/

theorem closeBoard_hostSide (e s : State) :
    (e.closeBoard s).port.hostSide = e.port.hostSide ∧ (e.closeBoard s).port.attnLatch = e.port.attnLatch := by
  rw [closeBoard_frame]
  exact ⟨rfl, rfl⟩

/-- Settles O13: the events of the part are calm, and with no slot waiting so is all that follows them. -/
theorem partEventsKeepHostSide : Obligations.PartEventsKeepHostSide := by
  intro c s t hc h
  obtain ⟨f, hf, hmoves⟩ := exec_partEvent c s hc
  rw [hf] at h
  obtain rfl : s.event f = t := Host.Outcome.next.inj h
  constructor
  · obtain ⟨e, he, -, heq⟩ := Moves.event s f (fun u => (hmoves u).to_served) (carries_served _)
    obtain ⟨hside, hlatch⟩ := closeBoard_hostSide e s
    obtain ⟨hport, hcauses⟩ := he.leaves trivial
    rw [heq, hlatch]
    have hsame := hside.trans hport
    simp only [PortUnit.hostSide, Prod.mk.injEq] at hsame
    obtain ⟨hhrst, hphase, hcheck, hkind, hmask, hcapture⟩ := hsame
    exact ⟨hhrst, hphase, hcheck, hkind, hmask, hcapture, hcauses⟩
  · intro hqueue
    obtain ⟨e, he, -, heq⟩ := Moves.event s f hmoves (carries_calm s.openEvent hqueue)
    obtain ⟨hrequested, -, hmem, -⟩ := he.stills (.inl rfl)
    simp only [State.requested, Prod.mk.injEq] at hrequested
    obtain ⟨hq, hactive, hgeneration, hlocked, htable, hzero, hone, htwo, hhost, hmask, hstandby, hsource, hlock, hwish,
      hmode⟩ := hrequested
    have hkept (j : Fin 3) : (e.journalOf j).readCount = (s.journalOf j).readCount ∧
        (e.journalOf j).invalidCount = (s.journalOf j).invalidCount := by
      match j with
      | 0 => exact hzero
      | 1 => exact hone
      | 2 => exact htwo
    rw [heq, closeBoard_frame]
    exact ⟨hq.trans hqueue, hactive, hgeneration, hlocked, htable, hkept, hhost, hmask, hstandby, hsource, hlock, hwish,
      hmode, hmem⟩

/-- Settles O14: no event but HOST_WRITE writes between 0x0E00 and 0x1000. -/
theorem stagingIsTheHosts : Obligations.StagingIsTheHosts := by
  intro c s t hm hpower hwrite h a hlo hhi
  obtain ⟨f, hf, hmoves⟩ := exec_event c s hpower hwrite
  rw [hf] at h
  obtain rfl : s.event f = t := Host.Outcome.next.inj h
  obtain ⟨e, he, -, heq⟩ := Moves.event s f hmoves (carries_host _)
  rw [heq, closeBoard_frame]
  exact he.staging (by intro e; cases e) hm a hlo hhi

end Sys2Proof.Machine
end

section
/-! Events that hand nothing on: resets, timers that are stopped, the host's registers, and host writes. -/

namespace Sys2Proof.Machine

set_option Elab.async false

/-! ## Events alone -/

/-- An event that hands nothing on ends with the bracket. -/
theorem takeEvent_alone (s : State) (f : State → State) (hs : s.betweenEvents) (hf : (f s).tasks = []) :
    takeEvent s f = .next ((f s).closeBoard s) := by
  unfold takeEvent
  rw [event_alone s f hs.1 hs.2 hf]

/-- An event that hands nothing on and rewrites no field of the board. -/
theorem takeEvent_unseen (s : State) (f : State → State) (hs : s.betweenEvents) (hf : (f s).betweenEvents)
    (hboard : (f s).boardWords = s.boardWords) : takeEvent s f = .next (f s) := by
  rw [takeEvent_alone s f hs hf.1, closeBoard_same _ _ hf.2 hboard]

theorem takeEvent_self (s : State) (f : State → State) (hs : s.betweenEvents) (hf : f s = s) : takeEvent s f = .next s := by
  have := takeEvent_unseen s f hs (hf.symm ▸ hs) (by rw [hf])
  rwa [hf] at this

/-- The bracket changes the port unit in the board's count and time only. -/
theorem closeBoard_sameButBoard (e before : State) (p : PortUnit) (hp : p.boardTouched = false)
    (he : ∃ b, e.port = { p with boardTouched := b }) :
    p.sameButBoard (e.closeBoard before).port ∧ e.closeBoard before = { e with port := (e.closeBoard before).port } := by
  obtain ⟨b, hb⟩ := he
  unfold State.closeBoard
  split
  · refine ⟨?_, rfl⟩
    simp only [PortUnit.sameButBoard, State.updPort, hb, hp]
  · next hsame =>
    rw [Bool.or_eq_true, not_or] at hsame
    rw [hb] at hsame
    obtain rfl : b = false := eq_false_of_ne_true hsame.1
    refine ⟨?_, rfl⟩
    simp only [PortUnit.sameButBoard, hb, hp]

/-- An event that hands nothing on and changes the port unit only. -/
theorem takeEvent_port (s : State) (f : State → State) (p : PortUnit) (hs : s.betweenEvents) (hf : f s = { s with port := p })
    (hp : p.boardTouched = false) :
    ∃ t, takeEvent s f = .next t ∧ t = { s with port := t.port } ∧ PortUnit.sameButBoard p t.port := by
  obtain ⟨hport, hrest⟩ := closeBoard_sameButBoard (f s) s p hp ⟨false, by rw [hf, ← hp]⟩
  refine ⟨_, takeEvent_alone s f hs (by rw [hf]; exact hs.1), ?_, hport⟩
  rw [hrest, hf]

/-! ## Power-on reset -/

/-- Settles O16: by computation. -/
theorem powerOnReset : Obligations.PowerOnReset := fun _ => rfl

theorem faultEntry_reset (k : FaultKind) :
    State.reset.faultEntry k = { active := false, count := 0, firstActive := 0 } := by
  cases k <;> rfl

/-- Settles O3: by computation, word by word. -/
theorem resetState : Obligations.ResetState := by
  unfold Obligations.ResetState
  refine ⟨by decide, by decide, by decide, by decide, by decide, by decide, by decide, by decide, by decide,
    faultEntry_reset, rfl, rfl, rfl, rfl⟩

/-! ## Stopped timers and a port held in reset -/

theorem takeEvent_stopped (s : State) (hs : s.betweenEvents) (x : State → Timer) (f : State → State) (hx : x s = none) :
    takeEvent s (fun u => u.atExpiry (x u) f) = .next s :=
  takeEvent_self s _ hs (by
    rw [hx]
    rfl)

theorem takeEvent_held (s : State) (hs : s.betweenEvents) (f : State → State) (hh : s.port.hrst = true) :
    takeEvent s (fun u => u.whenOpen f) = .next s := takeEvent_self s _ hs (if_pos hh)

theorem takeEvent_request_held (s : State) (hs : s.betweenEvents) (n : Fin 32) (q : Request) (tag : Half) (ws : List Word)
    (hh : s.port.hrst = true) : takeEvent s (fun u => u.makeRequest n q tag ws) = .next s := takeEvent_held s hs _ hh

/-- Settles O15: by the timer, or the line HRST, that the command asks first. -/
theorem commandsWithoutEffect : Obligations.CommandsWithoutEffect := by
  unfold Obligations.CommandsWithoutEffect
  refine ⟨fun c s hs hc => ?_, fun c s hs hh hc hinside => ?_⟩
  · have stopped {x : State → Timer} {f : State → State} (hx : some (x s) = some none) :
        takeEvent s (fun u => u.atExpiry (x u) f) = .next s := takeEvent_stopped s hs x f (Option.some.inj hx)
    cases c with
    | inputQuietFlushExpiry | samplePeriodExpiry | hallDebounceExpiry | postureDwellExpiry | unavailableTimerExpiry
    | orientationDwellExpiry | powerUpTimerExpiry | greetingTimerExpiry | supervisionTimerExpiry | recoveryTimerExpiry
    | detectDebounceExpiry | quiesceTimerExpiry | senseTimerExpiry | pulseTimerExpiry | windowTimerExpiry | pulseAgeOut
    | penInDebounceExpiry | responseTimerExpiry | pollTimerExpiry | awaitingDeadlineExpiry | underVoltageTimerExpiry
    | holdAwakeDeadlineExpiry | idleTimerExpiry | idleRemainingRewrite | graceTimerExpiry | dozeToStandbyExpiry
    | answerTimerExpiry | gapTimerExpiry | powerButtonDebounceExpiry => exact stopped hc
    | _ => cases hc
  · cases c with
    | hostWrite w offset lanes data =>
      refine (if_neg (Nat.not_le.mpr (hinside _ _ _ _ rfl))).trans (takeEvent_self s _ hs (if_pos hh))
    | readCountWrite | post | release | attnLatchWrite | attnMaskWrite => exact takeEvent_held s hs _ hh
    | applySettings | lockSettings | loadPostureTable | resetJournal | ackFault | calibrateHinge | setRotationLock | detach
    | setBacklight | penAccept | penForget | penChargeMode | setPowerSource | sleepEnter | hostOn | holdAwake =>
      exact takeEvent_request_held s hs _ _ _ _ hh
    | _ => cases hc

/-! ## Rows of the control window -/

theorem fin_ofNat_val (n : Fin 32) : Fin.ofNat 32 n.val = n := Fin.ext (Nat.mod_eq_of_lt n.isLt)

theorem writeControl_post (s : State) (n : Fin 32) (data : Word) : s.writeControl (8 * n.val) data = s.postSlot n := by
  have := n.isLt
  unfold State.writeControl
  rw [if_pos (by omega), if_pos (by omega), Nat.mul_div_cancel_left _ (by decide), fin_ofNat_val]

theorem writeControl_release (s : State) (n : Fin 32) (data : Word) :
    s.writeControl (8 * n.val + 4) data = s.releaseSlot n := by
  have := n.isLt
  have hdiv : (8 * n.val + 4) / 8 = n.val := by omega
  unfold State.writeControl
  rw [if_pos (by omega), if_neg (by omega), hdiv, fin_ofNat_val]

theorem writeExchange_readCount (s : State) (j : Fin 3) (data : Word) :
    s.writeExchange (0x0D04 + 16 * j.val) data = s.moveReadCount j data := by
  have := j.isLt
  have hdiv : (0x0D04 + 16 * j.val - 0x0D00) / 16 = j.val := by omega
  have hj : Fin.ofNat 3 j.val = j := Fin.ext (Nat.mod_eq_of_lt j.isLt)
  unfold State.writeExchange
  rw [if_neg (by omega), if_neg (by omega), if_neg (by omega), if_pos (by omega), if_pos (by omega), hdiv, hj]

/-- The meaning of a full aligned word write in its window (R2, R3). -/
def State.writeWindow (s : State) (w : Window) (a : Nat) (data : Word) : State :=
  match w with
  | .exchange => s.writeExchange a data
  | .control => s.writeControl a data

/-- A full aligned word write is the meaning of its window while HRST is not asserted (R1). -/
theorem hostWrite_word (s : State) (w : Window) (a : Nat) (ha : a % 4 = 0) (data : Word) :
    s.hostWrite w a 0xF data =
      s.whenOpen fun u => u.writeWindow w a data := by
  unfold State.hostWrite State.whenOpen
  have hgood : ¬ (a % 4 ≠ 0 ∨ (0xF : BitVec 4) ≠ 0xF) := by simp [ha]
  rw [if_neg hgood]
  cases w <;> rfl

theorem exec_hostWrite_inside (s : State) (w : Window) (a : Nat) (lanes : BitVec 4) (data : Word) (ha : a < windowSize w) :
    exec (.hostWrite w a lanes data) s = takeEvent s fun u => u.hostWrite w a lanes data := if_neg (Nat.not_le.mpr ha)

theorem exec_hostWrite_row (s : State) (w : Window) (a : Nat) (data : Word) (f : State → State) (ha : a % 4 = 0)
    (hsize : a < windowSize w)
    (hf : ∀ u : State, u.writeWindow w a data = f u) :
    exec (.hostWrite w a 0xF data) s = takeEvent s fun u => u.whenOpen f := by
  rw [exec_hostWrite_inside s w a _ data hsize]
  congr 1
  funext u
  rw [hostWrite_word u w a ha data]
  congr 1
  funext v
  exact hf v

/-- Settles O21: each row by the meaning of its word. -/
theorem hostWriteReachesRows : Obligations.HostWriteReachesRows := by
  unfold Obligations.HostWriteReachesRows
  intro s data
  have hsize (a : Nat) (ha : a < 0x110) : a < windowSize .control := Nat.lt_of_lt_of_le ha (by decide)
  refine ⟨fun n => ?_, fun n => ?_, ?_, ?_, fun j => ?_⟩
  · exact exec_hostWrite_row s .control _ data _ (by omega) (hsize _ (by omega)) fun u => writeControl_post u n data
  · exact exec_hostWrite_row s .control _ data _ (by omega) (hsize _ (by omega)) fun u => writeControl_release u n data
  · exact exec_hostWrite_row s .control _ data _ (by decide) (hsize _ (by decide)) fun u => rfl
  · exact exec_hostWrite_row s .control _ data _ (by decide) (hsize _ (by decide)) fun u => rfl
  · refine exec_hostWrite_row s .exchange _ data _ (by omega) ?_ fun u => writeExchange_readCount u j data
    have := j.isLt
    exact Nat.lt_of_lt_of_le (by omega : 0x0D04 + 16 * j.val < 0x1000) (by decide)

/-! ## Attention -/

/-- The lowest bit found is set, and no lower one is; none is found exactly when none is set. -/
theorem lowestBit_spec (w : BitVec 10) (k n : Nat) :
    ((∀ i, k ≤ i → i < k + n → w.getLsbD i = false) ∧ lowestBit w k n = 31) ∨
      (k ≤ lowestBit w k n ∧ lowestBit w k n < k + n ∧ w.getLsbD (lowestBit w k n) = true ∧
        ∀ i, k ≤ i → i < lowestBit w k n → w.getLsbD i = false) := by
  induction n generalizing k with
  | zero => exact .inl ⟨fun i hlo hhi => by omega, rfl⟩
  | succ n ih =>
    unfold lowestBit
    split
    · next hset => exact .inr ⟨le_rfl, by omega, hset, fun i hlo hhi => by omega⟩
    · next hclear =>
      have hk (i : Nat) (hlo : k ≤ i) : i = k ∨ k + 1 ≤ i := by omega
      rcases ih (k + 1) with ⟨hnone, hvalue⟩ | ⟨hlo, hhi, hset, hlower⟩
      · refine .inl ⟨fun i hi hin => ?_, hvalue⟩
        rcases hk i hi with rfl | hi
        · exact eq_false_of_ne_true hclear
        · exact hnone i hi (by omega)
      · refine .inr ⟨by omega, by omega, hset, fun i hi hin => ?_⟩
        rcases hk i hi with rfl | hi
        · exact eq_false_of_ne_true hclear
        · exact hlower i hi hin

theorem attnLine_iff (s : State) :
    s.attnLine = true ↔ ∃ i, i < 10 ∧ s.port.attnLatch.getLsbD i = true ∧ s.port.attnMask.getLsbD i = true := by
  rw [State.attnLine, decide_eq_true_eq]
  constructor
  · intro hne
    by_contra hnone
    refine hne (BitVec.eq_of_getLsbD_eq fun i hi => ?_)
    rw [BitVec.getLsbD_and]
    by_contra hset
    simp only [BitVec.ofNat_eq_ofNat, BitVec.getLsbD_zero, Bool.not_eq_false, Bool.and_eq_true] at hset
    exact hnone ⟨i, hi, hset⟩
  · rintro ⟨i, -, hlatch, hmask⟩ hzero
    have : (s.port.attnLatch &&& s.port.attnMask).getLsbD i = true := by rw [BitVec.getLsbD_and, hlatch, hmask]; rfl
    rw [hzero] at this
    simp at this

theorem attnTop_of_line (s : State) (h : s.attnLine = true) :
    s.attnTop < 10 ∧ s.port.attnLatch.getLsbD s.attnTop = true ∧ s.port.attnMask.getLsbD s.attnTop = true ∧
      ∀ i, i < s.attnTop → ¬ (s.port.attnLatch.getLsbD i = true ∧ s.port.attnMask.getLsbD i = true) := by
  obtain ⟨i, hi, hset⟩ := (attnLine_iff s).mp h
  rcases lowestBit_spec (s.port.attnLatch &&& s.port.attnMask) 0 10 with ⟨hnone, -⟩ | ⟨-, hlt, htop, hlower⟩
  · have := hnone i (Nat.zero_le _) (by omega)
    rw [BitVec.getLsbD_and, hset.1, hset.2] at this
    cases this
  · rw [BitVec.getLsbD_and, Bool.and_eq_true] at htop
    refine ⟨by unfold State.attnTop; omega, htop.1, htop.2, fun k hk hboth => ?_⟩
    have := hlower k (Nat.zero_le _) hk
    rw [BitVec.getLsbD_and, hboth.1, hboth.2] at this
    cases this

theorem attnTop_of_quiet (s : State) (h : s.attnLine = false) : s.attnTop = 31 := by
  have hzero : s.port.attnLatch &&& s.port.attnMask = 0 := by simpa [State.attnLine] using h
  unfold State.attnTop
  rw [hzero]
  decide

theorem whenOpen_open (s : State) (f : State → State) (hh : s.port.hrst = false) : s.whenOpen f = f s :=
  if_neg (by rw [hh]; decide)

/-- Settles O26: the three commands change the port unit only. -/
theorem attention : Obligations.Attention := by
  unfold Obligations.Attention
  refine ⟨fun s data hs => ⟨?_, fun hh => ⟨?_, ?_⟩⟩, fun s => ⟨attnLine_iff s, attnTop_of_quiet s, attnTop_of_line s⟩⟩
  · exact takeEvent_unseen s _ hs hs rfl
  · refine (takeEvent_unseen s _ hs ?_ ?_).trans (congrArg _ ?_) <;> rw [whenOpen_open s _ hh]
    · exact hs
    · rfl
    · rfl
  · exact takeEvent_port s _ _ hs (whenOpen_open s _ hh) hs.2

/-- The quiet timer's expiry at its unit: the timer stops, and a record in the Input Journal latches INPUT (R19). -/
theorem quietExpired_eq (s : State) (e : PartTime) :
    s.atExpiry (some e) (fun u =>
      let u := u.updJournal fun x => { x with quiet := none }
      if 0 < u.used inputJournal then u.latch .input else u) =
      { s with
        now := (s.reach e).now
        journal := { s.journal with quiet := none }
        port := { s.port with
                  attnLatch := if 0 < s.used inputJournal then s.port.attnLatch ||| Cause.input.mask
                               else s.port.attnLatch } } := by
  unfold State.atExpiry
  dsimp only
  rw [reach_frame]
  by_cases hused : 0 < s.used inputJournal
  · rw [if_pos hused]
    exact if_pos hused
  · rw [if_neg hused]
    exact if_neg hused

/-- Settles O27: the timer's event alone. -/
theorem inputQuietFlush : Obligations.InputQuietFlush := by
  unfold Obligations.InputQuietFlush
  intro s e hs he
  rw [← quietExpired_eq s e, ← he]
  refine takeEvent_unseen s _ hs ?_ ?_ <;> dsimp only <;> rw [he, quietExpired_eq]
  · exact hs
  · rfl

end Sys2Proof.Machine
end

section
/-! What a record written with room leaves, the rows of R20's table, and read counts moved by the host. -/

namespace Sys2Proof.Machine

set_option Elab.async false

/-! ## Reading memory through a write elsewhere -/

theorem getLE_congr (m m' : Memory) (a n : Nat) (h : ∀ b, a ≤ b → b < a + n → m'.get b = m.get b) :
    m'.getLE a n = m.getLE a n := by
  induction n generalizing a with
  | zero => rfl
  | succ n ih =>
    rw [Memory.getLE, Memory.getLE, h a le_rfl (by omega), ih (a + 1) fun b hlo hhi => h b (by omega) (by omega)]

theorem noticeAt_congr {s t : State} {w : Half} {time : PartTime} {kind : NoticeKind} {cause old new arg : Nat}
    (hmem : ∀ b, noticePlace w ≤ b → b < noticePlace w + 16 → t.mem.get b = s.mem.get b)
    (h : s.noticeAt w time kind cause old new arg) : t.noticeAt w time kind cause old new arg := by
  have field (a n : Nat) (hlo : noticePlace w ≤ a) (hhi : a + n ≤ noticePlace w + 16) : t.mem.getLE a n = s.mem.getLE a n :=
    getLE_congr _ _ _ _ fun b hb hbn => hmem b (by omega) (by omega)
  unfold State.noticeAt at h ⊢
  rwa [field _ 4 (by omega) (by omega), field _ 2 (by omega) (by omega), field _ 1 (by omega) (by omega),
    field _ 1 (by omega) (by omega), field _ 1 (by omega) (by omega), field _ 1 (by omega) (by omega),
    field _ 2 (by omega) (by omega), field _ 4 (by omega) (by omega)]

/-! ## A record written with room -/

/-- A journal after one more record (R16). -/
def Journal.advanced (j : Fin 3) (q : Journal) : Journal := Journal.refresh j { q with writeCount := q.writeCount + 1 }

theorem used_advanced (j : Fin 3) (q : Journal) (h : q.used < journalCapacity j) : (q.advanced j).used = q.used + 1 := by
  have hcapacity := journalCapacity_le j
  have hw := q.writeCount.isLt
  have hr := q.readCount.isLt
  have hone : (1 : Half).toNat = 1 := rfl
  have hused : q.used = (2 ^ 16 - q.readCount.toNat + q.writeCount.toNat) % 2 ^ 16 := BitVec.toNat_sub _ _
  have hafter : (q.advanced j).used = (2 ^ 16 - q.readCount.toNat + (q.writeCount + 1).toNat) % 2 ^ 16 := BitVec.toNat_sub _ _
  rw [BitVec.toNat_add, hone] at hafter
  omega

theorem advanced_eq (j : Fin 3) (q : Journal) (h : q.used < journalCapacity j) :
    q.advanced j = { q with writeCount := q.writeCount + 1, full := q.used + 1 == journalCapacity j } := by
  have hused : (q.advanced j).used = ({ q with writeCount := q.writeCount + 1 } : Journal).used := rfl
  rw [used_advanced j q h] at hused
  unfold Journal.advanced Journal.refresh
  rw [← hused]

/-- The causes latched once a record stands in a journal: its own, from the watermark on (R21). -/
def State.recordLatch (s : State) (j : Fin 3) : BitVec 10 :=
  if s.watermark j ≤ s.used j + 1 then s.port.attnLatch ||| (journalCause j).mask else s.port.attnLatch

/-- A record written with room, whole (R16, R21). -/
theorem writeRecord_eq (s : State) (j : Fin 3) (bytes : List Byte) (h : s.used j < journalCapacity j) :
    s.writeRecord j bytes =
      { s with
        mem := s.mem.putBytes (journalBase j + recordSize j * ((s.journalOf j).writeCount.toNat % journalCapacity j)) bytes
        journal := { s.journal with journals := s.journal.journals.set j ((s.journalOf j).advanced j) }
        port := { s.port with attnLatch := s.recordLatch j } } := by
  have hused (m : Memory) : ((s.setMem m).updJournalOf j (Journal.advanced j)).used j = s.used j + 1 := by
    rw [State.used, journalOf_updJournalOf_same]
    exact used_advanced j _ h
  unfold State.writeRecord State.recordLatch
  rw [if_pos h]
  dsimp only
  by_cases hmark : s.watermark j ≤ s.used j + 1
  · rw [if_pos hmark]
    exact if_pos (hmark.trans_eq (hused _).symm)
  · rw [if_neg hmark]
    exact if_neg fun hle => hmark (hle.trans_eq (hused _))

theorem capacity_notice : journalCapacity noticeJournal = 128 := rfl

theorem notice_place (w : Half) :
    journalBase noticeJournal + recordSize noticeJournal * (w.toNat % journalCapacity noticeJournal) = noticePlace w := rfl

/-- A Notice record written with room, whole (R20). -/
theorem writeNotice_eq (s : State) (kind : NoticeKind) (cause old new arg : Nat) (h : s.used noticeJournal < 128) :
    s.writeNotice kind cause old new arg =
      { s with
        mem := s.mem.putBytes (noticePlace (s.journalOf noticeJournal).writeCount) (s.noticeBytes kind cause old new arg)
        journal := { s.journal with
                     journals := s.journal.journals.set noticeJournal ((s.journalOf noticeJournal).advanced noticeJournal) }
        port := { s.port with attnLatch := s.recordLatch noticeJournal } } := by
  rw [State.writeNotice, writeRecord_eq s noticeJournal _ (capacity_notice ▸ h), notice_place]

theorem length_noticeBytes (s : State) (kind : NoticeKind) (cause old new arg : Nat) :
    (s.noticeBytes kind cause old new arg).length = 16 := by
  simp [State.noticeBytes, length_bytesLE]

/-- The record stands at its place and reads as it was given; every other byte stands. -/
theorem writeNotice_reads (s : State) (kind : NoticeKind) (cause old new arg : Nat) (hm : MemoryCanonical s)
    (h : s.used noticeJournal < 128) (hcause : cause < 256) (hold : old < 256) (hnew : new < 256) (harg : arg < 2 ^ 32) :
    (s.writeNotice kind cause old new arg).noticeAt (s.journalOf noticeJournal).writeCount s.now kind cause old new arg ∧
      ∀ a, a < noticePlace (s.journalOf noticeJournal).writeCount ∨
          noticePlace (s.journalOf noticeJournal).writeCount + 16 ≤ a →
        (s.writeNotice kind cause old new arg).mem.get a = s.mem.get a := by
  have hrecord := holdsRecord_putBytes s.mem hm (noticePlace (s.journalOf noticeJournal).writeCount) _
    (noticeFields_fit s kind cause old new arg hcause hold hnew harg)
  rw [← noticeBytes_eq] at hrecord
  obtain ⟨htime, hseq, hkind, hcause', hold', hnew', hpad, harg', -⟩ := hrecord
  have hmem := congrArg State.mem (writeNotice_eq s kind cause old new arg h)
  dsimp only at hmem
  unfold State.noticeAt
  rw [hmem]
  refine ⟨⟨htime, hseq, hkind, hcause', hold', hnew', hpad, harg'⟩, fun a ha => ?_⟩
  refine Memory.get_putBytes_ne _ hm _ _ _ ?_
  rw [length_noticeBytes]
  exact ha

theorem noticePlace_ne (w : Half) : noticePlace (w + 1) + 16 ≤ noticePlace w ∨ noticePlace w + 16 ≤ noticePlace (w + 1) := by
  have hone : (1 : Half).toNat = 1 := rfl
  unfold noticePlace
  rw [BitVec.toNat_add, hone]
  omega

/-! ## The rows of R20's table -/

theorem room_notice (s : State) : s.room noticeJournal = 128 - s.used noticeJournal := rfl

theorem bump_countUp (n : Nat) : bump 65535 n = countUp n := rfl

theorem countDrop_journal (s : State) :
    (s.countDrop noticeJournal).journalOf noticeJournal =
      { s.journalOf noticeJournal with drops := countUp (s.journalOf noticeJournal).drops } :=
  journalOf_updJournalOf_same _ _ _

/-- With room and no gap the notice is written. -/
theorem offerNotice_room (s : State) (kind : NoticeKind) (cause old new arg : Nat) (hgap : s.journal.gap = 0)
    (hroom : 1 ≤ s.room noticeJournal) : s.offerNotice kind cause old new arg = s.writeNotice kind cause old new arg := by
  simp only [State.offerNotice, hgap, hroom, if_true]

/-- Without room the first lost notice begins the gap. -/
theorem offerNotice_lost (s : State) (kind : NoticeKind) (cause old new arg : Nat) (hgap : s.journal.gap = 0)
    (hroom : s.room noticeJournal = 0) :
    s.offerNotice kind cause old new arg = (s.countDrop noticeJournal).setGap 1 := by
  have hnone : ¬ 1 ≤ 0 := by decide
  simp only [State.offerNotice, hgap, hroom, hnone, if_true, if_false]

/-- With a gap and room for two the GAP notice is written, then the notice. -/
theorem offerNotice_gap (s : State) (kind : NoticeKind) (cause old new arg : Nat) (hgap : 0 < s.journal.gap)
    (hroom : 2 ≤ s.room noticeJournal) :
    s.offerNotice kind cause old new arg = (s.writeGap.setGap 0).writeNotice kind cause old new arg := by
  simp only [State.offerNotice, hgap.ne', hroom, if_true, if_false]

/-- With a gap and room for one the GAP notice is written and the notice begins another gap. -/
theorem offerNotice_gap_lost (s : State) (kind : NoticeKind) (cause old new arg : Nat) (hgap : 0 < s.journal.gap)
    (hroom : s.room noticeJournal = 1) :
    s.offerNotice kind cause old new arg = (s.writeGap.countDrop noticeJournal).setGap 1 := by
  have htwo : ¬ 2 ≤ 1 := by decide
  simp only [State.offerNotice, hgap.ne', hroom, htwo, if_true, if_false]

/-- With a gap and no room the gap grows. -/
theorem offerNotice_full (s : State) (kind : NoticeKind) (cause old new arg : Nat) (hgap : 0 < s.journal.gap)
    (hroom : s.room noticeJournal = 0) :
    s.offerNotice kind cause old new arg = (s.countDrop noticeJournal).setGap (countUp s.journal.gap) := by
  have htwo : ¬ 2 ≤ 0 := by decide
  simp only [State.offerNotice, hgap.ne', hroom, htwo, if_false, Nat.zero_ne_one]
  rfl

end Sys2Proof.Machine
end

section
/-! Notices offered (R20, R21). -/

namespace Sys2Proof.Machine

set_option Elab.async false

/-- What an offer leaves, given how many records it writes and whether the notice is lost: the Notice Journal's counts, the
latched causes, and every byte but the records' (R16, R20, R21). -/
def State.offered (s t : State) (written : Nat) (lost : Bool) : Prop :=
  t.journalOf noticeJournal =
      { s.journalOf noticeJournal with
        writeCount := (s.journalOf noticeJournal).writeCount + BitVec.ofNat 16 written
        drops := if lost then countUp (s.journalOf noticeJournal).drops else (s.journalOf noticeJournal).drops
        full := if written = 0 then (s.journalOf noticeJournal).full else s.used noticeJournal + written == 128 } ∧
    t.port = { s.port with
               attnLatch := if written ≠ 0 ∧ s.settings.active.noticeWatermark ≤ s.used noticeJournal + written then
                   s.port.attnLatch ||| Cause.notice.mask
                 else s.port.attnLatch } ∧
    (∀ k, k ≠ noticeJournal → t.journalOf k = s.journalOf k) ∧ t.journal.quiet = s.journal.quiet ∧
    t = { s with mem := t.mem, port := t.port, journal := t.journal } ∧
    ∀ a, (∀ i, i < written → let place := noticePlace ((s.journalOf noticeJournal).writeCount + BitVec.ofNat 16 i)
        a < place ∨ place + 16 ≤ a) → t.mem.get a = s.mem.get a

theorem journalOf_set_same (u : JournalUnit) (q : Journal) : (u.journals.set noticeJournal q)[noticeJournal] = q := by simp

theorem journalOf_set_ne (u : JournalUnit) (q : Journal) (k : Fin 3) (hk : k ≠ noticeJournal) :
    (u.journals.set noticeJournal q)[k] = u.journals[k] := by
  have hval : (noticeJournal : Nat) ≠ k := fun e => hk (Fin.ext e.symm)
  simp [hval]

theorem recordLatch_notice (s : State) :
    s.recordLatch noticeJournal = if s.settings.active.noticeWatermark ≤ s.used noticeJournal + 1 then
      s.port.attnLatch ||| Cause.notice.mask else s.port.attnLatch := rfl

/-- A lost notice is counted as a drop and nothing is written. -/
theorem offered_drop (s : State) (gap : Nat) : s.offered ((s.countDrop noticeJournal).setGap gap) 0 true := by
  refine ⟨?_, ?_, fun k hk => journalOf_set_ne _ _ k hk, rfl, rfl, fun _ _ => rfl⟩
  · show (s.countDrop noticeJournal).journalOf noticeJournal = _
    rw [countDrop_journal]
    simp
  · simp only [ne_eq, not_true_eq_false, false_and, if_false]
    rfl

theorem setGap_mem (s : State) (gap : Nat) : (s.setGap gap).mem = s.mem := rfl

/-- A notice written with room, and a gap count. -/
theorem offered_write (s : State) (kind : NoticeKind) (cause old new arg gap : Nat) (hm : MemoryCanonical s)
    (h : s.used noticeJournal < 128) (hcause : cause < 256) (hold : old < 256) (hnew : new < 256) (harg : arg < 2 ^ 32) :
    s.offered ((s.writeNotice kind cause old new arg).setGap gap) 1 false := by
  have hmem := (writeNotice_reads s kind cause old new arg hm h hcause hold hnew harg).2
  have hone (w : Half) : w + BitVec.ofNat 16 0 = w := BitVec.add_zero w
  rw [← setGap_mem (s.writeNotice kind cause old new arg) gap] at hmem
  rw [writeNotice_eq s kind cause old new arg h] at hmem ⊢
  have hothers (k : Fin 3) (hk : k ≠ noticeJournal) := journalOf_set_ne s.journal
    ((s.journalOf noticeJournal).advanced noticeJournal) k hk
  refine ⟨?_, ?_, hothers, rfl, rfl, fun a ha => hmem a ?_⟩
  · show (s.journal.journals.set noticeJournal _)[noticeJournal] = _
    rw [journalOf_set_same, advanced_eq _ _ (capacity_notice ▸ h)]
    simp [capacity_notice, State.used]
  · simp only [ne_eq, Nat.one_ne_zero, not_false_eq_true, true_and, recordLatch_notice]
    rfl
  · have := ha 0 Nat.one_pos
    rwa [hone] at this

theorem offered_used {s u : State} (hu : s.offered u 1 false) (h : s.used noticeJournal < 128) :
    u.used noticeJournal = s.used noticeJournal + 1 := by
  have hused := used_advanced noticeJournal (s.journalOf noticeJournal) (capacity_notice ▸ h)
  have hcount : (u.journalOf noticeJournal).writeCount = ((s.journalOf noticeJournal).advanced noticeJournal).writeCount := by
    rw [hu.1]
    rfl
  have hread : (u.journalOf noticeJournal).readCount = ((s.journalOf noticeJournal).advanced noticeJournal).readCount := by
    rw [hu.1]
    rfl
  have hsame : (u.journalOf noticeJournal).used = ((s.journalOf noticeJournal).advanced noticeJournal).used := by
    rw [Journal.used, Journal.used, hcount, hread]
  exact hsame.trans hused

theorem latched_twice (l m : BitVec 10) (a b : Nat) (hb : b = a + 1) (mark : Nat) :
    (if mark ≤ b then (if mark ≤ a then l ||| m else l) ||| m else if mark ≤ a then l ||| m else l) =
      if mark ≤ b then l ||| m else l := by
  by_cases ha : mark ≤ a
  · rw [if_pos ha, if_pos (by omega), if_pos (by omega), BitVec.or_assoc, BitVec.or_self]
  · simp only [if_neg ha]

/-- A record and then at most one more, lost or written. -/
theorem offered_trans {s u t : State} {w : Nat} {lost : Bool} (hu : s.offered u 1 false) (ht : u.offered t w lost)
    (hw : w ≤ 1) (h : s.used noticeJournal < 128) : s.offered t (1 + w) lost := by
  have hused := offered_used hu h
  obtain ⟨uq, uport, uother, uquiet, uframe, umem⟩ := hu
  obtain ⟨tq, tport, tother, tquiet, tframe, tmem⟩ := ht
  have hsettings : u.settings = s.settings := by rw [uframe]
  have hplace (i : Nat) : (s.journalOf noticeJournal).writeCount + BitVec.ofNat 16 (i + 1) =
      (u.journalOf noticeJournal).writeCount + BitVec.ofNat 16 i := by
    rw [uq, BitVec.ofNat_add, BitVec.add_comm (BitVec.ofNat 16 i), ← BitVec.add_assoc]
  refine ⟨?_, ?_, fun k hk => (tother k hk).trans (uother k hk), tquiet.trans uquiet, ?_, fun a ha => ?_⟩
  · rw [tq, uq, hused, Nat.add_comm 1 w]
    have hcount := hplace w
    rw [uq] at hcount
    rw [hcount]
    obtain rfl | rfl : w = 0 ∨ w = 1 := by omega
    · simp
    · simp
  · rw [tport, uport, hused, hsettings]
    obtain rfl | rfl : w = 0 ∨ w = 1 := by omega
    · simp
    · have htwice := latched_twice s.port.attnLatch Cause.notice.mask (s.used noticeJournal + 1)
        (s.used noticeJournal + 2) rfl s.settings.active.noticeWatermark
      simp only [ne_eq, Nat.one_ne_zero, not_false_eq_true, true_and, Nat.add_assoc, Nat.reduceAdd, OfNat.ofNat_ne_zero,
        htwice]
  · rw [tframe, uframe]
  · refine (tmem a fun i hi => ?_).trans (umem a fun i hi => ha i (by omega))
    have := ha (i + 1) (by omega)
    rwa [hplace] at this

theorem used_of_room (s : State) (h : 1 ≤ s.room noticeJournal) : s.used noticeJournal < 128 := by
  rw [room_notice] at h
  omega

theorem writeNotice_gap (s : State) (kind : NoticeKind) (cause old new arg : Nat) (h : s.used noticeJournal < 128) :
    (s.writeNotice kind cause old new arg).journal.gap = s.journal.gap := by
  rw [writeNotice_eq s kind cause old new arg h]

theorem writeNotice_setGap (s : State) (kind : NoticeKind) (cause old new arg : Nat) (h : s.used noticeJournal < 128) :
    (s.writeNotice kind cause old new arg).setGap s.journal.gap = s.writeNotice kind cause old new arg := by
  rw [writeNotice_eq s kind cause old new arg h]
  rfl

theorem offered_notice (s : State) (kind : NoticeKind) (cause old new arg : Nat) (hm : MemoryCanonical s)
    (h : s.used noticeJournal < 128) (hcause : cause < 256) (hold : old < 256) (hnew : new < 256) (harg : arg < 2 ^ 32) :
    s.offered (s.writeNotice kind cause old new arg) 1 false := by
  have hwritten := offered_write s kind cause old new arg s.journal.gap hm h hcause hold hnew harg
  rwa [writeNotice_setGap s _ _ _ _ _ h] at hwritten

/-- The GAP notice, written with room. -/
theorem offered_writeGap (s : State) (gap : Nat) (hm : MemoryCanonical s) (h : s.used noticeJournal < 128)
    (hgap : s.journal.gap ≤ 65535) : s.offered (s.writeGap.setGap gap) 1 false :=
  offered_write s .gap 0 0 0 s.journal.gap gap hm h (by decide) (by decide) (by decide) (by omega)

theorem writeGap_reads (s : State) (hm : MemoryCanonical s) (h : s.used noticeJournal < 128) (hgap : s.journal.gap ≤ 65535) :
    s.writeGap.noticeAt (s.journalOf noticeJournal).writeCount s.now .gap 0 0 0 s.journal.gap :=
  (writeNotice_reads s .gap 0 0 0 s.journal.gap hm h (by decide) (by decide) (by decide) (by omega)).1

section
variable (s : State) (kind : NoticeKind) (cause old new arg : Nat) (hm : MemoryCanonical s) (hcause : cause < 256)
  (hold : old < 256) (hnew : new < 256) (harg : arg < 2 ^ 32) (hgap : s.journal.gap ≤ 65535)
include hm hcause hold hnew harg hgap

/-- The GAP notice and then the notice, both written. -/
theorem offered_gap (hroom : 2 ≤ s.room noticeJournal) :
    s.offered ((s.writeGap.setGap 0).writeNotice kind cause old new arg) 2 false ∧
      ((s.writeGap.setGap 0).writeNotice kind cause old new arg).noticeAt (s.journalOf noticeJournal).writeCount s.now .gap 0 0
        0 s.journal.gap ∧
      ((s.writeGap.setGap 0).writeNotice kind cause old new arg).noticeAt ((s.journalOf noticeJournal).writeCount + 1) s.now
        kind cause old new arg := by
  have hused := used_of_room s (by omega)
  have hfirst := offered_writeGap s 0 hm hused hgap
  have hfirstAt := writeGap_reads s hm hused hgap
  have hwf : MemoryCanonical (s.writeGap.setGap 0) := (Moves.refl .served s).writeGap.keeps.canonical hm
  have hnow : (s.writeGap.setGap 0).now = s.now := by rw [hfirst.2.2.2.2.1]
  have hcount : ((s.writeGap.setGap 0).journalOf noticeJournal).writeCount = (s.journalOf noticeJournal).writeCount + 1 := by
    rw [hfirst.1]
    rfl
  have hused' : (s.writeGap.setGap 0).used noticeJournal < 128 := by
    rw [offered_used hfirst hused]
    rw [room_notice] at hroom
    omega
  obtain ⟨hsecondAt, hmem⟩ := writeNotice_reads _ kind cause old new arg hwf hused' hcause hold hnew harg
  have hsecond := offered_notice _ kind cause old new arg hwf hused' hcause hold hnew harg
  refine ⟨offered_trans hfirst hsecond le_rfl hused, noticeAt_congr (fun b hlo hhi => hmem b ?_) hfirstAt, ?_⟩
  · rw [hcount]
    have := noticePlace_ne (s.journalOf noticeJournal).writeCount
    omega
  · rw [hcount, hnow] at hsecondAt
    exact hsecondAt

/-- What an offer leaves, by the gap and the room (R20). -/
theorem offerNotice_offered :
    s.offered (s.offerNotice kind cause old new arg) (min (s.room noticeJournal) (if s.journal.gap = 0 then 1 else 2))
      (decide (s.room noticeJournal = 0 ∨ 0 < s.journal.gap ∧ s.room noticeJournal = 1)) := by
  rcases Nat.eq_zero_or_pos s.journal.gap with hzero | hpos
  · rw [if_pos hzero]
    rcases Nat.eq_zero_or_pos (s.room noticeJournal) with hfull | hroom
    · rw [offerNotice_lost s _ _ _ _ _ hzero hfull, hfull]
      exact offered_drop s 1
    · have hnot : ¬ (s.room noticeJournal = 0 ∨ 0 < s.journal.gap ∧ s.room noticeJournal = 1) := by omega
      rw [offerNotice_room s _ _ _ _ _ hzero hroom, Nat.min_eq_right hroom, decide_eq_false hnot]
      exact offered_notice s kind cause old new arg hm (used_of_room s hroom) hcause hold hnew harg
  · rw [if_neg hpos.ne']
    obtain hfull | hone | htwo : s.room noticeJournal = 0 ∨ s.room noticeJournal = 1 ∨ 2 ≤ s.room noticeJournal := by omega
    · rw [offerNotice_full s _ _ _ _ _ hpos hfull, hfull]
      exact offered_drop s _
    · have hused := used_of_room s hone.ge
      have hlost : s.room noticeJournal = 0 ∨ 0 < s.journal.gap ∧ s.room noticeJournal = 1 := .inr ⟨hpos, hone⟩
      rw [offerNotice_gap_lost s _ _ _ _ _ hpos hone, decide_eq_true hlost, hone]
      exact offered_trans (offered_writeGap s s.journal.gap hm hused hgap) (offered_drop _ 1) (Nat.zero_le 1) hused
    · have hnot : ¬ (s.room noticeJournal = 0 ∨ 0 < s.journal.gap ∧ s.room noticeJournal = 1) := by omega
      rw [offerNotice_gap s _ _ _ _ _ hpos htwo, decide_eq_false hnot, Nat.min_eq_right htwo]
      exact (offered_gap s kind cause old new arg hm hcause hold hnew harg hgap htwo).1

end

/-- Settles O23: the five rows of R20's table, each a record written or lost, after the GAP notice where a gap stands. -/
theorem noticeOffer : Obligations.NoticeOffer := by
  unfold Obligations.NoticeOffer
  intro s kind cause old new arg hm hcause hold hnew harg hgap
  obtain ⟨hjournal, hport, hothers, hquiet, hframe, hmem⟩ :=
    offerNotice_offered s kind cause old new arg hm hcause hold hnew harg hgap
  simp only [decide_eq_true_eq] at hjournal
  refine ⟨fun hzero hroom => ?_, fun hzero hroom => ?_, fun hpos hroom => ?_, fun hpos hroom => ?_, fun hpos hroom => ?_,
    hjournal, hport, hothers, hquiet, hframe, hmem⟩
  · have hused := used_of_room s hroom
    rw [offerNotice_room s _ _ _ _ _ hzero hroom]
    exact ⟨(writeNotice_reads s kind cause old new arg hm hused hcause hold hnew harg).1,
      (writeNotice_gap s _ _ _ _ _ hused).trans hzero⟩
  · rw [offerNotice_lost s _ _ _ _ _ hzero hroom]
    rfl
  · have hused := used_of_room s (by omega)
    have hused' : (s.writeGap.setGap 0).used noticeJournal < 128 := by
      rw [offered_used (offered_writeGap s 0 hm hused hgap) hused]
      rw [room_notice] at hroom
      omega
    obtain ⟨-, hgapAt, hnoticeAt⟩ := offered_gap s kind cause old new arg hm hcause hold hnew harg hgap hroom
    rw [offerNotice_gap s _ _ _ _ _ hpos hroom]
    exact ⟨hgapAt, hnoticeAt, writeNotice_gap _ _ _ _ _ _ hused'⟩
  · rw [offerNotice_gap_lost s _ _ _ _ _ hpos hroom]
    exact ⟨writeGap_reads s hm (used_of_room s hroom.ge) hgap, rfl⟩
  · rw [offerNotice_full s _ _ _ _ _ hpos hroom]
    rfl

end Sys2Proof.Machine
end

section
/-! Host writes taken and refused, read counts, POST and RELEASE. -/

namespace Sys2Proof.Machine

set_option Elab.async false

/-! ## Hand-ons carried one by one -/

/-- From s, k hand-ons carried one by one lead to t. -/
def Carried (k : Nat) (s t : State) : Prop := ∀ n, k ≤ n → runTasks n s = runTasks (n - k) t

theorem Carried.refl (s : State) : Carried 0 s s := fun _ _ => rfl

theorem Carried.trans {j k : Nat} {s t u : State} (h : Carried j s t) (h' : Carried k t u) : Carried (j + k) s u :=
  fun n hn => by rw [h n (by omega), h' (n - j) (by omega), Nat.sub_sub]

theorem Carried.front {s : State} {x : Task} {rest : List Task} (h : s.tasks = x :: rest) :
    Carried 1 s (doTask x (s.setTasks rest)) := fun n hn => runTasks_front n s x rest h hn

theorem Carried.front_eq {s t : State} {x : Task} {rest : List Task} (h : s.tasks = x :: rest)
    (ht : doTask x (s.setTasks rest) = t) : Carried 1 s t := ht ▸ Carried.front h

theorem Carried.done {k : Nat} {s t : State} (h : Carried k s t) (ht : t.tasks = []) (n : Nat) (hn : k ≤ n) :
    runTasks n s = t := (h n hn).trans (runTasks_done _ _ ht)

theorem event_between (s : State) (f : State → State) (hs : s.betweenEvents) :
    s.event f = ((runTasks Config.handOnLimit (f s)).setTasks []).closeBoard s := by
  unfold State.event
  rw [openEvent_self s hs.1 hs.2]

/-- An event whose hand-ons, carried one by one, lead to a state with none left. -/
theorem takeEvent_carried {s t : State} {f : State → State} {k : Nat} (hs : s.betweenEvents) (h : Carried k (f s) t)
    (ht : t.tasks = []) (hk : k ≤ 100 := by decide) : takeEvent s f = .next (t.closeBoard s) := by
  have hlimit : 100 ≤ Config.handOnLimit := by decide
  unfold takeEvent
  rw [event_between s f hs, h.done ht _ (hk.trans hlimit)]
  congr 2
  cases t
  cases ht
  rfl

/-- A hand-on that finds nothing to do. -/
theorem Carried.idle {s : State} {x : Task} {rest : List Task} (h : s.tasks = x :: rest)
    (hx : doTask x (s.setTasks rest) = s.setTasks rest) : Carried 1 s (s.setTasks rest) := hx ▸ Carried.front h

/-! ## Host writes -/

theorem recordError_eq (s : State) (kind : CaptureKind) (a : Nat) (w : Window) :
    s.recordError kind a w =
      { s with port := { s.port with attnLatch := s.port.attnLatch ||| Cause.accessError.mask
                                     capture := s.port.capture.after kind a w } } := rfl

theorem writeSlotWord_refused (s : State) (a : Nat) (data : Word)
    (h : s.slotState (Fin.ofNat 32 ((a - 0x0500) / 64)) ≠ .free ∧ s.slotState (Fin.ofNat 32 ((a - 0x0500) / 64)) ≠ .done) :
    s.writeSlotWord a data = s.recordError .slotBusy a .exchange := by
  unfold State.writeSlotWord
  split
  · next e => exact absurd e h.1
  · next e => exact absurd e h.2
  · rfl
  · rfl

theorem writeExchange_refused (s : State) (a : Nat) (data : Word) (kind : CaptureKind)
    (h : s.refusal .exchange a 0xF = some kind) (ha : a % 4 = 0) :
    s.writeExchange a data = s.recordError kind a .exchange := by
  have hgood : ¬ (a % 4 ≠ 0 ∨ (0xF : BitVec 4) ≠ 0xF) := by simp [ha]
  unfold State.refusal at h
  rw [if_neg hgood] at h
  dsimp only at h
  unfold State.writeExchange
  by_cases hboard : a < 0x0100
  · rw [if_pos hboard] at h ⊢
    cases h
    rfl
  rw [if_neg hboard] at h ⊢
  by_cases hsettings : a < 0x0500
  · rw [if_pos hsettings] at h ⊢
    split at h
    · next hlocked =>
      cases h
      rw [if_pos hlocked]
    · cases h
  rw [if_neg hsettings] at h ⊢
  by_cases hslots : a < 0x0D00
  · rw [if_pos hslots] at h ⊢
    have hbusy : s.slotState (Fin.ofNat 32 ((a - 0x0500) / 64)) ≠ .free ∧
        s.slotState (Fin.ofNat 32 ((a - 0x0500) / 64)) ≠ .done := by
      constructor <;> intro e <;> rw [e] at h <;> cases h
    rw [writeSlotWord_refused s a data hbusy]
    split at h <;> cases h <;> rfl
  rw [if_neg hslots] at h ⊢
  by_cases hcontrol : a < 0x0D30
  · rw [if_pos hcontrol] at h ⊢
    split at h
    · cases h
    · next hrow =>
      cases h
      rw [if_neg fun e => hrow e]
  rw [if_neg hcontrol] at h ⊢
  by_cases hgap : a < 0x0E00
  · rw [if_pos hgap] at h ⊢
    cases h
    rfl
  rw [if_neg hgap] at h ⊢
  by_cases hstaging : a < 0x1000
  · rw [if_pos hstaging] at h
    cases h
  rw [if_neg hstaging] at h ⊢
  by_cases hjournals : a < 0x3000
  · rw [if_pos hjournals] at h ⊢
    cases h
    rfl
  · rw [if_neg hjournals] at h ⊢
    cases h
    rfl

theorem writeControl_refused (s : State) (a : Nat) (data : Word) (h : 0x108 ≤ a) :
    s.writeControl a data = s.recordError .readOnly a .control := by
  unfold State.writeControl
  rw [if_neg (by omega), if_neg (by omega), if_neg (by omega)]

theorem hostWrite_refused (s : State) (w : Window) (a : Nat) (lanes : BitVec 4) (data : Word) (kind : CaptureKind)
    (hh : s.port.hrst = false) (h : s.refusal w a lanes = some kind) :
    s.hostWrite w a lanes data = s.recordError kind a w := by
  by_cases hbad : a % 4 ≠ 0 ∨ lanes ≠ 0xF
  · have hkind : CaptureKind.misaligned = kind := by
      unfold State.refusal at h
      rw [if_pos hbad] at h
      exact Option.some.inj h
    unfold State.hostWrite
    rw [if_neg (by rw [hh]; decide), if_pos hbad, hkind]
  · obtain ⟨ha, rfl⟩ := not_or.mp hbad |>.imp Decidable.not_not.mp Decidable.not_not.mp
    rw [hostWrite_word s w a ha data, whenOpen_open s _ hh]
    cases w with
    | exchange => exact writeExchange_refused s a data kind h ha
    | control =>
      unfold State.refusal at h
      rw [if_neg hbad] at h
      dsimp only at h
      split at h
      · next hro =>
        cases h
        exact writeControl_refused s a data hro
      · cases h

/-- Settles O20: the refusal is recorded, in an event of its own. -/
theorem refusedHostWrite : Obligations.RefusedHostWrite := by
  unfold Obligations.RefusedHostWrite
  intro s w offset lanes data kind hs hh hinside hrefused
  rw [exec_hostWrite_inside s w offset lanes data hinside]
  exact takeEvent_port s _ _ hs ((hostWrite_refused s w offset lanes data kind hh hrefused).trans (recordError_eq _ _ _ _)) hs.2

theorem takeEvent_mem (s : State) (f : State → State) (m : Memory) (hs : s.betweenEvents) (hf : f s = s.setMem m) :
    takeEvent s f = .next (s.setMem m) := by
  have := takeEvent_unseen s f hs (by rw [hf]; exact hs) (by rw [hf]; rfl)
  rwa [hf] at this

theorem getWord_putLE (m : Memory) (hm : m.wf = true) (a : Nat) (data : Word) :
    (m.putLE a 4 data.toNat).getWord a = data := by
  rw [Memory.getWord, Memory.getLE_putLE _ hm]
  refine BitVec.eq_of_toNat_eq ?_
  have := data.isLt
  rw [word, BitVec.toNat_ofNat]
  omega

theorem exec_store (s : State) (a : Nat) (data : Word) (m : Memory) (hs : s.betweenEvents) (hh : s.port.hrst = false)
    (ha : a % 4 = 0) (hsize : a < 0x4000) (hf : s.writeExchange a data = s.setMem m) :
    exec (.hostWrite .exchange a 0xF data) s = .next (s.setMem m) := by
  rw [exec_hostWrite_inside s .exchange a _ data hsize]
  refine takeEvent_mem s _ m hs ?_
  rw [hostWrite_word s _ a ha data, whenOpen_open s _ hh]
  exact hf

theorem writeExchange_store (s : State) (a : Nat) (data : Word)
    (h : 0x0100 ≤ a ∧ a < 0x0500 ∧ s.settings.locked = false ∨ 0x0E00 ≤ a ∧ a < 0x1000) :
    s.writeExchange a data = s.setMem (s.mem.putLE a 4 data.toNat) := by
  unfold State.writeExchange
  rcases h with ⟨hlo, hhi, hopen⟩ | ⟨hlo, hhi⟩
  · rw [if_neg (by omega), if_pos hhi, if_neg (by rw [hopen]; decide)]
    rfl
  · rw [if_neg (by omega), if_neg (by omega), if_neg (by omega), if_neg (by omega), if_neg (by omega), if_pos hhi]
    rfl

theorem writeExchange_slot (s : State) (n : Fin 32) (k : Fin 16) (data : Word)
    (h : s.slotState n = .free ∨ s.slotState n = .done) :
    s.writeExchange (slotBase n + 4 * k.val) data = s.setMem
      (if k.val = 0 then s.mem.putLE (slotBase n + 1) 3 (data.toNat / 256)
       else s.mem.putLE (slotBase n + 4 * k.val) 4 data.toNat) := by
  have hk := k.isLt
  have hbase := slotBase_le n
  have hlow : 0x0500 ≤ slotBase n := Nat.le_add_right _ _
  have hplace : (slotBase n + 4 * k.val - 0x0500) % 64 = 4 * k.val := by
    unfold slotBase
    omega
  have hstore : s.storeSlotWord (slotBase n + 4 * k.val) data = s.setMem
      (if k.val = 0 then s.mem.putLE (slotBase n + 1) 3 (data.toNat / 256)
       else s.mem.putLE (slotBase n + 4 * k.val) 4 data.toNat) := by
    unfold State.storeSlotWord
    rw [hplace]
    by_cases hzero : k.val = 0
    · rw [if_pos (by omega), if_pos hzero, hzero]
    · rw [if_neg (by omega), if_neg hzero]
      rfl
  unfold State.writeExchange
  rw [if_neg (by omega), if_neg (by omega), if_pos (by omega)]
  unfold State.writeSlotWord
  rw [slot_of_offset n _ (by omega)]
  rcases h with h | h <;> rw [h] <;> exact hstore

/-- Settles O19: the store of a word, whole or without the state byte. -/
theorem hostWriteStores : Obligations.HostWriteStores := by
  unfold Obligations.HostWriteStores
  refine ⟨fun s a data hs hh ha hregion => ?_, fun s n k data hs hh hstate => ?_⟩
  · obtain ⟨hbetween, hm⟩ := hs
    refine ⟨_, exec_store s a data _ hbetween hh ha (by omega) (writeExchange_store s a data hregion), rfl,
      getWord_putLE s.mem hm a data, fun b hb => Memory.get_putLE_ne _ hm _ _ _ _ hb⟩
  · obtain ⟨hbetween, hm⟩ := hs
    have hk := k.isLt
    have hbase := slotBase_le n
    have hdata := data.isLt
    refine ⟨_, exec_store s _ data _ hbetween hh (by unfold slotBase; omega) (by omega) (writeExchange_slot s n k data hstate),
      rfl, fun hne => ?_, fun hzero => ?_, fun b hb => ?_⟩ <;> dsimp only [State.setMem_mem]
    · rw [if_neg hne]
      exact getWord_putLE s.mem hm _ data
    · rw [if_pos hzero, Memory.getLE_putLE _ hm]
      omega
    · split
      · next hzero =>
        rw [hzero, if_pos rfl] at hb
        exact Memory.get_putLE_ne _ hm _ _ _ _ (by omega)
      · next hne =>
        rw [if_neg hne] at hb
        exact Memory.get_putLE_ne _ hm _ _ _ _ (by omega)

end Sys2Proof.Machine
end

section
/-! Read counts, POST and RELEASE. -/

namespace Sys2Proof.Machine

set_option Elab.async false

/-! ## Read counts (R17) -/

/-- The serving of an empty receive queue with nothing owed. -/
theorem serveReceiveQueue_idle (s : State) (hqueue : s.link.receiveQueue = []) (howed : s.link.owed = []) :
    s.serveReceiveQueue = s := by
  unfold State.serveReceiveQueue State.nextEntry
  rw [hqueue, howed]
  simp

theorem moveRead_valid (j : Fin 3) (q : Journal) (r : Half) (h : (q.writeCount - r).toNat ≤ journalCapacity j) :
    q.moveRead j r =
      { q with readCount := r, invalidCount := false, full := (q.writeCount - r).toNat == journalCapacity j } := if_pos h

theorem moveRead_invalid (j : Fin 3) (q : Journal) (r : Half) (h : ¬ (q.writeCount - r).toNat ≤ journalCapacity j) :
    q.moveRead j r = { q with readCount := q.writeCount, invalidCount := true, full := false } := by
  have hpos : ∀ j : Fin 3, (0 == journalCapacity j) = false := by decide
  have hfull : ((q.writeCount - q.writeCount).toNat == journalCapacity j) = false := by
    rw [BitVec.sub_self]
    exact hpos j
  unfold Journal.moveRead
  rw [if_neg h]
  unfold Journal.refresh Journal.used
  rw [← hfull]

/-- A journal's read count moved, with the misuse recorded where the count is not valid (R17). -/
def State.readMoved (s : State) (j : Fin 3) (r : Half) : State :=
  if ((s.journalOf j).writeCount - r).toNat ≤ journalCapacity j then s.updJournalOf j fun q => q.moveRead j r
  else (s.updJournalOf j fun q => q.moveRead j r).recordError .countInvalid (readCountOffset j) .exchange

theorem readMoved_valid (s : State) (j : Fin 3) (r : Half)
    (h : ((s.journalOf j).writeCount - r).toNat ≤ journalCapacity j) :
    s.readMoved j r = s.updJournalOf j fun q => q.moveRead j r := if_pos h

theorem readMoved_invalid (s : State) (j : Fin 3) (r : Half)
    (h : ¬ ((s.journalOf j).writeCount - r).toNat ≤ journalCapacity j) :
    s.readMoved j r = (s.updJournalOf j fun q => q.moveRead j r).recordError .countInvalid (readCountOffset j) .exchange :=
  if_neg h

theorem readMoved_frame (s : State) (j : Fin 3) (r : Half) :
    s.readMoved j r = { s with port := (s.readMoved j r).port
                               journal := { s.journal with journals := (s.readMoved j r).journal.journals } } := by
  unfold State.readMoved
  split <;> rfl

theorem recordError_journalOf (s : State) (kind : CaptureKind) (a : Nat) (w : Window) (k : Fin 3) :
    (s.recordError kind a w).journalOf k = s.journalOf k := rfl

theorem readMoved_journalOf (s : State) (j : Fin 3) (r : Half) :
    (s.readMoved j r).journalOf j = (s.journalOf j).moveRead j r := by
  unfold State.readMoved
  split
  · exact journalOf_updJournalOf_same _ _ _
  · rw [recordError_journalOf, journalOf_updJournalOf_same]

theorem readMoved_journalOf_ne (s : State) (j k : Fin 3) (r : Half) (hk : k ≠ j) :
    (s.readMoved j r).journalOf k = s.journalOf k := by
  unfold State.readMoved
  split
  · exact journalOf_updJournalOf_ne _ _ _ _ hk
  · rw [recordError_journalOf, journalOf_updJournalOf_ne _ _ _ _ hk]

/-- Without a gap to notice, a read-count event moves the count, and at most has the receive queue served. -/
theorem moveReadCount_eq (s : State) (j : Fin 3) (data : Word) (hgap : j = noticeJournal → s.journal.gap = 0) :
    s.moveReadCount j data =
      if j = inputJournal ∧ s.room j < (s.readMoved j (data.setWidth 16)).room inputJournal then
        (s.readMoved j (data.setWidth 16)).hand [.serveReceiveQueue]
      else s.readMoved j (data.setWidth 16) := by
  have hnone : ¬ (j = noticeJournal ∧ 0 < (s.readMoved j (data.setWidth 16)).journal.gap ∧
      1 ≤ (s.readMoved j (data.setWidth 16)).room noticeJournal) := by
    rintro ⟨hj, hpos, -⟩
    rw [readMoved_frame] at hpos
    exact absurd (hgap hj) hpos.ne'
  unfold State.moveReadCount
  simp only [decide_eq_true_eq]
  rw [← State.readMoved, if_neg hnone]

theorem readMoved_port (s : State) (j : Fin 3) (r : Half) :
    (s.readMoved j r).port =
      if ((s.journalOf j).writeCount - r).toNat ≤ journalCapacity j then s.port
      else { s.port with attnLatch := s.port.attnLatch ||| Cause.accessError.mask
                         capture := s.port.capture.after .countInvalid (readCountOffset j) .exchange } := by
  unfold State.readMoved
  split <;> rfl

/-- With nothing waiting for room the event comes to the count moved. -/
theorem moveReadCount_carried (s : State) (j : Fin 3) (data : Word) (hs : s.tasks = [])
    (hinput : j = inputJournal → s.link.receiveQueue = [] ∧ s.link.owed = [])
    (hgap : j = noticeJournal → s.journal.gap = 0) :
    ∃ k ≤ 1, Carried k (s.moveReadCount j data) (s.readMoved j (data.setWidth 16)) := by
  have hframe := readMoved_frame s j (data.setWidth 16)
  have htasks : (s.readMoved j (data.setWidth 16)).tasks = [] := by
    rw [hframe]
    exact hs
  have hback : ((s.readMoved j (data.setWidth 16)).hand [.serveReceiveQueue]).setTasks [] =
      s.readMoved j (data.setWidth 16) := by
    generalize s.readMoved j (data.setWidth 16) = u at htasks
    cases u
    cases htasks
    rfl
  rw [moveReadCount_eq s j data hgap]
  split
  · next hmore =>
    obtain ⟨hqueue, howed⟩ := hinput hmore.1
    refine ⟨1, le_rfl, Carried.front_eq (x := .serveReceiveQueue) (rest := []) ?_ ?_⟩
    · show [Task.serveReceiveQueue] ++ _ = _
      rw [htasks]
      rfl
    · rw [hback]
      refine serveReceiveQueue_idle _ ?_ ?_ <;> rw [hframe]
      · exact hqueue
      · exact howed
  · exact ⟨0, Nat.zero_le _, Carried.refl _⟩

theorem exec_readCount (s t : State) (j : Fin 3) (data : Word) (hs : s.betweenEvents) (hh : s.port.hrst = false) (k : Nat)
    (hk : k ≤ 1) (h : Carried k (s.moveReadCount j data) t) (ht : t.tasks = []) :
    exec (.readCountWrite j data) s = .next (t.closeBoard s) := by
  refine takeEvent_carried hs ?_ ht (hk.trans (by decide))
  rwa [whenOpen_open s _ hh]

/-- Without a gap the count is moved, and that is all. -/
theorem readCountWrite_moved (s : State) (j : Fin 3) (data : Word) (hs : s.sound) (hh : s.port.hrst = false)
    (hinput : j = inputJournal → s.link.receiveQueue = [] ∧ s.link.owed = [])
    (hgap : j = noticeJournal → s.journal.gap = 0) :
    exec (.readCountWrite j data) s = .next ((s.readMoved j (data.setWidth 16)).closeBoard s) := by
  obtain ⟨k, hk, hcarried⟩ := moveReadCount_carried s j data hs.1.1 hinput hgap
  refine exec_readCount s _ j data hs.1 hh k hk hcarried ?_
  rw [readMoved_frame]
  exact hs.1.1

theorem readCountOffset_eq (j : Fin 3) : readCountOffset j = 0x0D04 + 16 * j.val := by
  unfold readCountOffset
  omega

/-- With a gap and room, the room lets the GAP notice be written (R20). -/
theorem moveReadCount_gap (s : State) (data : Word) (hpos : 0 < s.journal.gap) :
    s.moveReadCount noticeJournal data =
      if 1 ≤ (s.readMoved noticeJournal (data.setWidth 16)).room noticeJournal then
        (s.readMoved noticeJournal (data.setWidth 16)).writeGap.setGap 0
      else s.readMoved noticeJournal (data.setWidth 16) := by
  have hne : noticeJournal ≠ inputJournal := by decide
  have hgap : (s.readMoved noticeJournal (data.setWidth 16)).journal.gap = s.journal.gap := by rw [readMoved_frame]
  unfold State.moveReadCount
  simp only [decide_eq_true_eq, true_and, hne, false_and, if_false]
  rw [← State.readMoved, hgap]
  simp only [hpos, true_and]

/-- The used count after a read-count event (R15, R17). -/
theorem readMoved_used (s : State) (j : Fin 3) (r : Half) :
    (s.readMoved j r).used j =
      if ((s.journalOf j).writeCount - r).toNat ≤ journalCapacity j then ((s.journalOf j).writeCount - r).toNat else 0 := by
  rw [State.used, readMoved_journalOf]
  split
  · next hvalid =>
    rw [moveRead_valid j _ r hvalid]
    rfl
  · next hinvalid =>
    rw [moveRead_invalid j _ r hinvalid]
    show ((s.journalOf j).writeCount - (s.journalOf j).writeCount).toNat = 0
    rw [BitVec.sub_self]
    rfl

theorem moveRead_counts (j : Fin 3) (q : Journal) (r : Half) :
    q.moveRead j r =
      { q with readCount := if (q.writeCount - r).toNat ≤ journalCapacity j then r else q.writeCount
               invalidCount := decide (¬ (q.writeCount - r).toNat ≤ journalCapacity j), full := (q.moveRead j r).full } := by
  by_cases h : (q.writeCount - r).toNat ≤ journalCapacity j
  · rw [moveRead_valid j q r h, if_pos h, decide_eq_false (not_not.mpr h)]
  · rw [moveRead_invalid j q r h, if_neg h, decide_eq_true h]

theorem closeBoard_gap (e before : State) :
    (e.closeBoard before).journal = e.journal ∧ (e.closeBoard before).mem = e.mem ∧
      (e.closeBoard before).port.attnLatch = e.port.attnLatch ∧
      e.closeBoard before = { e with port := (e.closeBoard before).port } := by
  rw [closeBoard_frame]
  exact ⟨rfl, rfl, rfl, rfl⟩

theorem latched_bit (l : BitVec 10) (c : Cause) : (l ||| c.mask).getLsbD c.bit = true := by
  rw [BitVec.getLsbD_or]
  have : c.mask.getLsbD c.bit = true := by cases c <;> decide
  rw [this, Bool.or_true]

/-- The read count moved with a gap pending and no room for the GAP notice. -/
theorem readCountWrite_full (s : State) (data : Word) (hs : s.sound) (hh : s.port.hrst = false) (hpos : 0 < s.journal.gap)
    (hused : (s.readMoved noticeJournal (data.setWidth 16)).used noticeJournal = 128) :
    exec (.readCountWrite noticeJournal data) s =
      .next ((s.readMoved noticeJournal (data.setWidth 16)).closeBoard s) := by
  refine exec_readCount s _ noticeJournal data hs.1 hh 0 (Nat.zero_le 1) ?_ ?_
  · rw [moveReadCount_gap s data hpos, if_neg (by rw [room_notice, hused]; decide)]
    exact Carried.refl _
  · rw [readMoved_frame]
    exact hs.1.1

/-- The read count moved with a gap pending, and the GAP notice written into the room it gives. -/
theorem readCountWrite_gap (s : State) (data : Word) (hs : s.sound) (hh : s.port.hrst = false) (hpos : 0 < s.journal.gap)
    (hused : (s.readMoved noticeJournal (data.setWidth 16)).used noticeJournal < 128) :
    exec (.readCountWrite noticeJournal data) s =
      .next (((s.readMoved noticeJournal (data.setWidth 16)).writeGap.setGap 0).closeBoard s) := by
  refine exec_readCount s _ noticeJournal data hs.1 hh 0 (Nat.zero_le 1) ?_ ?_
  · rw [moveReadCount_gap s data hpos, if_pos (by rw [room_notice]; omega)]
    exact Carried.refl _
  · rw [State.writeGap, writeNotice_eq _ _ _ _ _ _ hused, readMoved_frame]
    exact hs.1.1

/-- Settles O22: the count moved, and with a gap and room the GAP notice after it. -/
theorem readCountWrite : Obligations.ReadCountWrite := by
  unfold Obligations.ReadCountWrite
  refine ⟨fun s j data hs hh hinput hgap => ?_, fun s data hs hh hpos hle => ?_⟩
  · have hframe := readMoved_frame s j (data.setWidth 16)
    have hport := readMoved_port s j (data.setWidth 16)
    have hjournal := readMoved_journalOf s j (data.setWidth 16)
    have hothers := readMoved_journalOf_ne s j
    have hboard := closeBoard_sameButBoard (s.readMoved j (data.setWidth 16)) s (s.readMoved j (data.setWidth 16)).port
      (by rw [hport]; split <;> exact hs.1.2) ⟨_, rfl⟩
    refine ⟨_, readCountWrite_moved s j data hs hh hinput hgap, ?_⟩
    obtain ⟨hsame, hclosed⟩ := hboard
    rw [hclosed]
    refine ⟨?_, fun k hk => hothers k _ hk, ?_, ?_, fun hvalid => ?_, fun hinvalid => ?_⟩
    · rw [hframe]
    · rw [hframe]
    · rw [hframe]
    · rw [if_pos hvalid] at hport
      rw [hport] at hsame
      exact ⟨hjournal.trans (moveRead_valid j _ _ hvalid), hsame⟩
    · rw [if_neg hinvalid, readCountOffset_eq] at hport
      rw [hport] at hsame
      exact ⟨hjournal.trans (moveRead_invalid j _ _ hinvalid), hsame⟩
  · have hframe := readMoved_frame s noticeJournal (data.setWidth 16)
    have hcounts := moveRead_counts noticeJournal (s.journalOf noticeJournal) (data.setWidth 16)
    have hothers (k : Fin 3) (hk : k ≠ noticeJournal) := readMoved_journalOf_ne s noticeJournal k (data.setWidth 16) hk
    have hexact := moveRead_valid noticeJournal (s.journalOf noticeJournal) (data.setWidth 16)
    have husedCount := readMoved_used s noticeJournal (data.setWidth 16)
    rw [← readMoved_journalOf] at hcounts hexact
    rw [capacity_notice] at husedCount hcounts hexact
    dsimp only
    rw [← husedCount]
    have hle128 : (s.readMoved noticeJournal (data.setWidth 16)).used noticeJournal ≤ 128 := by
      rw [husedCount]
      split
      · assumption
      · exact Nat.zero_le _
    have hfull := readCountWrite_full s data hs hh hpos
    have hgap := readCountWrite_gap s data hs hh hpos
    generalize s.readMoved noticeJournal (data.setWidth 16) = u at *
    have hmem : u.mem = s.mem := by rw [hframe]
    have hgapCount : u.journal.gap = s.journal.gap := by rw [hframe]
    have hnow : u.now = s.now := by rw [hframe]
    have hsettings : u.settings = s.settings := by rw [hframe]
    have hcount : (u.journalOf noticeJournal).writeCount = (s.journalOf noticeJournal).writeCount := by rw [hcounts]
    rcases hle128.lt_or_eq with hlt | heq
    · obtain ⟨hjournal, hmemory, hlatch, hclosed⟩ := closeBoard_gap (u.writeGap.setGap 0) s
      have hwf : MemoryCanonical u := by
        unfold MemoryCanonical
        rw [hmem]
        exact hs.2
      have hread := writeGap_reads u hwf hlt (hgapCount ▸ hle)
      obtain ⟨oq, oport, oothers, oquiet, oframe, omem⟩ := offered_writeGap u 0 hwf hlt (hgapCount ▸ hle)
      refine ⟨_, hgap hlt, ?_, fun k hk => ?_, ?_, fun h => absurd h hlt.ne, fun _ => ⟨?_, ?_, ?_, fun hmark => ?_,
        fun a ha => ?_⟩⟩
      · rw [hclosed, oframe, hframe]
      · rw [State.journalOf, hjournal]
        exact (oothers k hk).trans (hothers k hk)
      · rw [hjournal, oquiet, hframe]
      · rw [hjournal]
        rfl
      · rw [hcount, hnow, hgapCount] at hread
        exact noticeAt_congr (fun b _ _ => by rw [hmemory, setGap_mem]) hread
      · rw [State.journalOf, hjournal]
        refine oq.trans ?_
        rw [hcounts]
        simp
      · rw [hlatch, oport, hsettings, if_pos ⟨Nat.one_ne_zero, hmark⟩]
        exact latched_bit _ _
      · rw [hmemory, ← hmem]
        refine omem a fun i hi => ?_
        obtain rfl : i = 0 := by omega
        have hzero (w : Half) : w + BitVec.ofNat 16 0 = w := BitVec.add_zero w
        dsimp only
        rw [hzero, hcount]
        exact ha
    · obtain ⟨hjournal, hmemory, -, hclosed⟩ := closeBoard_gap u s
      have hvalid : ((s.journalOf noticeJournal).writeCount - data.setWidth 16).toNat ≤ 128 := by
        by_contra hinvalid
        rw [if_neg hinvalid, heq] at husedCount
        cases husedCount
      refine ⟨_, hfull heq, ?_, fun k hk => ?_, ?_, fun _ => ⟨?_, ?_, ?_⟩, fun h => absurd heq h.ne⟩
      · rw [hclosed, hframe]
      · rw [State.journalOf, hjournal]
        exact hothers k hk
      · rw [hjournal, hframe]
      · rw [hmemory, hmem]
      · rw [hjournal, hgapCount]
      · rw [State.journalOf, hjournal]
        rw [if_pos hvalid, heq] at husedCount
        refine (hexact hvalid).trans ?_
        rw [← husedCount]
        rfl

end Sys2Proof.Machine
end

section
/-! POST and RELEASE (R7 to R13). -/

namespace Sys2Proof.Machine

set_option Elab.async false

/-! ## Slots in memory -/

/-- A request's code stands outside the result area of every slot. -/
theorem requestCode_congr (s t : State) (n k : Fin 32)
    (h : ∀ a, a < slotBase n + 0x24 ∨ slotBase n + 64 ≤ a → t.mem.get a = s.mem.get a) : t.requestCode k = s.requestCode k := by
  unfold State.requestCode
  rw [h _ (by unfold slotBase; omega)]

/-- The result area of a slot cleared as the slot is taken (R12). -/
def clearedResult (m : Memory) (n : Fin 32) (now : PartTime) : Memory :=
  ((m.putBytes (slotBase n + 0x24) (List.replicate 20 0)).putLE (slotBase n + 0x38) 4 now.toNat).putLE (slotBase n + 0x3C) 4 0

theorem clearedResult_wf (m : Memory) (hm : m.wf = true) (n : Fin 32) (now : PartTime) : (clearedResult m n now).wf = true :=
  Memory.wf_putLE _ _ _ _ (Memory.wf_putLE _ _ _ _ (Memory.wf_putBytes _ _ _ hm))

theorem clearedResult_get_ne (m : Memory) (hm : m.wf = true) (n : Fin 32) (now : PartTime) (a : Nat)
    (ha : a < slotBase n + 0x24 ∨ slotBase n + 64 ≤ a) : (clearedResult m n now).get a = m.get a := by
  have w1 := Memory.wf_putBytes m (slotBase n + 0x24) (List.replicate 20 0) hm
  unfold clearedResult
  rw [Memory.get_putLE_ne _ (Memory.wf_putLE _ _ _ _ w1) _ _ _ _ (by omega), Memory.get_putLE_ne _ w1 _ _ _ _ (by omega),
    Memory.get_putBytes_ne _ hm _ _ _ (by rw [List.length_replicate]; omega)]

/-- A slot taken from the queue, before its request is looked at (R12). -/
def State.takenFrom (s : State) (n : Fin 32) : State :=
  { s with mem := clearedResult s.mem n s.now
           dispatch := { s.dispatch with slots := s.dispatch.slots.set n (.taken false)
                                         queue := s.dispatch.queue.filter (· ≠ n) } }

theorem takenFrom_mem (s : State) (n : Fin 32) : (s.takenFrom n).mem = clearedResult s.mem n s.now := by simp only [State.takenFrom]

theorem takenFrom_canonical (s : State) (hm : MemoryCanonical s) (n : Fin 32) : MemoryCanonical (s.takenFrom n) := by
  unfold MemoryCanonical
  rw [takenFrom_mem]
  exact clearedResult_wf s.mem hm n s.now

theorem takenFrom_requestCode (s : State) (hm : MemoryCanonical s) (n k : Fin 32) :
    (s.takenFrom n).requestCode k = s.requestCode k :=
  requestCode_congr s _ n k fun a ha => by rw [takenFrom_mem, clearedResult_get_ne s.mem hm n s.now a ha]

/-- What becomes of a slot taken from the queue, by the unit its code names (R12). -/
def State.takenNext (s : State) (n : Fin 32) : Option Request → State
  | none => (s.finishSlot n .badRequest (s.requestCode n) []).handLast .considerQueue
  | some r => ((s.setServing r.servedBy (some n)).hand [.serve n r]).handLast .considerQueue

theorem takeSlot_eq (s : State) (n : Fin 32) :
    s.takeSlot n = (s.takenFrom n).takenNext n (Request.ofCode ((s.takenFrom n).requestCode n)) := by
  have htaken : (((s.updDispatch fun d => { d with queue := d.queue.filter (· ≠ n) }).setMem
      (clearedResult s.mem n s.now)).setSlot n (.taken false)) = s.takenFrom n := by
    simp only [State.setSlot, State.updDispatch, State.setMem, State.takenFrom]
  rw [← htaken]
  unfold State.takeSlot clearedResult
  simp only [State.updDispatch_mem, State.updDispatch_now]
  generalize State.setSlot _ n (.taken false) = u
  cases Request.ofCode (u.requestCode n) <;> rfl

/-- A slot whose code names no unit is finished BAD_REQUEST (R12). -/
theorem takeSlot_unnamed (s : State) (hm : MemoryCanonical s) (n : Fin 32) (h : Request.ofCode (s.requestCode n) = none) :
    s.takeSlot n = ((((s.takenFrom n).writeResult n .badRequest (s.requestCode n) []).setSlot n .done).latch
      .requestDone).handLast .considerQueue := by
  have htaken : (s.takenFrom n).slotState n ≠ .taken true := by
    rw [State.slotState]
    simp [State.takenFrom]
  rw [takeSlot_eq, takenFrom_requestCode s hm, h, State.takenNext, takenFrom_requestCode s hm]
  unfold State.finishSlot
  rw [if_neg htaken]

/-- A slot whose code names a unit is served by it (R12). -/
theorem takeSlot_named (s : State) (hm : MemoryCanonical s) (n : Fin 32) (r : Request)
    (h : Request.ofCode (s.requestCode n) = some r) :
    s.takeSlot n = (((s.takenFrom n).setServing r.servedBy (some n)).hand [.serve n r]).handLast .considerQueue := by
  rw [takeSlot_eq, takenFrom_requestCode s hm, h, State.takenNext]

/-! ## A queue whose entries wait -/

theorem waitsForUnit_iff (s : State) (n : Fin 32) : s.waitsForUnit n ↔ s.takeable n = false := by
  unfold State.waitsForUnit State.takeable
  cases h : Request.ofCode (s.requestCode n) with
  | none => simp
  | some r => cases hs : s.servingSlot r.servedBy <;> simp [hs]

/-- Nothing is taken while every entry waits for its unit. -/
theorem considerQueue_waiting (s : State) (h : ∀ m ∈ s.dispatch.queue, s.waitsForUnit m) : s.considerQueue = s := by
  have hfind : s.dispatch.queue.find? (fun n => s.takeable n) = none := by
    rw [List.find?_eq_none]
    intro m hm
    rw [(waitsForUnit_iff s m).mp (h m hm)]
    exact Bool.false_ne_true
  unfold State.considerQueue
  rw [hfind]
  split <;> rfl

/-- A takeable slot behind entries that wait is taken past them (R11). -/
theorem considerQueue_past (s : State) (q : List (Fin 32)) (n : Fin 32) (hrun : s.isRunning = true)
    (hqueue : s.dispatch.queue = q ++ [n]) (h : ∀ m ∈ q, s.waitsForUnit m) (hn : s.takeable n = true) :
    s.considerQueue = s.takeSlot n := by
  have hfind : s.dispatch.queue.find? (fun n => s.takeable n) = some n := by
    rw [hqueue, List.find?_append]
    have : q.find? (fun n => s.takeable n) = none := by
      rw [List.find?_eq_none]
      intro m hm
      rw [(waitsForUnit_iff s m).mp (h m hm)]
      exact Bool.false_ne_true
    rw [this]
    simp [hn]
  unfold State.considerQueue
  rw [if_pos hrun, hfind]

/-! ## POST -/

/-- A slot queued (R7). -/
def State.queued (s : State) (n : Fin 32) : State :=
  { s with dispatch := { s.dispatch with slots := s.dispatch.slots.set n .posted, queue := s.dispatch.queue ++ [n] } }

theorem postSlot_free (s : State) (n : Fin 32) (hs : s.tasks = []) (h : s.slotState n = .free) :
    s.postSlot n = (s.queued n).setTasks [.considerQueue] := by
  unfold State.postSlot
  rw [if_pos h]
  show ((s.queued n).setTasks ((s.queued n).tasks ++ [.considerQueue])) = _
  have : (s.queued n).tasks = [] := hs
  rw [this]
  rfl

theorem setTasks_setTasks (s : State) (xs ys : List Task) : (s.setTasks xs).setTasks ys = s.setTasks ys := rfl

theorem setTasks_self (s : State) (hs : s.tasks = []) : s.setTasks [] = s := by
  cases s
  cases hs
  rfl

theorem handLast_tasks (s : State) (x : Task) (hs : s.tasks = []) : (s.handLast x).tasks = [x] := by
  show s.tasks ++ [x] = [x]
  rw [hs]
  rfl

/-- The one hand-on left by a unit that finished. -/
theorem Carried.handLast (s : State) (x : Task) (hs : s.tasks = []) : Carried 1 (s.handLast x) (doTask x s) := by
  refine Carried.front_eq (handLast_tasks s x hs) ?_
  have hback : (s.handLast x).setTasks [] = s.setTasks [] := rfl
  rw [hback, setTasks_self s hs]

/-- The dispatcher considers a queue from which nothing is to be taken. -/
theorem Carried.considered (s : State) (hs : s.tasks = []) (hidle : s.considerQueue = s) :
    Carried 1 (s.handLast .considerQueue) s := by
  have h := Carried.handLast s .considerQueue hs
  rwa [doTask, hidle] at h

/-- POST of a FREE slot: the queue with the slot behind it is considered. -/
theorem post_carried (s : State) (n : Fin 32) (hs : s.betweenEvents) (hh : s.port.hrst = false) (h : s.slotState n = .free) :
    Carried 1 (s.whenOpen fun u => u.postSlot n) (s.queued n).considerQueue := by
  rw [whenOpen_open s _ hh, postSlot_free s n hs.1 h]
  refine Carried.front_eq rfl ?_
  rw [setTasks_setTasks, setTasks_self (s.queued n) hs.1]
  rfl

theorem exec_post (s t : State) (n : Fin 32) (hs : s.betweenEvents)
    (h : Carried 1 (s.whenOpen fun u => u.postSlot n) t) (ht : t.tasks = []) (htouched : t.port.boardTouched = false)
    (hboard : t.boardWords = s.boardWords) : exec (.post n) s = .next t := by
  have hnext : exec (.post n) s = .next (t.closeBoard s) := takeEvent_carried hs h ht
  rw [hnext, closeBoard_same t s htouched hboard]

/-- A slot queued and not taken. -/
theorem exec_post_queued (s : State) (n : Fin 32) (hs : s.betweenEvents) (hh : s.port.hrst = false)
    (hfree : s.slotState n = .free) (hidle : (s.queued n).considerQueue = s.queued n) :
    exec (.post n) s = .next (s.queued n) :=
  exec_post s _ n hs (hidle ▸ post_carried s n hs hh hfree) hs.1 hs.2 rfl

/-- A slot answered in an event that changes nothing else, by the state at its bracket. -/
theorem slotAnswered_closed {s e : State} (before : State) {n : Fin 32} {code : ResultCode} {detail : Nat}
    (hs : s.port.boardTouched = false) (hanswered : e.answered n code detail) (hmem : s.slotOnly e n)
    (hothers : ∀ k, k ≠ n → e.slotState k = s.slotState k) (hqueue : e.dispatch.queue = s.dispatch.queue)
    (hserving : e.dispatch.serving = s.dispatch.serving)
    (hframe : e = { s with mem := e.mem, dispatch := e.dispatch, port := e.port })
    (hport : ∃ b, e.port =
      { s.port with attnLatch := s.port.attnLatch ||| Cause.requestDone.mask, boardTouched := b }) :
    s.slotAnswered (e.closeBoard before) n code detail := by
  obtain ⟨hsame, hclosed⟩ := closeBoard_sameButBoard e before
    { s.port with attnLatch := s.port.attnLatch ||| Cause.requestDone.mask } hs hport
  rw [hclosed]
  refine ⟨hanswered, hmem, hothers, hqueue, hserving, ?_, hsame⟩
  rw [hframe]

/-- After the BAD_REQUEST of a posted slot, from the state it was posted in. -/
def State.postRefused (s : State) (n : Fin 32) : State :=
  (((((s.queued n).takenFrom n).writeResult n .badRequest (s.requestCode n) []).setSlot n .done).latch .requestDone)

theorem postRefused_mem (s : State) (n : Fin 32) :
    (s.postRefused n).mem = (((s.queued n).takenFrom n).writeResult n .badRequest (s.requestCode n) []).mem := by
  unfold State.postRefused State.latch State.setSlot
  rw [State.updPort_mem, State.updDispatch_mem]

/-- Outside the result area the answer changes nothing in memory. -/
theorem postRefused_get_ne (s : State) (hm : MemoryCanonical s) (n : Fin 32) (a : Nat)
    (ha : a < slotBase n + 0x24 ∨ slotBase n + 64 ≤ a) : (s.postRefused n).mem.get a = s.mem.get a := by
  have hqueued : MemoryCanonical (s.queued n) := hm
  rw [postRefused_mem, writeResult_get_ne _ (takenFrom_canonical _ hqueued n) n .badRequest _ [] (Nat.zero_le 4) a ha,
    takenFrom_mem, clearedResult_get_ne _ hqueued n _ a ha]
  rfl

theorem filter_queued (q : List (Fin 32)) (n : Fin 32) (hn : n ∉ q) : (q ++ [n]).filter (· ≠ n) = q := by
  have hkeep : q.filter (· ≠ n) = q := List.filter_eq_self.mpr fun m hm => by
    simp only [ne_eq, decide_not, Bool.not_eq_eq_eq_not, Bool.not_true, decide_eq_false_iff_not]
    exact fun e => hn (e ▸ hm)
  rw [List.filter_append, hkeep]
  simp

section
variable (s : State) (n : Fin 32) (hs : s.sound) (hh : s.port.hrst = false) (hrun : s.port.phase = .running)
  (hfree : s.slotState n = .free) (hn : n ∉ s.dispatch.queue) (hwait : ∀ m ∈ s.dispatch.queue, s.waitsForUnit m)
include hs hh hrun hfree hn hwait

theorem consider_posted (hcode : s.takeable n = true) : (s.queued n).considerQueue = (s.queued n).takeSlot n := by
  refine considerQueue_past (s.queued n) s.dispatch.queue n ?_ rfl (fun m hm => hwait m hm) hcode
  exact beq_iff_eq.mpr hrun

/-- A posted slot whose code names no unit is answered in its event, and the entries before it still wait. -/
theorem exec_post_unnamed (hcode : Request.ofCode (s.requestCode n) = none) :
    exec (.post n) s = .next ((s.postRefused n).closeBoard s) := by
  have hm : MemoryCanonical (s.queued n) := hs.2
  have htake : (s.queued n).considerQueue = (s.postRefused n).handLast .considerQueue := by
    rw [consider_posted s n hs hh hrun hfree hn hwait (by unfold State.takeable; rw [hcode])]
    exact takeSlot_unnamed (s.queued n) hm n hcode
  have hqueue : (s.postRefused n).dispatch.queue = s.dispatch.queue := filter_queued _ n hn
  have hcodes (m : Fin 32) : (s.postRefused n).requestCode m = s.requestCode m :=
    requestCode_congr s _ n m (postRefused_get_ne s hs.2 n)
  have hidle : (s.postRefused n).considerQueue = s.postRefused n := by
    refine considerQueue_waiting _ fun m hmem => ?_
    rw [hqueue] at hmem
    obtain ⟨r, hr, hbusy⟩ := hwait m hmem
    exact ⟨r, by rw [hcodes, hr], hbusy⟩
  have htasks : (s.postRefused n).tasks = [] := hs.1.1
  have hposted := post_carried s n hs.1 hh hfree
  rw [htake] at hposted
  exact takeEvent_carried hs.1 (hposted.trans (Carried.considered _ htasks hidle)) htasks

/-- What that answer leaves. -/
theorem postRefused_answered : s.slotAnswered ((s.postRefused n).closeBoard s) n .badRequest (s.requestCode n) := by
  have hcode : s.requestCode n < 65536 := Nat.lt_of_lt_of_le (BitVec.isLt _) (by decide)
  have hqueued : MemoryCanonical (s.queued n) := hs.2
  obtain ⟨hresult, hdetail, -⟩ := writeResult_reads _ (takenFrom_canonical _ hqueued n) n .badRequest (s.requestCode n) [] hcode
  refine slotAnswered_closed s hs.1.2 ⟨?_, ?_, ?_⟩ (fun a ha => postRefused_get_ne s hs.2 n a (by omega)) (fun k hk => ?_)
    (filter_queued _ n hn) rfl ?_ ⟨s.port.boardTouched, rfl⟩
  · exact (slotState_setSlot _ n n .done).trans (if_pos rfl)
  · unfold State.resultCode at hresult ⊢
    rw [postRefused_mem, hresult]
  · unfold State.resultDetail at hdetail ⊢
    rw [postRefused_mem, hdetail]
  · have hval : (n : Nat) ≠ k := fun e => hk (Fin.ext e.symm)
    simp [State.postRefused, State.takenFrom, State.queued, State.slotState, State.setSlot, State.latch, State.writeResult,
      State.updPort, State.updDispatch, State.setMem, hval]
  · simp only [State.postRefused, State.takenFrom, State.queued, State.setSlot, State.latch, State.writeResult,
      State.updPort, State.updDispatch, State.setMem]

/-- A posted slot whose unit is idle, here the angle unit's, is taken past the entries that wait. -/
theorem exec_post_calibrate (hcode : Request.ofCode (s.requestCode n) = some .calibrateHinge)
    (hidle : s.servingSlot .angle = none) :
    exec (.post n) s = .next ((((s.queued n).takenFrom n).setServing .angle (some n)).beginCalibration) := by
  have htake : (s.queued n).considerQueue = ((((s.queued n).takenFrom n).setServing .angle (some n)).hand
      [.serve n .calibrateHinge]).handLast .considerQueue := by
    rw [consider_posted s n hs hh hrun hfree hn hwait (by
      unfold State.takeable
      rw [hcode]
      exact Option.isNone_iff_eq_none.mpr hidle)]
    exact takeSlot_named (s.queued n) hs.2 n .calibrateHinge hcode
  have hposted := post_carried s n hs.1 hh hfree
  rw [htake] at hposted
  have hcodes := takenFrom_requestCode (s.queued n) hs.2 n
  generalize htaken : (s.queued n).takenFrom n = u at *
  have htasks : u.tasks = [] := by
    rw [← htaken]
    exact hs.1.1
  have hserve : Carried 1 (((u.setServing .angle (some n)).hand [.serve n .calibrateHinge]).handLast .considerQueue)
      ((u.setServing .angle (some n)).beginCalibration.handLast .considerQueue) := by
    refine Carried.front_eq (x := .serve n .calibrateHinge) (rest := [.considerQueue]) ?_ ?_
    · show ([_] ++ u.tasks) ++ [_] = _
      rw [htasks]
      rfl
    · have hback : ((u.setServing .angle (some n)).beginCalibration.handLast .considerQueue) =
          (u.setServing .angle (some n)).beginCalibration.setTasks (u.tasks ++ [.considerQueue]) := rfl
      rw [hback, htasks]
      rfl
  have hconsidered : (u.setServing .angle (some n)).beginCalibration.considerQueue =
      (u.setServing .angle (some n)).beginCalibration := by
    refine considerQueue_waiting _ fun m hmem => ?_
    have hqueue : (u.setServing .angle (some n)).beginCalibration.dispatch.queue = s.dispatch.queue := by
      rw [← htaken]
      exact filter_queued _ n hn
    rw [hqueue] at hmem
    obtain ⟨r, hr, hbusy⟩ := hwait m hmem
    refine ⟨r, (congrArg Request.ofCode (hcodes m)).trans hr, fun hnone => hbusy ?_⟩
    have hserving : (u.setServing .angle (some n)).servingSlot r.servedBy = none := hnone
    by_cases hangle : r.servedBy = .angle
    · rw [hangle, servingSlot_setServing] at hserving
      cases hserving
    · rw [servingSlot_setServing_ne _ _ _ _ hangle, ← htaken] at hserving
      exact hserving
  have hlast := Carried.considered (u.setServing .angle (some n)).beginCalibration htasks hconsidered
  have hnext : exec (.post n) s = .next (((u.setServing .angle (some n)).beginCalibration).closeBoard s) :=
    takeEvent_carried hs.1 ((hposted.trans hserve).trans hlast) htasks
  rw [hnext, closeBoard_same _ s ?_ ?_] <;> rw [← htaken]
  · exact hs.1.2
  · rfl

end

/-- Settles O24: the queue with the slot behind it is considered once, and again when the slot was taken. -/
theorem post : Obligations.Post := by
  unfold Obligations.Post
  refine ⟨fun s n hs hh hboot hfree => ?_, fun s n hs hh hfree => ?_, fun s n hs hh hrun hfree hn hwait =>
    ⟨fun hcode => ?_, fun hbusy => ?_, fun hcode hidle => ?_⟩⟩
  · refine exec_post_queued s n hs hh hfree ?_
    have hstopped : ¬ (s.queued n).isRunning = true := by
      show ¬ (s.port.phase == .running) = true
      rw [hboot]
      decide
    unfold State.considerQueue
    rw [if_neg hstopped]
  · refine takeEvent_port s _ _ hs ?_ hs.2
    rw [whenOpen_open s _ hh]
    exact (if_neg hfree).trans (recordError_eq _ _ _ _)
  · exact ⟨_, exec_post_unnamed s n hs hh hrun hfree hn hwait hcode, postRefused_answered s n hs hh hrun hfree hn hwait⟩
  · refine exec_post_queued s n hs.1 hh hfree (considerQueue_waiting _ fun m hm => ?_)
    rcases List.mem_append.mp hm with hm | hm
    · exact hwait m hm
    · rw [List.mem_singleton.mp hm]
      exact hbusy
  · refine ⟨_, exec_post_calibrate s n hs hh hrun hfree hn hwait hcode hidle, fun a ha => ?_, ?_⟩
    · have hmem : ((((s.queued n).takenFrom n).setServing .angle (some n)).beginCalibration).mem =
          ((s.queued n).takenFrom n).mem := by
        unfold State.beginCalibration State.setCalibration State.setServing
        rw [State.updAngle_mem, State.updDispatch_mem]
      have hqueued : MemoryCanonical (s.queued n) := hs.2
      rw [hmem, takenFrom_mem, clearedResult_get_ne _ hqueued n _ a (by omega)]
      rfl
    · have hqueue := filter_queued s.dispatch.queue n hn
      have hslots : (s.dispatch.slots.set n SlotState.posted).set n (.taken false) = s.dispatch.slots.set n (.taken false) :=
        Vector.set_set ..
      simp only [State.beginCalibration, State.setCalibration, State.setServing, State.updAngle, State.updDispatch,
        State.takenFrom, State.queued, hqueue, hslots]

/-! ## RELEASE -/

theorem exec_release_unseen (s t : State) (n : Fin 32) (hs : s.betweenEvents) (hh : s.port.hrst = false)
    (hf : s.releaseSlot n = t) (ht : t.betweenEvents) (hboard : t.boardWords = s.boardWords) :
    exec (.release n) s = .next t := by
  have hopen : (s.whenOpen fun u => u.releaseSlot n) = t := (whenOpen_open s _ hh).trans hf
  have := takeEvent_unseen s (fun u => u.whenOpen fun u => u.releaseSlot n) hs (hopen.symm ▸ ht) (by rw [hopen, hboard])
  rwa [hopen] at this

/-- A calibration cancelled: the slot FREE with CANCELLED, the unit idle (R9, R81). -/
def State.calibrationCancelled (s : State) (n : Fin 32) : State :=
  { s with
    mem := (s.mem.putLE (slotBase n + 0x24) 2 ResultCode.cancelled.code).putLE (slotBase n + 0x3C) 4 s.now.toNat
    angle := { s.angle with calibration := none }
    dispatch := { s.dispatch with slots := s.dispatch.slots.set n .free
                                  serving := s.dispatch.serving.set ServingUnit.angle.index none } }

theorem releaseTaken_angle (s : State) (n : Fin 32) (h : s.unitServing n = some .angle) :
    s.releaseTaken n = (s.calibrationCancelled n).handLast .considerQueue := by
  unfold State.releaseTaken
  rw [h]
  simp only [State.cancelSlot, State.setCalibration, State.setServing, State.setSlot, State.updDispatch, State.updAngle,
    State.setMem, State.calibrationCancelled]

theorem calibrationCancelled_mem (s : State) (n : Fin 32) :
    (s.calibrationCancelled n).mem =
      (s.mem.putLE (slotBase n + 0x24) 2 ResultCode.cancelled.code).putLE (slotBase n + 0x3C) 4 s.now.toNat := by
  simp only [State.calibrationCancelled]

/-- Settles O25: by the slot's state, and by the unit that serves a TAKEN slot. -/
theorem release : Obligations.Release := by
  unfold Obligations.Release
  refine ⟨fun s n hs hh hstate => ?_, fun s n hs hh hstate => ?_, fun s n hs hh hstate => ?_,
    fun s n hs hh hstate hangle hbase => ?_, fun s n hs hh hstate hangle hqueue => ?_⟩
  · refine exec_release_unseen s s n hs hh ?_ hs rfl
    unfold State.releaseSlot
    rcases hstate with hstate | hstate <;> rw [hstate]
  · refine exec_release_unseen s _ n hs hh ?_ hs rfl
    unfold State.releaseSlot
    rw [hstate]
    rfl
  · refine exec_release_unseen s _ n hs hh ?_ hs rfl
    unfold State.releaseSlot
    rw [hstate]
    rfl
  · refine exec_release_unseen s _ n hs hh ?_ hs rfl
    unfold State.releaseSlot
    rw [hstate]
    dsimp only
    unfold State.releaseTaken
    split
    · next hu => exact absurd hu hangle
    · next hu =>
      rw [hbase hu]
      rfl
    · rfl
  · have hf : (s.whenOpen fun u => u.releaseSlot n) = (s.calibrationCancelled n).handLast .considerQueue := by
      rw [whenOpen_open s _ hh, ← releaseTaken_angle s n hangle]
      unfold State.releaseSlot
      rw [hstate]
    have hcarried := Carried.considered (s.calibrationCancelled n) hs.1.1 (considerQueue_idle _ hqueue)
    rw [← hf] at hcarried
    have hnext : exec (.release n) s = .next ((s.calibrationCancelled n).closeBoard s) :=
      takeEvent_carried hs.1 hcarried hs.1.1
    rw [closeBoard_same (s.calibrationCancelled n) s hs.1.2 rfl] at hnext
    have w1 := Memory.wf_putLE s.mem (slotBase n + 0x24) 2 ResultCode.cancelled.code hs.2
    refine ⟨_, hnext, ?_, ?_, ?_, ?_, rfl, fun a ha => ?_⟩
    · simp only [State.calibrationCancelled]
    · simp [State.calibrationCancelled, State.slotState]
    · unfold State.resultCode
      rw [calibrationCancelled_mem, Memory.getLE_putLE_ne _ w1 _ _ _ _ _ (by omega), Memory.getLE_putLE _ hs.2]
      decide
    · exact servingSlot_setServing s .angle none
    · rw [calibrationCancelled_mem, Memory.get_putLE_ne _ w1 _ _ _ _ (by omega), Memory.get_putLE_ne _ hs.2 _ _ _ _ (by omega)]

end Sys2Proof.Machine
end

section
/-! Requests taken at once, from the host's accesses to the answer (R11 to R13). -/

namespace Sys2Proof.Machine

set_option Elab.async false

/-- The event of a request taken at once, by what carrying its service leads to. -/
theorem exec_request {s t : State} {n : Fin 32} {r : Request} {tag : Half} {ps : List Word} {k : Nat} (hs : s.sound)
    (h : s.takesAtOnce n r.servedBy) (hc : Carried k ((s.taken n r tag ps).serve n r) t) (ht : t.tasks = [])
    (hp : ps.length ≤ 8 := by simp) (hk : k ≤ 100 := by decide) :
    takeEvent s (fun u => u.makeRequest n r tag ps) = .next (t.closeBoard s) := by
  have hlimit : 100 ≤ Config.handOnLimit - 2 := by decide
  unfold takeEvent
  rw [event_request s n r tag ps h hs.2 hs.1.1 hs.1.2 hp, hc.done ht _ (hk.trans hlimit), setTasks_self t ht]

/-! ## The answer -/

/-- A slot answered: its result written, the slot DONE, its unit idle and REQUEST_DONE latched, with nothing left to hand
on (R13). -/
def State.finishedSlot (s : State) (u : ServingUnit) (n : Fin 32) (code : ResultCode) (detail : Nat) (words : List Word) :
    State :=
  { s with
    mem := (s.writeResult n code detail words).mem
    dispatch := { s.dispatch with slots := s.dispatch.slots.set n .done
                                  serving := s.dispatch.serving.set u.index none }
    port := { s.port with attnLatch := s.port.attnLatch ||| Cause.requestDone.mask }
    tasks := [] }

theorem finishedSlot_mem (s : State) (u : ServingUnit) (n : Fin 32) (code : ResultCode) (detail : Nat) (words : List Word) :
    (s.finishedSlot u n code detail words).mem = (s.writeResult n code detail words).mem := by
  simp only [State.finishedSlot]

/-- A unit that finishes the request it serves, when nothing else waits. -/
theorem Carried.finished {s : State} {u : ServingUnit} {n : Fin 32} (code : ResultCode) (detail : Nat) (words : List Word)
    (hserving : s.servingSlot u = some n) (hstate : s.slotState n = .taken false) (hqueue : s.dispatch.queue = [])
    (htasks : s.tasks = [.considerQueue]) :
    Carried 2 (s.finishUnit u code detail words) (s.finishedSlot u n code detail words) := by
  have hfinish : s.finishUnit u code detail words =
      (s.finishedSlot u n code detail words).setTasks [.considerQueue, .considerQueue] := by
    rw [finishUnit_serving s u n code detail words hserving hstate]
    simp only [State.finishedSlot, State.handLast, State.setServing, State.setSlot, State.latch, State.writeResult,
      State.setMem, State.updDispatch, State.updPort, State.setTasks, htasks, List.singleton_append]
  have hidle (ts : List Task) : ((s.finishedSlot u n code detail words).setTasks ts).considerQueue =
      (s.finishedSlot u n code detail words).setTasks ts := considerQueue_idle _ hqueue
  rw [hfinish]
  refine Carried.trans (j := 1) (k := 1) (Carried.front_eq rfl (hidle [.considerQueue])) ?_
  have hlast := Carried.front_eq (s := (s.finishedSlot u n code detail words).setTasks [.considerQueue]) rfl (hidle [])
  rwa [setTasks_self (s.finishedSlot u n code detail words) rfl] at hlast

theorem finishedSlot_answered (s : State) (u : ServingUnit) (n : Fin 32) (code : ResultCode) (detail : Nat)
    (words : List Word) (hm : MemoryCanonical s) (hd : detail < 65536) :
    (s.finishedSlot u n code detail words).answered n code detail ∧
      ∀ i : Fin 4, ∀ h : i.val < words.length,
        (s.finishedSlot u n code detail words).resultWord n i = (words[i.val]'h).toNat := by
  obtain ⟨hcode, hdetail, hwords⟩ := writeResult_reads s hm n code detail words hd
  refine ⟨⟨?_, ?_, ?_⟩, fun i h => ?_⟩
  · simp [State.finishedSlot, State.slotState]
  · unfold State.resultCode at hcode ⊢
    rw [finishedSlot_mem, hcode]
  · unfold State.resultDetail at hdetail ⊢
    rw [finishedSlot_mem, hdetail]
  · have hword := hwords i h
    unfold State.resultWord at hword ⊢
    rw [finishedSlot_mem, hword]

theorem finishedSlot_get_ne (s : State) (u : ServingUnit) (n : Fin 32) (code : ResultCode) (detail : Nat)
    (words : List Word) (hm : MemoryCanonical s) (hw : words.length ≤ 4) (a : Nat)
    (ha : a < slotBase n + 0x24 ∨ slotBase n + 64 ≤ a) :
    (s.finishedSlot u n code detail words).mem.get a = s.mem.get a := by
  rw [finishedSlot_mem, writeResult_get_ne s hm n code detail words hw a ha]

/-! ## Answers to a request just taken -/

theorem taken_mem (s : State) (n : Fin 32) (r : Request) (tag : Half) (ps : List Word) :
    (s.taken n r tag ps).mem = takenMemory s.mem s.now n r tag ps := by simp only [State.taken]

theorem taken_canonical (s : State) (hm : MemoryCanonical s) (n : Fin 32) (r : Request) (tag : Half) (ps : List Word) :
    MemoryCanonical (s.taken n r tag ps) := by
  unfold MemoryCanonical
  rw [taken_mem]
  exact takenMemory_wf s.mem hm _ _ _ _ _

/-- A request taken and answered at once. -/
theorem Carried.answered (s : State) (n : Fin 32) (r : Request) (tag : Half) (ps : List Word) (code : ResultCode)
    (detail : Nat) (words : List Word) :
    Carried 2 ((s.taken n r tag ps).finishUnit r.servedBy code detail words)
      ((s.taken n r tag ps).finishedSlot r.servedBy n code detail words) :=
  Carried.finished code detail words (taken_servingSlot s n r tag ps) (taken_slotState s n r tag ps) rfl rfl

/-- The dispatcher after a request taken and answered at once. -/
theorem finishedSlot_taken_dispatch (s : State) (n : Fin 32) (r : Request) (tag : Half) (ps : List Word)
    (code : ResultCode) (detail : Nat) (words : List Word) (hqueue : s.dispatch.queue = [])
    (hidle : s.servingSlot r.servedBy = none) :
    ((s.taken n r tag ps).finishedSlot r.servedBy n code detail words).dispatch =
      { s.dispatch with slots := s.dispatch.slots.set n .done } := by
  have hserving : (s.dispatch.serving.set r.servedBy.index (some n)).set r.servedBy.index none = s.dispatch.serving := by
    rw [Vector.set_set, ← hidle]
    exact Vector.set_getElem_self _
  have hslots : (s.dispatch.slots.set n (SlotState.taken false)).set n .done = s.dispatch.slots.set n .done := Vector.set_set ..
  simp only [State.finishedSlot, State.taken, hserving, hslots, hqueue]

theorem slotState_set_ne (d : Dispatcher) (n k : Fin 32) (st : SlotState) (hk : k ≠ n) :
    (d.slots.set n st)[k] = d.slots[k] := by
  have hval : (n : Nat) ≠ k := fun e => hk (Fin.ext e.symm)
  simp [hval]

/-- A request answered at once changes its slot, REQUEST_DONE and the board, from the state its unit left. -/
theorem slotAnswered_taken (s before : State) (n : Fin 32) (r : Request) (tag : Half) (ps : List Word) (code : ResultCode)
    (detail : Nat) (words : List Word) (p : PortUnit) (hm : MemoryCanonical s) (htasks : s.tasks = [])
    (hqueue : s.dispatch.queue = []) (hidle : s.servingSlot r.servedBy = none) (hp : ps.length ≤ 8)
    (hw : words.length ≤ 4) (hd : detail < 65536) (hport : p.boardTouched = false)
    (htouched : ∃ b, s.port = { p with boardTouched := b }) :
    State.slotAnswered { s with port := p }
      (((s.taken n r tag ps).finishedSlot r.servedBy n code detail words).closeBoard before) n code detail := by
  have hdispatch := finishedSlot_taken_dispatch s n r tag ps code detail words hqueue hidle
  have htaken := taken_canonical s hm n r tag ps
  refine slotAnswered_closed before hport (finishedSlot_answered _ _ n code detail words htaken hd).1 (fun a ha => ?_)
    (fun k hk => ?_) ?_ ?_ ?_ ?_
  · dsimp only
    rw [finishedSlot_get_ne _ _ n code detail words htaken hw a (by omega), taken_get_ne s hm n r tag ps hp a ha]
  · rw [State.slotState, hdispatch]
    exact slotState_set_ne _ _ _ _ hk
  · rw [hdispatch]
  · rw [hdispatch]
  · simp only [State.finishedSlot, State.taken]
    cases s
    cases htasks
    rfl
  · obtain ⟨b, hb⟩ := htouched
    exact ⟨b, by simp only [State.finishedSlot, State.taken, hb]⟩

/-- The state at the end of the event of a request that is answered from a state its unit left. -/
def State.answeredAt (s before : State) (n : Fin 32) (r : Request) (tag : Half) (ps : List Word) (code : ResultCode)
    (detail : Nat) (words : List Word) : State :=
  ((s.taken n r tag ps).finishedSlot r.servedBy n code detail words).closeBoard before

theorem closeBoard_mem (e before : State) : (e.closeBoard before).mem = e.mem := by rw [closeBoard_frame]

theorem closeBoard_answered (e before : State) (n : Fin 32) (code : ResultCode) (detail : Nat) (h : e.answered n code detail) :
    (e.closeBoard before).answered n code detail := by
  rw [closeBoard_frame]
  exact h

theorem closeBoard_resultWord (e before : State) (n : Fin 32) (i : Fin 4) :
    (e.closeBoard before).resultWord n i = e.resultWord n i := by
  unfold State.resultWord
  rw [closeBoard_mem]

section
variable (s before : State) (n : Fin 32) (r : Request) (tag : Half) (ps : List Word) (code : ResultCode) (detail : Nat)
  (words : List Word)

/-- The answer reads as it was given, and stands in the slot. -/
theorem answeredAt_reads (hm : MemoryCanonical s) (hd : detail < 65536) (hp : ps.length ≤ 8 := by simp)
    (hw : words.length ≤ 4 := by simp) :
    (s.answeredAt before n r tag ps code detail words).answered n code detail ∧
      (∀ i : Fin 4, ∀ h : i.val < words.length,
        (s.answeredAt before n r tag ps code detail words).resultWord n i = (words[i.val]'h).toNat) ∧
      s.slotOnly (s.answeredAt before n r tag ps code detail words) n := by
  have htaken := taken_canonical s hm n r tag ps
  obtain ⟨hanswered, hwords⟩ := finishedSlot_answered _ r.servedBy n code detail words htaken hd
  refine ⟨closeBoard_answered _ _ _ _ _ hanswered, fun i h => ?_, fun a ha => ?_⟩
  · unfold State.answeredAt
    rw [closeBoard_resultWord, hwords i h]
  · unfold State.answeredAt
    rw [closeBoard_mem, finishedSlot_get_ne _ _ n code detail words htaken hw a (by omega),
      taken_get_ne s hm n r tag ps hp a ha]

/-- The answer touches exchange memory, the dispatcher, and of the port unit REQUEST_DONE and the board. -/
theorem answeredAt_frame (hs : s.tasks = []) :
    s.answeredAt before n r tag ps code detail words =
      { s with mem := (s.answeredAt before n r tag ps code detail words).mem
               dispatch := (s.answeredAt before n r tag ps code detail words).dispatch
               port := (s.answeredAt before n r tag ps code detail words).port } := by
  unfold State.answeredAt
  rw [closeBoard_frame]
  simp only [State.finishedSlot, State.taken]
  cases s
  cases hs
  rfl

end

/-- A request that its unit answers at once, from the state the unit left. -/
theorem exec_answered {s b : State} {n : Fin 32} {r : Request} {tag : Half} {ps : List Word} {code : ResultCode}
    {detail : Nat} {words : List Word} (hs : s.sound) (h : s.takesAtOnce n r.servedBy)
    (hserve : (s.taken n r tag ps).serve n r = (b.taken n r tag ps).finishUnit r.servedBy code detail words)
    (hp : ps.length ≤ 8 := by simp) :
    takeEvent s (fun u => u.makeRequest n r tag ps) = .next (b.answeredAt s n r tag ps code detail words) :=
  exec_request hs h (hserve ▸ Carried.answered b n r tag ps code detail words) rfl hp

/-- A request refused or answered with nothing changed outside its slot. -/
theorem exec_slotAnswered {s : State} {n : Fin 32} {r : Request} {tag : Half} {ps : List Word} {code : ResultCode}
    {detail : Nat} {words : List Word} (hs : s.sound) (h : s.takesAtOnce n r.servedBy)
    (hserve : (s.taken n r tag ps).serve n r = (s.taken n r tag ps).finishUnit r.servedBy code detail words)
    (hd : detail < 65536) (hp : ps.length ≤ 8 := by simp) (hw : words.length ≤ 4 := by simp) :
    takeEvent s (fun u => u.makeRequest n r tag ps) = .next (s.answeredAt s n r tag ps code detail words) ∧
      s.slotAnswered (s.answeredAt s n r tag ps code detail words) n code detail := by
  have htakes := h
  obtain ⟨-, -, -, hqueue, hidle⟩ := htakes
  exact ⟨exec_answered hs h hserve hp, slotAnswered_taken s s n r tag ps code detail words s.port hs.2 hs.1.1 hqueue hidle hp
    hw hd hs.1.2 ⟨s.port.boardTouched, rfl⟩⟩

end Sys2Proof.Machine
end

section
/-! The requests of the settings unit: RESET_JOURNAL, ACK_FAULT, LOCK_SETTINGS and APPLY_SETTINGS (R28 to R35). -/

namespace Sys2Proof.Machine

set_option Elab.async false

/-! ## What a unit does to its own fields commutes with the taking of the request -/

section
variable (s : State) (n : Fin 32) (r : Request) (tag : Half) (ps : List Word)

@[simp]
theorem taken_updPort (f : PortUnit → PortUnit) : (s.taken n r tag ps).updPort f = (s.updPort f).taken n r tag ps := by
  simp only [State.taken, State.updPort]

@[simp]
theorem taken_updJournal (f : JournalUnit → JournalUnit) : (s.taken n r tag ps).updJournal f = (s.updJournal f).taken n r tag ps := by
  simp only [State.taken, State.updJournal]

@[simp]
theorem taken_updSettings (f : SettingsUnit → SettingsUnit) : (s.taken n r tag ps).updSettings f = (s.updSettings f).taken n r tag ps := by
  simp only [State.taken, State.updSettings]

@[simp]
theorem taken_updSensor (f : SensorUnit → SensorUnit) : (s.taken n r tag ps).updSensor f = (s.updSensor f).taken n r tag ps := by
  simp only [State.taken, State.updSensor]

@[simp]
theorem taken_updAngle (f : AngleUnit → AngleUnit) : (s.taken n r tag ps).updAngle f = (s.updAngle f).taken n r tag ps := by
  simp only [State.taken, State.updAngle]

@[simp]
theorem taken_updPosture (f : PostureUnit → PostureUnit) : (s.taken n r tag ps).updPosture f = (s.updPosture f).taken n r tag ps := by
  simp only [State.taken, State.updPosture]

@[simp]
theorem taken_updLink (f : LinkUnit → LinkUnit) : (s.taken n r tag ps).updLink f = (s.updLink f).taken n r tag ps := by
  simp only [State.taken, State.updLink]

@[simp]
theorem taken_updAttach (f : AttachUnit → AttachUnit) : (s.taken n r tag ps).updAttach f = (s.updAttach f).taken n r tag ps := by
  simp only [State.taken, State.updAttach]

@[simp]
theorem taken_updPen (f : PenUnit → PenUnit) : (s.taken n r tag ps).updPen f = (s.updPen f).taken n r tag ps := by
  simp only [State.taken, State.updPen]

@[simp]
theorem taken_updAllot (f : AllotUnit → AllotUnit) : (s.taken n r tag ps).updAllot f = (s.updAllot f).taken n r tag ps := by
  simp only [State.taken, State.updAllot]

@[simp]
theorem taken_updSleep (f : SleepUnit → SleepUnit) : (s.taken n r tag ps).updSleep f = (s.updSleep f).taken n r tag ps := by
  simp only [State.taken, State.updSleep]

@[simp]
theorem taken_touchBoard : (s.taken n r tag ps).touchBoard = s.touchBoard.taken n r tag ps := taken_updPort ..

@[simp]
theorem taken_latch (c : Cause) : (s.taken n r tag ps).latch c = (s.latch c).taken n r tag ps := taken_updPort ..

@[simp]
theorem taken_hand_setTasks (ts : List Task) :
    ((s.taken n r tag ps).hand ts).setTasks [.considerQueue] = s.taken n r tag ps := by
  simp only [State.hand, State.setTasks, State.taken]

end

/-- A request answered from a state in which its unit's own fields have changed, and of the port unit the board at most. -/
theorem exec_answeredFrom {s b : State} {n : Fin 32} {r : Request} {tag : Half} {ps : List Word} {code : ResultCode}
    {detail : Nat} {words : List Word} (hs : s.sound) (h : s.takesAtOnce n r.servedBy)
    (hserve : (s.taken n r tag ps).serve n r = (b.taken n r tag ps).finishUnit r.servedBy code detail words)
    (hd : detail < 65536) (hmem : b.mem = s.mem := by rfl) (hdispatch : b.dispatch = s.dispatch := by rfl)
    (htasks : b.tasks = s.tasks := by rfl) (htouched : ∃ x, b.port = { s.port with boardTouched := x } := by exact ⟨_, rfl⟩)
    (hp : ps.length ≤ 8 := by simp) (hw : words.length ≤ 4 := by simp) :
    takeEvent s (fun u => u.makeRequest n r tag ps) = .next (b.answeredAt s n r tag ps code detail words) ∧
      State.slotAnswered { b with port := s.port } (b.answeredAt s n r tag ps code detail words) n code detail ∧
      ∀ i : Fin 4, ∀ h : i.val < words.length,
        (b.answeredAt s n r tag ps code detail words).resultWord n i = (words[i.val]'h).toNat := by
  have hcanonical : MemoryCanonical b := by
    unfold MemoryCanonical
    rw [hmem]
    exact hs.2
  have hqueue : b.dispatch.queue = [] := by
    rw [hdispatch]
    exact h.2.2.2.1
  have hidle : b.servingSlot r.servedBy = none := by
    unfold State.servingSlot
    rw [hdispatch]
    exact h.2.2.2.2
  exact ⟨exec_answered hs h hserve hp,
    slotAnswered_taken b s n r tag ps code detail words s.port hcanonical (htasks.trans hs.1.1) hqueue hidle hp hw hd hs.1.2
      htouched,
    (answeredAt_reads b s n r tag ps code detail words hcanonical hd hp hw).2.1⟩

theorem Carried.handed {t : State} (s : State) (x : Task) (ts : List Task) (hx : doTask x (s.hand ts) = t) :
    Carried 1 (s.hand (x :: ts)) t := Carried.front_eq rfl hx

theorem hand_nil (s : State) : s.hand [] = s := rfl

theorem Carried.handedFinish (s : State) (u : ServingUnit) (code : ResultCode) (detail : Nat) (words : List Word) :
    Carried 1 (s.hand [.finish u code detail words]) (s.finishUnit u code detail words) :=
  Carried.handed s _ [] (congrArg (fun s => s.finishUnit u code detail words) (hand_nil s))

theorem word_toNat (v : Nat) (h : v < 2 ^ 32) : (word v).toNat = v := by
  rw [word, BitVec.toNat_ofNat, Nat.mod_eq_of_lt h]

/-! ## ACK_FAULT (R35) -/

theorem serve_ackFault (s : State) (hm : MemoryCanonical s) (n : Fin 32) (tag : Half) (kind : Word) :
    (s.taken n .ackFault tag [kind]).serve n .ackFault = (s.taken n .ackFault tag [kind]).ackFault kind.toNat := by
  unfold State.serve
  dsimp only
  rw [taken_param s hm n .ackFault tag [kind] (by simp) 0 (by simp)]
  simp only [List.getElem_cons_zero]

theorem faultKind_ofCode_none (v : Nat) (h : 7 < v) : FaultKind.ofCode v = none := by
  unfold FaultKind.ofCode
  split
  all_goals first | omega | rfl

theorem ackFault_bad (s : State) (v : Nat) (h : 7 < v) : s.ackFault v = s.finishUnit .settings .badParameter 0 [] := by
  unfold State.ackFault
  rw [faultKind_ofCode_none v h]

theorem ackFault_active (s : State) (k : FaultKind) (h : (s.faultEntry k).active = true) :
    s.ackFault k.index.val = s.finishUnit .settings .notNow 1 [] := by
  unfold State.ackFault
  rw [faultKind_ofCode_index]
  exact if_pos h

theorem ackFault_inactive (s : State) (k : FaultKind) (h : (s.faultEntry k).active = false) :
    s.ackFault k.index.val = (s.setFault k { active := false, count := 0, firstActive := 0 }).touchBoard.finishUnit .settings
      .ok 0 [word (s.faultEntry k).count] := by
  unfold State.ackFault
  rw [faultKind_ofCode_index]
  exact if_neg (by rw [h]; decide)

theorem faultKind_of_le (v : Nat) (h : v ≤ 7) : ∃ k : FaultKind, v = k.index.val := by
  interval_cases v
  · exact ⟨.lidSensor, rfl⟩
  · exact ⟨.hallConflict, rfl⟩
  · exact ⟨.baseLink, rfl⟩
  · exact ⟨.baseSupply, rfl⟩
  · exact ⟨.latchCoil, rfl⟩
  · exact ⟨.penUnresponsive, rfl⟩
  · exact ⟨.penBattery, rfl⟩
  · exact ⟨.wakeUnanswered, rfl⟩

theorem exec_ackFault_request (s : State) (n : Fin 32) (tag : Half) (kind : Word) :
    exec (.ackFault n tag kind) s = takeEvent s fun u => u.makeRequest n .ackFault tag [kind] := by rfl

/-- ACK_FAULT answered, case by case (R35). -/
theorem exec_ackFault (s : State) (n : Fin 32) (tag : Half) (kind : Word) (hs : s.sound) (h : s.takesAtOnce n .settings) :
    ∃ t, exec (.ackFault n tag kind) s = .next t ∧
      (7 < kind.toNat → s.slotAnswered t n .badParameter 0) ∧
      ∀ k : FaultKind, kind.toNat = k.index.val →
        ((s.faultEntry k).active = true → s.slotAnswered t n .notNow 1) ∧
        ((s.faultEntry k).active = false →
          State.slotAnswered
            { s with settings := { s.settings with
                                   faults := s.settings.faults.set k.index { active := false, count := 0, firstActive := 0 } } }
            t n .ok 0 ∧
          t.resultWord n 0 = (word (s.faultEntry k).count).toNat) := by
  have hserve := serve_ackFault s hs.2 n tag kind
  rw [exec_ackFault_request]
  by_cases hbad : 7 < kind.toNat
  · rw [ackFault_bad _ _ hbad] at hserve
    obtain ⟨hnext, hanswered, -⟩ := exec_answeredFrom hs h hserve (by decide)
    refine ⟨_, hnext, fun _ => hanswered, fun k hk => ?_⟩
    have := k.index.isLt
    omega
  · obtain ⟨k, hk⟩ := faultKind_of_le kind.toNat (by omega)
    have hunique (k' : FaultKind) (hk' : kind.toNat = k'.index.val) : k' = k :=
      faultKind_index_injective _ _ (Fin.ext (hk'.symm.trans hk))
    rw [hk] at hserve
    cases hactive : (s.faultEntry k).active with
    | true =>
      rw [ackFault_active (s.taken n .ackFault tag [kind]) k hactive] at hserve
      obtain ⟨hnext, hanswered, -⟩ := exec_answeredFrom hs h hserve (by decide)
      refine ⟨_, hnext, fun h7 => absurd h7 hbad, fun k' hk' => ?_⟩
      rw [hunique k' hk', hactive]
      exact ⟨fun _ => hanswered, fun e => by cases e⟩
    | false =>
      rw [ackFault_inactive (s.taken n .ackFault tag [kind]) k hactive, State.setFault, taken_updSettings, taken_touchBoard] at hserve
      obtain ⟨hnext, hanswered, hwords⟩ := exec_answeredFrom hs h hserve (by decide)
      refine ⟨_, hnext, fun h7 => absurd h7 hbad, fun k' hk' => ?_⟩
      rw [hunique k' hk', hactive]
      exact ⟨fun e => (by cases e), fun _ => ⟨hanswered, hwords 0 (by simp)⟩⟩

/-! ## RESET_JOURNAL (R32) -/

theorem serve_resetJournal (s : State) (hm : MemoryCanonical s) (n : Fin 32) (tag : Half) (number : Word) :
    (s.taken n .resetJournal tag [number]).serve n .resetJournal =
      (s.taken n .resetJournal tag [number]).resetJournal number.toNat := by
  unfold State.serve
  dsimp only
  rw [taken_param s hm n .resetJournal tag [number] (by simp) 0 (by simp)]
  simp only [List.getElem_cons_zero]

theorem journalOfNumber_val (j : Fin 3) : journalOfNumber j.val = some j := by
  revert j
  decide

theorem journalOfNumber_none (v : Nat) (h : 2 < v) : journalOfNumber v = none := by
  unfold journalOfNumber
  split
  all_goals first | omega | rfl

theorem journalOf_congr {s t : State} (h : s.journal = t.journal) (j : Fin 3) : s.journalOf j = t.journalOf j :=
  congrArg (fun u : JournalUnit => u.journals[j]) h

theorem emptyJournal_journalOf (s : State) (j : Fin 3) : (s.emptyJournal j).journalOf j = Journal.zero :=
  journalOf_updJournalOf_same s j fun _ => Journal.zero

theorem emptyJournal_journalOf_ne (s : State) (j k : Fin 3) (hk : k ≠ j) :
    (s.emptyJournal j).journalOf k = s.journalOf k := journalOf_updJournalOf_ne s j k (fun _ => Journal.zero) hk

/-- The emptied journal's old counts. -/
def State.journalWords (s : State) (j : Fin 3) : List Word := [word (s.used j), word (s.journalOf j).drops]

/-- RESET_JOURNAL carried out: the journal is empty and its counts are answered. -/
theorem resetJournal_carried (s : State) (n : Fin 32) (tag : Half) (number : Word) (j : Fin 3) (hj : number.toNat = j.val)
    (hwait : number = 1 → s.link.receiveQueue = [] ∧ s.link.owed = []) :
    ∃ k ≤ 4, Carried k ((s.taken n .resetJournal tag [number]).resetJournal number.toNat)
      (((s.emptyJournal j).taken n .resetJournal tag [number]).finishedSlot .settings n .ok 0 (s.journalWords j)) := by
  have hanswer := Carried.answered (s.emptyJournal j) n .resetJournal tag [number] .ok 0 (s.journalWords j)
  have hfinish := Carried.handedFinish ((s.emptyJournal j).taken n .resetJournal tag [number]) .settings .ok 0
    (s.journalWords j)
  have hreset : (s.taken n .resetJournal tag [number]).resetJournal number.toNat =
      ((s.emptyJournal j).taken n .resetJournal tag [number]).hand
        ((if j = inputJournal then [.serveReceiveQueue] else []) ++ [.finish .settings .ok 0 (s.journalWords j)]) := by
    unfold State.resetJournal
    rw [hj, journalOfNumber_val]
    dsimp only
    rw [State.emptyJournal, State.updJournalOf, taken_updJournal, taken_updJournal]
    rfl
  rw [hreset]
  by_cases hinput : j = inputJournal
  · have hone : number = 1 := BitVec.eq_of_toNat_eq (hj.trans (by rw [hinput]; rfl))
    obtain ⟨hqueue, howed⟩ := hwait hone
    rw [if_pos hinput]
    have hserve := Carried.handed ((s.emptyJournal j).taken n .resetJournal tag [number]) .serveReceiveQueue
      [.finish .settings .ok 0 (s.journalWords j)] (serveReceiveQueue_idle _ hqueue howed)
    exact ⟨4, le_rfl, (hserve.trans hfinish).trans hanswer⟩
  · rw [if_neg hinput]
    exact ⟨3, by decide, hfinish.trans hanswer⟩

theorem journalWords_length (s : State) (j : Fin 3) : (s.journalWords j).length = 2 := rfl

theorem resetJournal_bad (s : State) (v : Nat) (h : 2 < v) : s.resetJournal v = s.finishUnit .settings .badParameter 0 [] := by
  unfold State.resetJournal
  rw [journalOfNumber_none v h]

theorem exec_resetJournal_request (s : State) (n : Fin 32) (tag : Half) (number : Word) :
    exec (.resetJournal n tag number) s = takeEvent s fun u => u.makeRequest n .resetJournal tag [number] := by rfl

theorem used_lt (s : State) (j : Fin 3) : s.used j < 2 ^ 32 := Nat.lt_of_lt_of_le (BitVec.isLt _) (by decide)

/-- Settles O31: each request by what its word names. -/
theorem resetJournalAndAckFault : Obligations.ResetJournalAndAckFault := by
  unfold Obligations.ResetJournalAndAckFault
  refine ⟨fun s n tag number hs h hwait => ?_, exec_ackFault⟩
  have hserve := serve_resetJournal s hs.2 n tag number
  rw [exec_resetJournal_request]
  by_cases hbad : 2 < number.toNat
  · rw [resetJournal_bad _ _ hbad] at hserve
    have hnext := exec_answered hs h hserve
    obtain ⟨hanswered, -, honly⟩ := answeredAt_reads s s n .resetJournal tag [number] .badParameter 0 [] hs.2 (by decide)
    have hjournal := congrArg State.journal (answeredAt_frame s s n .resetJournal tag [number] .badParameter 0 [] hs.1.1)
    refine ⟨_, hnext, honly, fun _ => ⟨hanswered, hjournal⟩, fun j hj => ?_⟩
    have := j.isLt
    omega
  · obtain ⟨j, hj⟩ : ∃ j : Fin 3, number.toNat = j.val := ⟨⟨number.toNat, by omega⟩, rfl⟩
    obtain ⟨k, hk, hcarried⟩ := resetJournal_carried s n tag number j hj hwait
    rw [← hserve] at hcarried
    have hnext := exec_request hs h hcarried rfl (hk := hk.trans (by decide))
    obtain ⟨hanswered, hwords, honly⟩ := answeredAt_reads (s.emptyJournal j) s n .resetJournal tag [number] .ok 0
      (s.journalWords j) hs.2 (by decide) (by simp) (by simp [journalWords_length])
    have hjournal := congrArg State.journal
      (answeredAt_frame (s.emptyJournal j) s n .resetJournal tag [number] .ok 0 (s.journalWords j) hs.1.1)
    refine ⟨_, hnext, honly, fun h2 => absurd h2 hbad, fun i hi => ?_⟩
    obtain rfl : i = j := Fin.ext (hi.symm.trans hj)
    exact ⟨hanswered, (hwords 0 (by simp [journalWords_length])).trans (word_toNat _ (used_lt s i)),
      hwords 1 (by simp [journalWords_length]), (journalOf_congr hjournal i).trans (emptyJournal_journalOf s i),
      fun k hk => (journalOf_congr hjournal k).trans (emptyJournal_journalOf_ne s i k hk),
      congrArg JournalUnit.gap hjournal, congrArg JournalUnit.quiet hjournal⟩

end Sys2Proof.Machine
end

section
/-! The rules of a sample set: the stages of the angle unit (R61 to R74). -/

namespace Sys2Proof.Machine

set_option Elab.async false

/-! ## What a fault report leaves unchanged -/

theorem reportActive_frame (s : State) (k : FaultKind) :
    s.reportActive k =
      { s with mem := (s.reportActive k).mem, port := (s.reportActive k).port, journal := (s.reportActive k).journal
               settings := { s.settings with faults := (s.reportActive k).settings.faults } } := by
  unfold State.reportActive
  dsimp only
  split
  · rfl
  · rw [offerNotice_frame]
    rfl

theorem reportInactive_frame (s : State) (k : FaultKind) :
    s.reportInactive k =
      { s with mem := (s.reportInactive k).mem, port := (s.reportInactive k).port, journal := (s.reportInactive k).journal
               settings := { s.settings with faults := (s.reportInactive k).settings.faults } } := by
  unfold State.reportInactive
  dsimp only
  split
  · rw [offerNotice_frame]
    rfl
  · rfl

theorem reportActive_active (s : State) (k : FaultKind) : ((s.reportActive k).faultEntry k).active = true := by
  unfold State.reportActive
  dsimp only
  split
  · assumption
  · rw [faultEntry_offerNotice]
    simp [State.faultEntry, State.setFault, State.latch]

theorem reportInactive_inactive (s : State) (k : FaultKind) : ((s.reportInactive k).faultEntry k).active = false := by
  unfold State.reportInactive
  dsimp only
  split
  · rw [faultEntry_offerNotice]
    simp [State.faultEntry, State.setFault]
  · simpa using ‹¬ (s.faultEntry k).active = true›

/-! ## Stages 3 to 6 (R66 to R69, R72) -/

theorem sideAfter_outside (side : Side) (d : Nat) (l f : Bool) (h : ¬ (d < 256 ∨ 3840 < d)) :
    sideAfter side d l f = if d < 2048 then .low else .high := by
  have hzone : inWrapZone d = false := by simpa [inWrapZone] using h
  simp [sideAfter, hzone]

theorem sideAfter_wrapped (side : Side) (d : Nat) (l f : Bool) (h : d < 256 ∨ 3840 < d) :
    sideAfter side d l f = if l = f then side else if l then .low else .high := by
  have hzone : inWrapZone d = true := by simpa [inWrapZone] using h
  cases l <;> cases f <;> simp [sideAfter, hzone]

theorem unwrap_eq (side : Side) (d : Nat) :
    unwrap side d = if d < 256 ∧ side = .high then 4096 else if 3840 < d ∧ side = .low then 0 else d := by
  unfold unwrap
  cases side with
  | low => simp only [reduceCtorEq, and_false, if_false, and_true, ite_self]; split <;> split <;> first | rfl | omega
  | high => simp

/-- A filter step never leads below zero, so it is the integer rule of R72. -/
theorem filterStep_valued (acc a k : Nat) :
    (filterStep true acc a k : Int) = acc + (16 * (a : Int) - acc) / 2 ^ k := by
  have hbound : -(acc : Int) ≤ (16 * (a : Int) - acc) / 2 ^ k := by
    rw [Int.le_ediv_iff_mul_le (by positivity)]
    have hpow : (1 : Int) ≤ 2 ^ k := one_le_pow₀ (by decide)
    nlinarith
  rw [filterStep, if_pos rfl, Int.toNat_of_nonneg (by omega)]

theorem filterStep_unvalued (acc a k : Nat) : filterStep false acc a k = 16 * a := rfl

theorem rawDifference_eq (base lid offset : Nat) (c : Int) :
    (rawDifference base lid offset c : Int) = ((base : Int) - lid + offset + c) % 4096 :=
  Int.toNat_of_nonneg (Int.emod_nonneg _ (by decide))

/-! ## Stages 1 and 2 (R62, R63) -/

section
variable (s : State) (set : SampleSet)

theorem eligibility_signal (hsignal : set.lidGood = false ∨ set.lidSensor = true) :
    s.eligibility set = .unavailable .signal := by
  rcases hsignal with h | h <;> simp [State.eligibility, h]

variable (hsignal : ¬ (set.lidGood = false ∨ set.lidSensor = true))

include hsignal in
theorem eligibility_base (hbase : set.fresh = false ∨ s.baseAttached = false) :
    s.eligibility set = .unavailable .base := by
  simp only [not_or, Bool.not_eq_false, Bool.not_eq_true] at hsignal
  rcases hbase with h | h <;> simp [State.eligibility, h, hsignal]

variable (hbase : ¬ (set.fresh = false ∨ s.baseAttached = false))

include hsignal hbase in
theorem eligibility_saturated (hsaturated : set.saturated = true) : s.eligibility set = .skipped false false := by
  simp only [not_or, Bool.not_eq_false, Bool.not_eq_true] at hsignal hbase
  simp [State.eligibility, hsignal, hbase, hsaturated]

include hsignal hbase in
theorem eligibility_projected (hsaturated : set.saturated = false) :
    s.eligibility set =
      if magnitude set.lidY set.lidZ < s.settings.active.minProj ∨ magnitude set.baseY set.baseZ < s.settings.active.minProj
      then .skipped (decide (magnitude set.lidY set.lidZ < s.settings.active.minProj))
        (decide (magnitude set.baseY set.baseZ < s.settings.active.minProj))
      else .computed := by
  simp only [not_or, Bool.not_eq_false, Bool.not_eq_true] at hsignal hbase
  simp [State.eligibility, hsignal, hbase, hsaturated]

/-! ## Sets without a computed angle (R71, R73, R74) -/

theorem hallAngle_of_one (hattached : s.baseAttached = true) (hone : set.lidClosed ≠ set.foldBack) :
    s.hallAngle set = some (if set.lidClosed then 0 else 4096, if set.lidClosed then .low else .high) := by
  unfold State.hallAngle
  cases hl : set.lidClosed <;> cases hf : set.foldBack <;> simp_all

theorem hallAngle_none (h : ¬ (s.baseAttached = true ∧ set.lidClosed ≠ set.foldBack)) : s.hallAngle set = none := by
  unfold State.hallAngle
  cases hl : set.lidClosed <;> cases hf : set.foldBack <;> simp_all

end

/-- What a set that is neither computed nor substituted returns. -/
def leftResult (lid base : Bool) (loss : Loss) : AngleResult :=
  { difference := 0, lidAngle := 0, baseAngle := 0, degenerateLid := lid, degenerateBase := base, loss := loss }

section
variable (s : State) (set : SampleSet)

theorem angleSet_computed (h : (s.checkHalls set).eligibility set = .computed) :
    s.angleSet set = (s.checkHalls set).computeSet set := by
  simp only [State.angleSet, h]

theorem angleSet_substituted {a : Nat} {side : Side} (hhall : (s.checkHalls set).hallAngle set = some (a, side)) :
    (∀ lid base, (s.checkHalls set).eligibility set = .skipped lid base →
      s.angleSet set = ((s.checkHalls set).filter a .hall side, leftResult lid base .signal)) ∧
    ∀ loss, (s.checkHalls set).eligibility set = .unavailable loss →
      s.angleSet set = ((s.checkHalls set).filter a .hall side, leftResult false false loss) := by
  constructor
  · intro lid base h
    simp only [State.angleSet, h, hhall, leftResult]
  · intro loss h
    simp only [State.angleSet, h, hhall, leftResult]

theorem angleSet_skipped {lid base : Bool} (hhall : (s.checkHalls set).hallAngle set = none)
    (h : (s.checkHalls set).eligibility set = .skipped lid base) :
    s.angleSet set = ((s.checkHalls set).holdSet, leftResult lid base .signal) := by
  simp only [State.angleSet, h, hhall, leftResult]

theorem angleSet_lost {loss : Loss} (hhall : (s.checkHalls set).hallAngle set = none)
    (h : (s.checkHalls set).eligibility set = .unavailable loss) :
    s.angleSet set = ((s.checkHalls set).loseSet, leftResult false false loss) := by
  simp only [State.angleSet, h, hhall, leftResult]

/-! ## The hall check (R61) -/

theorem checkHalls_eq :
    s.checkHalls set =
      if set.lidClosed = true ∧ set.foldBack = true then s.reportActive .hallConflict else s.reportInactive .hallConflict := by
  simp [State.checkHalls]

theorem checkHalls_frame :
    s.checkHalls set =
      { s with mem := (s.checkHalls set).mem, port := (s.checkHalls set).port, journal := (s.checkHalls set).journal
               settings := { s.settings with faults := (s.checkHalls set).settings.faults } } := by
  unfold State.checkHalls
  split
  · exact reportActive_frame s _
  · exact reportInactive_frame s _

theorem checkHalls_conflict :
    ((s.checkHalls set).faultEntry .hallConflict).active = true ↔ set.lidClosed = true ∧ set.foldBack = true := by
  rw [checkHalls_eq]
  split
  · simp [reportActive_active, *]
  · simp [reportInactive_inactive, *]

end

/-! ## A set at the angle unit -/

theorem computeSet_angle (s : State) (set : SampleSet) :
    (s.computeSet set).1.angle =
      let d := (s.computeSet set).2.difference
      let side := sideAfter s.angle.side d set.lidClosed set.foldBack
      let acc := filterStep s.angle.hasValue s.angle.accumulator (unwrap side d) s.settings.active.filterShift
      { s.angle with side := side, accumulator := acc, reported := (acc + 8) / 16, hasValue := true, holdCount := 0
                     quality := .good } := rfl

theorem computeSet_stages (s : State) (set : SampleSet) :
    let t := (s.computeSet set).1
    let r := (s.computeSet set).2
    let d := r.difference
    let wrap := d < 256 ∨ 3840 < d
    let a := if d < 256 ∧ t.angle.side = .high then 4096 else if 3840 < d ∧ t.angle.side = .low then 0 else d
    let A := (s.angle.accumulator : Int)
    (d : Int) = ((r.baseAngle : Int) - r.lidAngle + s.settings.active.offset + s.angle.correction) % 4096 ∧
      r.lidAngle = atan2 set.lidY set.lidZ ∧ r.baseAngle = atan2 set.baseY set.baseZ ∧
      r.degenerateLid = false ∧ r.degenerateBase = false ∧
      (¬ wrap → t.angle.side = if d < 2048 then .low else .high) ∧
      (wrap → set.lidClosed = true → set.foldBack = false → t.angle.side = .low) ∧
      (wrap → set.lidClosed = false → set.foldBack = true → t.angle.side = .high) ∧
      (wrap → set.lidClosed = set.foldBack → t.angle.side = s.angle.side) ∧
      (s.angle.hasValue = false → t.angle.accumulator = 16 * a) ∧
      (s.angle.hasValue = true →
        (t.angle.accumulator : Int) = A + (16 * (a : Int) - A) / 2 ^ s.settings.active.filterShift) ∧
      t.angle.reported = (t.angle.accumulator + 8) / 16 ∧ t.angle.hasValue = true ∧ t.angle.holdCount = 0 ∧
      t.angle.quality = .good ∧ t.angle.calibration = s.angle.calibration ∧ t.angle.correction = s.angle.correction ∧
      t = { s with angle := t.angle } := by
  intro t r d wrap a A
  have hside : t.angle.side = sideAfter s.angle.side d set.lidClosed set.foldBack := rfl
  have ha : a = unwrap t.angle.side d := (unwrap_eq _ _).symm
  have hacc : t.angle.accumulator = filterStep s.angle.hasValue s.angle.accumulator a s.settings.active.filterShift := by
    rw [ha]
    rfl
  refine ⟨rawDifference_eq _ _ _ _, rfl, rfl, rfl, rfl, ?_, ?_, ?_, ?_, ?_, ?_, rfl, rfl, rfl, rfl, rfl, rfl, rfl⟩
  · intro hwrap
    rw [hside, sideAfter_outside _ _ _ _ hwrap]
  · intro hwrap hl hf
    simp [hside, sideAfter_wrapped _ _ _ _ hwrap, hl, hf]
  · intro hwrap hl hf
    simp [hside, sideAfter_wrapped _ _ _ _ hwrap, hl, hf]
  · intro hwrap heq
    simp [hside, sideAfter_wrapped _ _ _ _ hwrap, heq]
  · intro hvalue
    rw [hacc, hvalue, filterStep_unvalued]
  · intro hvalue
    rw [hacc, hvalue, filterStep_valued]

section
variable (s : State) (set : SampleSet)

/-- The angle unit after a substituted set (R71, R72). -/
def State.angleSubstituted : AngleUnit :=
  let a : Nat := if set.lidClosed then 0 else 4096
  let acc := filterStep s.angle.hasValue s.angle.accumulator a s.settings.active.filterShift
  { s.angle with side := if set.lidClosed then .low else .high, accumulator := acc, reported := (acc + 8) / 16
                 hasValue := true, holdCount := 0, quality := .hall }

/-- The angle unit after a set without an angle: held while R73 allows it, else without a value. -/
def State.angleKept (held : Bool) : AngleUnit :=
  if held = true ∧ s.angle.hasValue = true ∧ s.angle.holdCount + 1 < 25 then
    { s.angle with holdCount := s.angle.holdCount + 1, quality := .held }
  else { s.angle with hasValue := false, holdCount := 0, quality := .unavailable }

theorem filter_hall (a : Nat) :
    s.filter a .hall (if set.lidClosed then .low else .high) =
      { s with angle :=
          let acc := filterStep s.angle.hasValue s.angle.accumulator a s.settings.active.filterShift
          { s.angle with side := if set.lidClosed then .low else .high, accumulator := acc, reported := (acc + 8) / 16
                         hasValue := true, holdCount := 0, quality := .hall } } := rfl

theorem holdSet_eq : s.holdSet = { s with angle := s.angleKept true } := by
  unfold State.holdSet State.updAngle State.angleKept
  by_cases hvalue : s.angle.hasValue = true
  · by_cases hcount : s.angle.holdCount + 1 < 25 <;> simp [hvalue, hcount]
  · simp only [Bool.not_eq_true] at hvalue
    simp [hvalue]

theorem loseSet_eq : s.loseSet = { s with angle := s.angleKept false } := by
  simp [State.loseSet, State.updAngle, State.angleKept]

/-- The hall check leaves what the stages read. -/
theorem checkHalls_reads :
    (s.checkHalls set).angle = s.angle ∧ (s.checkHalls set).settings.active = s.settings.active ∧
      (s.checkHalls set).baseAttached = s.baseAttached := by
  have hframe := checkHalls_frame s set
  have hangle := congrArg State.angle hframe
  have hactive := congrArg (fun s => s.settings.active) hframe
  have hattached := congrArg State.baseAttached hframe
  exact ⟨hangle, hactive, hattached⟩

theorem checkHalls_angleKept (held : Bool) : (s.checkHalls set).angleKept held = s.angleKept held := by
  unfold State.angleKept
  rw [(checkHalls_reads s set).1]

/-- A set that is not computed, by its result and whether it is skipped. -/
theorem angleSet_left {lid base : Bool} {loss : Loss} {held : Bool}
    (h : (s.checkHalls set).eligibility set = (if held then .skipped lid base else .unavailable loss))
    (hresult : if held then loss = .signal else lid = false ∧ base = false) :
    (s.angleSet set).2 = leftResult lid base loss ∧
      (s.baseAttached = true ∧ set.lidClosed ≠ set.foldBack →
        (s.angleSet set).1 = { s.checkHalls set with angle := s.angleSubstituted set }) ∧
      (¬ (s.baseAttached = true ∧ set.lidClosed ≠ set.foldBack) →
        (s.angleSet set).1 = { s.checkHalls set with angle := s.angleKept held }) := by
  obtain ⟨hangle, hactive, hattached⟩ := checkHalls_reads s set
  by_cases hsubst : s.baseAttached = true ∧ set.lidClosed ≠ set.foldBack
  · have hhall := hallAngle_of_one (s.checkHalls set) set (hattached.trans hsubst.1) hsubst.2
    have hfilter := filter_hall (s.checkHalls set) set (if set.lidClosed then 0 else 4096)
    rw [hangle, hactive] at hfilter
    cases held with
    | true =>
      obtain rfl : loss = .signal := hresult
      rw [(angleSet_substituted s set hhall).1 lid base h]
      exact ⟨rfl, fun _ => hfilter, fun hnot => absurd hsubst hnot⟩
    | false =>
      obtain ⟨rfl, rfl⟩ : lid = false ∧ base = false := by simpa using hresult
      rw [(angleSet_substituted s set hhall).2 loss h]
      exact ⟨rfl, fun _ => hfilter, fun hnot => absurd hsubst hnot⟩
  · have hhall := hallAngle_none (s.checkHalls set) set (by rwa [hattached])
    cases held with
    | true =>
      obtain rfl : loss = .signal := hresult
      rw [angleSet_skipped s set hhall h, holdSet_eq, checkHalls_angleKept]
      exact ⟨rfl, fun hyes => absurd hyes hsubst, fun _ => rfl⟩
    | false =>
      obtain ⟨rfl, rfl⟩ : lid = false ∧ base = false := by simpa using hresult
      rw [angleSet_lost s set hhall h, loseSet_eq, checkHalls_angleKept]
      exact ⟨rfl, fun hyes => absurd hyes hsubst, fun _ => rfl⟩

/-- The integer form of the filter step that the rule of R72 writes. -/
theorem filterStep_toNat (hasValue : Bool) (acc a k : Nat) :
    filterStep hasValue acc a k = if hasValue then ((acc : Int) + (16 * (a : Int) - acc) / 2 ^ k).toNat else 16 * a := rfl

end

/-! ## The tests of R62 and R63 as properties of a set -/

def SampleSet.noSignal (set : SampleSet) : Prop := set.lidGood = false ∨ set.lidSensor = true

section
variable (s : State) (set : SampleSet)

def State.noBase : Prop := set.fresh = false ∨ s.baseAttached = false

def State.lowProjection (y z : Int) : Prop := magnitude y z < s.settings.active.minProj

/-- The set reaches the projection test. -/
def State.projected : Prop := ¬ set.noSignal ∧ ¬ s.noBase set ∧ set.saturated = false

theorem eligibility_computed (h : s.projected set) (hlid : ¬ s.lowProjection set.lidY set.lidZ)
    (hbase : ¬ s.lowProjection set.baseY set.baseZ) : s.eligibility set = .computed :=
  (eligibility_projected s set h.1 h.2.1 h.2.2).trans (if_neg (not_or.mpr ⟨hlid, hbase⟩))

/-- A set that is not computed is skipped or without a value, with the flags and the loss of the first failed test. -/
theorem eligibility_left
    (h : ¬ (s.projected set ∧ ¬ s.lowProjection set.lidY set.lidZ ∧ ¬ s.lowProjection set.baseY set.baseZ)) :
    ∃ (lid base : Bool) (loss : Loss) (held : Bool),
      s.eligibility set = (if held then .skipped lid base else .unavailable loss) ∧
        (if held then loss = .signal else lid = false ∧ base = false) ∧
        (held = true ↔ ¬ set.noSignal ∧ ¬ s.noBase set) ∧
        (lid = true ↔ s.projected set ∧ s.lowProjection set.lidY set.lidZ) ∧
        (base = true ↔ s.projected set ∧ s.lowProjection set.baseY set.baseZ) ∧
        (set.noSignal → loss = .signal) ∧ (¬ set.noSignal → s.noBase set → loss = .base) := by
  by_cases hs : set.noSignal
  · exact ⟨false, false, .signal, false, eligibility_signal s set hs, by simp, by simp [hs], by simp [State.projected, hs],
      by simp [State.projected, hs], fun _ => rfl, fun e => absurd hs e⟩
  by_cases hb : s.noBase set
  · exact ⟨false, false, .base, false, eligibility_base s set hs hb, by simp, by simp [hb], by simp [State.projected, hb],
      by simp [State.projected, hb], fun e => absurd e hs, fun _ _ => rfl⟩
  cases hsat : set.saturated with
  | true =>
    exact ⟨false, false, .signal, true, eligibility_saturated s set hs hb hsat, rfl, by simp [hs, hb],
      by simp [State.projected, hsat], by simp [State.projected, hsat], fun _ => rfl, fun _ e => absurd e hb⟩
  | false =>
    have hprojected : s.projected set := ⟨hs, hb, hsat⟩
    have hlow : s.lowProjection set.lidY set.lidZ ∨ s.lowProjection set.baseY set.baseZ := by
      by_contra hnot
      exact h ⟨hprojected, not_or.mp hnot⟩
    refine ⟨_, _, .signal, true, (eligibility_projected s set hs hb hsat).trans (if_pos hlow), rfl, by simp [hs, hb], ?_, ?_,
      fun _ => rfl, fun _ e => absurd e hb⟩
    · simp [hprojected, State.lowProjection]
    · simp [hprojected, State.lowProjection]

/-- Only the hall check reports a fault. -/
theorem angleSet_settings : (s.angleSet set).1.settings = (s.checkHalls set).settings := by
  unfold State.angleSet
  dsimp only
  split
  · rfl
  · split <;> rfl
  · split <;> rfl

end

/-- Settles O57: a set by its eligibility. -/
theorem angleOfSet : Obligations.AngleOfSet := by
  unfold Obligations.AngleOfSet
  refine ⟨computeSet_stages, fun s set => ?_⟩
  intro low noSignal noBase tested computed substituted checked t r a A acc
  obtain ⟨hangle, hactive, hattached⟩ := checkHalls_reads s set
  have hchecked : s.checkHalls set = checked := checkHalls_eq s set
  have hlow (y z : Int) : (s.checkHalls set).lowProjection y z ↔ low y z := by
    unfold State.lowProjection
    rw [hactive]
    rfl
  have htested : (s.checkHalls set).projected set ↔ tested := by
    unfold State.projected State.noBase
    rw [hattached]
    rfl
  have hleft (hnot : ¬ computed) := eligibility_left (s.checkHalls set) set
    (by rw [htested, hlow, hlow]; exact hnot)
  refine ⟨?_, ?_, fun hnot => ?_⟩
  · unfold State.faultEntry
    rw [angleSet_settings]
    exact checkHalls_conflict s set
  · rintro ⟨htest, hlid, hbase⟩
    rw [angleSet_computed s set (eligibility_computed _ _ (htested.mpr htest) (by rwa [hlow]) (by rwa [hlow])), hchecked]
  · obtain ⟨lid, base, loss, held, helig, hresult, hheld, hlid, hbase, hsignal, hloss⟩ := hleft hnot
    obtain ⟨hr, hsubst, hkept⟩ := angleSet_left s set helig hresult
    have hunit : t = { checked with angle := if substituted then s.angleSubstituted set else s.angleKept held } := by
      by_cases hs : substituted
      · rw [if_pos hs, ← hchecked]
        exact hsubst hs
      · rw [if_neg hs, ← hchecked]
        exact hkept hs
    have hta := congrArg State.angle hunit
    have hresult : r = leftResult lid base loss := hr
    rw [htested, hlow] at hlid hbase
    have hnoBase : (s.checkHalls set).noBase set ↔ noBase := by
      unfold State.noBase
      rw [hattached]
    rw [hnoBase] at hheld hloss
    refine ⟨?_, ?_, ?_, ?_, ?_, ?_, ?_, ?_, ?_⟩
    · rw [hta]
      exact hunit
    · rw [hresult]; rfl
    · rw [hresult]; rfl
    · rw [hresult]; rfl
    · rw [hresult]; exact hlid
    · rw [hresult]; exact hbase
    · rw [hresult]; exact hsignal
    · rw [hresult]
      exact hloss
    · rw [hta]
      refine if_congr Iff.rfl rfl ?_
      unfold State.angleKept
      exact if_congr (by rw [hheld, and_assoc]; rfl) rfl rfl

end Sys2Proof.Machine
end

section
/-! The rules of a sample set: the display orientation (R98 to R100). -/

namespace Sys2Proof.Machine

set_option Elab.async false

/-! ## The angle of the atan2 circuit is below a turn (R65) -/

theorem atanRom_le : ∀ piece ∈ atanRom, ∀ v ∈ piece, v ≤ 512 := by decide +kernel

theorem romEntry_le (r : Nat) : romEntry r ≤ 512 := by
  unfold romEntry
  rcases Nat.lt_or_ge (r / 128) atanRom.length with hpiece | hpiece
  · rw [List.getD_eq_getElem _ _ hpiece]
    rcases Nat.lt_or_ge (r % 128) (atanRom[r / 128]).length with hentry | hentry
    · rw [List.getD_eq_getElem _ _ hentry]
      exact atanRom_le _ (List.getElem_mem hpiece) _ (List.getElem_mem hentry)
    · rw [List.getD_eq_default _ _ hentry]
      exact Nat.zero_le _
  · rw [List.getD_eq_default _ _ hpiece]
    exact Nat.zero_le _

theorem octantAngle_le (p q : Nat) : octantAngle p q ≤ 1024 := by
  unfold octantAngle
  split
  · exact (romEntry_le _).trans (by decide)
  · exact Nat.sub_le _ _

theorem atan2_lt (s c : Int) : atan2 s c < 4096 := by
  have hphi := octantAngle_le c.natAbs s.natAbs
  unfold atan2
  dsimp only
  split
  · split
    · omega
    · exact Nat.mod_lt _ (by decide)
  · split <;> omega

/-! ## What an orientation evaluation does, case by case -/

theorem atLimit_iff (w : Int) : atLimit w = true ↔ w.natAbs = 32767 := by
  simp only [atLimit, Bool.or_eq_true, beq_iff_eq]
  omega

theorem ofCode_mod (n : Nat) : Orientation.ofCode (n % 4) = Orientation.ofCode n := by
  unfold Orientation.ofCode
  rw [Nat.mod_mod]

section
variable (s : State) (set : SampleSet)

/-- The lid's reading counts for the orientation (R98). -/
def SampleSet.usable (set : SampleSet) : Prop :=
  set.lidGood = true ∧ set.lidSensor = false ∧ set.lidX.natAbs ≠ 32767 ∧ set.lidY.natAbs ≠ 32767 ∧ set.lidZ.natAbs ≠ 32767

theorem usable_iff :
    (set.lidGood && !set.lidSensor && !(atLimit set.lidX || atLimit set.lidY || atLimit set.lidZ)) = true ↔ set.usable := by
  simp only [Bool.and_eq_true, Bool.not_eq_true', ← Bool.not_eq_true, Bool.or_eq_true, atLimit_iff, SampleSet.usable]
  tauto

/-- The posture unit after a set that shows an orientation. -/
def State.oriented (o : Orientation) : PostureUnit := { s.posture with flat := false, sensed := o }

theorem evaluateOrientation_unusable (h : ¬ set.usable) : s.evaluateOrientation set = s := by
  unfold State.evaluateOrientation
  exact if_neg (by rwa [usable_iff])

theorem evaluateOrientation_flat (h : set.usable) (hflat : magnitude set.lidX set.lidY < s.settings.active.flatMin) :
    s.evaluateOrientation set = { s with posture := { s.posture with flat := true } } := by
  unfold State.evaluateOrientation
  rw [if_pos ((usable_iff set).mpr h), if_pos hflat]
  rfl

/-- The orientation a set shows (R99). -/
def State.sensedBy : Orientation :=
  sensedAfter s.posture.sensed (atan2 set.lidX set.lidY) s.settings.active.rotationHysteresis

theorem evaluateOrientation_seen (h : set.usable) (hflat : ¬ magnitude set.lidX set.lidY < s.settings.active.flatMin) :
    s.evaluateOrientation set =
      if s.rotationAllowed = true ∧ s.posture.lock = none then
        State.compareOrientation { s with posture := s.oriented (s.sensedBy set) }
      else { s with posture := s.oriented (s.sensedBy set) } := by
  unfold State.evaluateOrientation
  rw [if_pos ((usable_iff set).mpr h), if_neg hflat]
  rfl

theorem compareOrientation_same (h : s.posture.sensed = s.posture.oriented) :
    s.compareOrientation =
      { s with posture := { s.posture with orientationCandidate := s.posture.oriented, orientationDwell := none } } := by
  unfold State.compareOrientation
  rw [if_pos h]
  rfl

theorem compareOrientation_turned (h : s.posture.sensed ≠ s.posture.oriented) :
    s.compareOrientation =
      if s.posture.orientationDwell.isSome ∧ s.posture.orientationCandidate = s.posture.sensed then s
      else if s.settings.active.orientationDwell = 0 then s.commitOrientation s.posture.sensed 0
      else
        { s with posture := { s.posture with
                              orientationCandidate := s.posture.sensed
                              orientationDwell := s.start s.settings.active.orientationDwell } } := by
  unfold State.compareOrientation
  rw [if_neg h]
  rfl

theorem sensedBy_eq :
    s.sensedBy set =
      let omega := atan2 set.lidX set.lidY
      let apart := (omega + 4096 - 1024 * s.posture.sensed.code) % 4096
      if 512 + s.settings.active.rotationHysteresis < min apart (4096 - apart) then
        Orientation.ofCode ((omega + 512) / 1024 % 4)
      else s.posture.sensed := by
  dsimp only
  rw [ofCode_mod]
  rfl

end

/-- Settles O59: the three cases of a set, and the comparison where the orientation is free. -/
theorem orientationOfSet : Obligations.OrientationOfSet := by
  unfold Obligations.OrientationOfSet
  intro s set t x y usable flat omega apart turned sensed after seen free
  have hsensed : s.sensedBy set = sensed := sensedBy_eq s set
  refine ⟨evaluateOrientation_unusable s set, evaluateOrientation_flat s set, fun hu hflat => ⟨atan2_lt _ _, ?_⟩⟩
  have ht : t = if s.rotationAllowed = true ∧ s.posture.lock = none then (after seen).compareOrientation else after seen := by
    have heval := evaluateOrientation_seen s set hu hflat
    rwa [hsensed] at heval
  refine ⟨fun hlocked => ht.trans (if_neg hlocked), fun hfree hsame => ?_, fun hfree hturned => ?_⟩
  · exact (ht.trans (if_pos hfree)).trans (compareOrientation_same (after seen) hsame)
  · exact (ht.trans (if_pos hfree)).trans (compareOrientation_turned (after seen) hturned)

end Sys2Proof.Machine
end

section
/-! The rules of a sample set: the posture evaluation (R83 to R85, R89 to R91, R93 to R95). -/

namespace Sys2Proof.Machine

set_option Elab.async false

/-! ## Bands -/

theorem poseAfter_eq (pose : BasePose) (fresh : Bool) (z : Int) :
    poseAfter pose fresh z =
      if fresh = false then .unknown else if 3547 ≤ z.natAbs then .flat else if z.natAbs ≤ 2048 then .upright else pose := by
  cases fresh <;> rfl

theorem admits_iff (b : Band) (pose : BasePose) :
    b.pose.admits pose = true ↔ b.pose = .any ∨ b.pose = .flat ∧ pose = .flat ∨ b.pose = .upright ∧ pose = .upright := by
  cases h : b.pose <;> simp [PoseCondition.admits]

theorem fits_iff (b : Band) (a : Nat) (pose : BasePose) :
    b.fits a pose = true ↔ b.lower ≤ a ∧ a ≤ b.upper ∧ b.pose.admits pose = true := by
  simp [Band.fits, and_assoc]

theorem keeps_iff (b : Band) (a : Nat) (pose : BasePose) :
    b.keeps a pose = true ↔ b.lower ≤ a + b.margin ∧ a ≤ b.upper + b.margin ∧ b.pose.admits pose = true := by
  simp only [Band.keeps, Bool.and_eq_true, decide_eq_true_eq]
  tauto

/-- The first band that fits, counted from an index on. -/
theorem firstFit_of_first (a : Nat) (pose : BasePose) (k i : Nat) (b : Band) (bands : List Band) (hi : bands[i]? = some b)
    (hfits : b.fits a pose = true) (hbefore : ∀ c ∈ bands.take i, ¬ c.fits a pose = true) :
    firstFit a pose k bands = some (k + i, b) := by
  induction bands generalizing k i with
  | nil => simp at hi
  | cons c bands ih =>
    cases i with
    | zero =>
      obtain rfl : c = b := by simpa using hi
      simp [firstFit, hfits]
    | succ i =>
      simp only [List.take_succ_cons, List.mem_cons, forall_eq_or_imp] at hbefore
      simp only [firstFit, if_neg hbefore.1]
      rw [ih (k + 1) i (by simpa using hi) hbefore.2, Nat.add_right_comm, Nat.add_assoc]

theorem firstFit_none (a : Nat) (pose : BasePose) (k : Nat) (bands : List Band) (h : ∀ c ∈ bands, ¬ c.fits a pose = true) :
    firstFit a pose k bands = none := by
  induction bands generalizing k with
  | nil => rfl
  | cons c bands ih =>
    simp only [List.mem_cons, forall_eq_or_imp] at h
    simp only [firstFit, if_neg h.1]
    exact ih (k + 1) h.2

/-! ## The evaluation, by what is committed -/

section
variable (s : State)

theorem evaluatePosture_detached (h : s.attach.state = .detached) : s.evaluatePosture = s.commitDetached := by
  unfold State.evaluatePosture
  rw [h]

theorem baseAttached_cases (h : s.baseAttached = true) :
    s.attach.state = .attached ∨ s.attach.state = .degraded ∨ s.attach.state = .releasing ∨
      s.attach.state = .awaitingRemoval := by
  cases hstate : s.attach.state <;> simp [State.baseAttached, AttachState.baseAttached, hstate] at h ⊢

/-- The posture unit once the base is measured: the unavailable timer is stopped. -/
def State.measured : State := s.updPosture fun u => { u with unavailable := none }

/-- The evaluation of a measured set, by what is committed. -/
def State.evaluateMeasured : State :=
  if s.posture.posture ≠ .detached ∧ s.posture.posture ≠ .unknown then s.measured.evaluateBand else s.measured.evaluateUnbanded

theorem evaluatePosture_attached (h : s.baseAttached = true) :
    s.evaluatePosture = if s.posture.lastQuality = .unavailable then s.evaluateLost else s.evaluateMeasured := by
  have hmeasured : s.evaluateMeasured =
      match s.measured.posture.posture with
      | .detached | .unknown => s.measured.evaluateUnbanded
      | .closed | .laptop | .stand | .tent | .tablet => s.measured.evaluateBand := by
    unfold State.evaluateMeasured State.measured
    cases hp : s.posture.posture <;> simp [hp]
  rw [hmeasured]
  unfold State.evaluatePosture
  obtain h | h | h | h := baseAttached_cases s h <;> rw [h] <;> cases s.posture.lastQuality <;> rfl

theorem evaluatePosture_lost (h : s.attach.state = .seating ∨ s.baseAttached = true ∧ s.posture.lastQuality = .unavailable) :
    s.evaluatePosture = s.evaluateLost := by
  rcases h with h | ⟨hattached, hquality⟩
  · unfold State.evaluatePosture
    rw [h]
  · rw [evaluatePosture_attached s hattached, if_pos hquality]

theorem evaluateLost_eq :
    s.evaluateLost =
      { s with posture := { s.posture with
          candidate := none, dwell := none
          unavailable :=
            if s.attach.state = .seating ∧ s.posture.posture = .detached then none
            else if s.posture.posture ≠ .unknown ∧ s.posture.unavailable = none then s.start 2000
            else s.posture.unavailable } } := by
  unfold State.evaluateLost
  by_cases hseating : s.attach.state = .seating ∧ s.posture.posture = .detached
  · rw [if_pos hseating]
    exact if_pos hseating
  · by_cases hstart : s.posture.posture ≠ .unknown ∧ s.posture.unavailable = none
    · rw [if_neg hseating, if_pos hstart]
      exact (if_neg hseating).trans (if_pos hstart)
    · rw [if_neg hseating, if_neg hstart]
      exact (if_neg hseating).trans (if_neg hstart)

/-! ## The evaluation of a measured base -/

/-- The posture unit with the out-of-table flag set, and the dwell stopped. -/
def State.stays (out : Bool) : State :=
  { s with posture := { s.posture with outOfTable := out, candidate := none, dwell := none } }

def State.flagged (out : Bool) : State := { s with posture := { s.posture with outOfTable := out } }

variable {i : Nat} {b : Band} (hband : s.posture.band = some i) (hb : s.settings.table[i]? = some b)

include hband hb in
theorem committedBand_eq : s.committedBand = some b := by
  unfold State.committedBand
  rw [hband]
  exact hb

include hband hb in
theorem evaluateBand_kept (h : b.keeps s.posture.lastAngle s.posture.basePose = true) : s.evaluateBand = s.stays false := by
  simp only [State.evaluateBand, committedBand_eq s hband hb, h, if_true]
  rfl

include hband hb in
theorem evaluateBand_left (h : ¬ b.keeps s.posture.lastAngle s.posture.basePose = true) :
    (s.firstBand = none → s.evaluateBand = s.stays true) ∧
      ∀ j c, s.firstBand = some (j, c) →
        s.evaluateBand = if i = j then s.stays false else (s.flagged false).considerBand j c := by
  simp only [State.evaluateBand, committedBand_eq s hband hb, if_neg h]
  constructor
  · intro hnone
    rw [hnone]
    rfl
  · intro j c hfirst
    rw [hfirst]
    exact if_congr (by rw [hband, Option.some_inj]) rfl rfl

end

theorem evaluateUnbanded_first (s : State) (j : Nat) (c : Band) (h : s.firstBand = some (j, c)) :
    s.evaluateUnbanded = (s.flagged false).commitPosture c.posture (some j) 3 := by
  simp only [State.evaluateUnbanded, h]
  rfl

theorem evaluateUnbanded_none (s : State) (h : s.firstBand = none) :
    s.evaluateUnbanded =
      if s.posture.posture = .detached then (s.flagged true).commitPosture .unknown none 3 else s.flagged true := by
  simp only [State.evaluateUnbanded, h]
  rfl

/-- The state in which the posture is evaluated after a set. -/
def State.posed (s : State) (set : SampleSet) : State :=
  { s with
    posture := { s.posture with lastAngle := s.angle.reported, lastQuality := s.angle.quality
                                basePose := poseAfter s.posture.basePose set.fresh set.baseZ }
    tasks := .evaluateOrientation set :: s.tasks }

theorem postureSet_eq (s : State) (set : SampleSet) : s.postureSet set = (s.posed set).evaluatePosture := rfl

/-- Settles O58: the evaluation by the attachment state, the quality, and what is committed. -/
theorem postureOfSet : Obligations.PostureOfSet := by
  unfold Obligations.PostureOfSet
  intro s set u pose a admits fits kept first outside taken after lost measured banded stays
  have hpose : poseAfter s.posture.basePose set.fresh set.baseZ = pose := poseAfter_eq _ _ _
  have htaken : s.posed set = after taken := by
    unfold State.posed
    rw [hpose]
  have hu : u = (after taken).evaluatePosture := by
    rw [← htaken]
    exact postureSet_eq s set
  have hfits (b : Band) : b.fits a pose = true ↔ fits b := by rw [fits_iff, admits_iff]
  have hkept (b : Band) : b.keeps a pose = true ↔ kept b := by rw [keeps_iff, admits_iff]
  have hfirst (j : Nat) (c : Band) (h : first j c) : (after taken).measured.firstBand = some (j, c) := by
    obtain ⟨hj, hc, hbefore⟩ := h
    have := firstFit_of_first a pose 0 j c s.settings.table hj ((hfits c).mpr hc) fun d hd => by
      rw [hfits]
      exact hbefore d hd
    rwa [Nat.zero_add] at this
  have hnone (h : outside) : (after taken).measured.firstBand = none :=
    firstFit_none a pose 0 s.settings.table fun c hc => by
      rw [hfits]
      exact h c hc
  have hmeasured (hm : measured) : u = (after taken).evaluateMeasured :=
    (hu.trans (evaluatePosture_attached (after taken) hm.1)).trans (if_neg hm.2)
  refine ⟨fun hdetached => ?_, fun hlost => ?_, fun hm hb i b hi hib => ?_, fun hm hb => ?_⟩
  · exact hu.trans (evaluatePosture_detached (after taken) hdetached)
  · exact (hu.trans (evaluatePosture_lost (after taken) hlost)).trans (evaluateLost_eq (after taken))
  · have heval : u = (after taken).measured.evaluateBand := (hmeasured hm).trans (if_pos hb)
    have hkeeps (h : kept b) : u = after (stays false) :=
      heval.trans (evaluateBand_kept (after taken).measured hi hib ((hkept b).mpr h))
    have hleaves (h : ¬ kept b) := evaluateBand_left (after taken).measured hi hib (by rwa [← hkept] at h)
    refine ⟨fun h => ?_, fun h hout => heval.trans ((hleaves h).1 (hnone hout)), fun j c h hne hj => ?_⟩
    · by_cases hk : kept b
      · exact hkeeps hk
      · exact heval.trans (((hleaves hk).2 i b (hfirst i b (h.resolve_left hk))).trans (if_pos rfl))
    · exact heval.trans (((hleaves h).2 j c (hfirst j c hj)).trans (if_neg hne.symm))
  · have heval : u = (after taken).measured.evaluateUnbanded := (hmeasured hm).trans (if_neg hb)
    exact ⟨fun j c hj => heval.trans (evaluateUnbanded_first _ j c (hfirst j c hj)),
      fun hout => heval.trans (evaluateUnbanded_none _ (hnone hout))⟩

end Sys2Proof.Machine
end

section
/-! States up to what notices and attention leave of exchange memory, the port unit and the journals. -/

namespace Sys2Proof.Machine

set_option Elab.async false

/-! ## Drift -/

/-- The notice of a write count stands in the journal and has not been read. -/
def State.unread (s : State) (w : Half) : Prop :=
  (w - (s.journalOf noticeJournal).readCount).toNat < s.used noticeJournal

/-- The notices not read in s stand in e as they were. -/
def State.unreadIn (s e : State) : Prop :=
  ∀ w, s.unread w → e.unread w ∧ ∀ a, noticePlace w ≤ a → a < noticePlace w + 16 → e.mem.get a = s.mem.get a

theorem unreadIn_refl (s : State) : s.unreadIn s := fun _ hw => ⟨hw, fun _ _ _ => rfl⟩

theorem State.unreadIn.trans {s t u : State} (h : s.unreadIn t) (h' : t.unreadIn u) : s.unreadIn u := fun w hw => by
  obtain ⟨ht, hmem⟩ := h w hw
  obtain ⟨hu, hmem'⟩ := h' w ht
  exact ⟨hu, fun a ha hb => (hmem' a ha hb).trans (hmem a ha hb)⟩

/-- What an event's notices, latched causes and board fields may do from s to e: the Notice Journal and its region grow, with
no notice overwritten that is not read, causes are latched, those of L among them, and the board is rewritten. A quiet drift
offers no notice. -/
structure Drift (quiet : Bool) (L : BitVec 10) (s e : State) : Prop where
  host : e.port.hostSide = s.port.hostSide
  latch : (s.port.attnLatch ||| L) &&& e.port.attnLatch = s.port.attnLatch ||| L
  canonical : MemoryCanonical s → MemoryCanonical e
  memory : MemoryCanonical s → ∀ a, a < 0x2800 → e.mem.get a = s.mem.get a
  journals : ∀ k, k ≠ noticeJournal → e.journalOf k = s.journalOf k
  timer : e.journal.quiet = s.journal.quiet
  records : MemoryCanonical s → s.unreadIn e
  still : quiet = true → e.mem = s.mem ∧ e.journal = s.journal

variable {q : Bool} {L M : BitVec 10} {s t u e : State}

theorem Drift.refl (q : Bool) (s : State) : Drift q 0 s s :=
  ⟨rfl, by simp, id, fun _ _ _ => rfl, fun _ _ => rfl, rfl, fun _ => unreadIn_refl s, fun _ => ⟨rfl, rfl⟩⟩

theorem latch_join {a b c l m : BitVec 10} (hab : (a ||| l) &&& b = a ||| l) (hbc : (b ||| m) &&& c = b ||| m) :
    (a ||| (l ||| m)) &&& c = a ||| (l ||| m) := by
  refine BitVec.eq_of_getLsbD_eq fun i _ => ?_
  have h1 := congrArg (fun x : BitVec 10 => x.getLsbD i) hab
  have h2 := congrArg (fun x : BitVec 10 => x.getLsbD i) hbc
  simp only [BitVec.getLsbD_and, BitVec.getLsbD_or] at h1 h2 ⊢
  grind

theorem Drift.trans (h : Drift q L s t) (h' : Drift q M t u) : Drift q (L ||| M) s u where
  host := h'.host.trans h.host
  latch := latch_join h.latch h'.latch
  canonical := h'.canonical ∘ h.canonical
  memory hm a ha := (h'.memory (h.canonical hm) a ha).trans (h.memory hm a ha)
  journals k hk := (h'.journals k hk).trans (h.journals k hk)
  timer := h'.timer.trans h.timer
  records hm := (h.records hm).trans (h'.records (h.canonical hm))
  still hq := ⟨(h'.still hq).1.trans (h.still hq).1, (h'.still hq).2.trans (h.still hq).2⟩

/-- A drift latches less than it does. -/
theorem Drift.weaken (h : Drift q (L ||| M) s t) : Drift q L s t where
  host := h.host
  latch := by
    refine BitVec.eq_of_getLsbD_eq fun i _ => ?_
    have h1 := congrArg (fun x : BitVec 10 => x.getLsbD i) h.latch
    simp only [BitVec.getLsbD_and, BitVec.getLsbD_or] at h1 ⊢
    grind
  canonical := h.canonical
  memory := h.memory
  journals := h.journals
  timer := h.timer
  records := h.records
  still := h.still

theorem Drift.latched (h : Drift q L s t) (i : Nat) (hi : L.getLsbD i = true) : t.port.attnLatch.getLsbD i = true := by
  have hbit := congrArg (fun x : BitVec 10 => x.getLsbD i) h.latch
  simp only [BitVec.getLsbD_and, BitVec.getLsbD_or, hi, Bool.or_true, Bool.true_and] at hbit
  exact hbit

/-! ## States up to drift -/

/-- The fields of s with the memory, port and journals of a. -/
def State.withNoise (s a : State) : State := { s with mem := a.mem, port := a.port, journal := a.journal }

/-- The state e is t up to a drift. -/
structure Becomes (q : Bool) (L : BitVec 10) (e t : State) : Prop where
  frame : e = t.withNoise e
  drift : Drift q L t e

theorem Becomes.refl (q : Bool) (s : State) : Becomes q 0 s s := ⟨rfl, .refl q s⟩

/-- A drift between two states' noises alone. -/
theorem Becomes.of_port (p : PortUnit) (hhost : p.hostSide = s.port.hostSide)
    (hlatch : (s.port.attnLatch ||| L) &&& p.attnLatch = s.port.attnLatch ||| L) : Becomes q L { s with port := p } s :=
  ⟨rfl, ⟨hhost, hlatch, id, fun _ _ _ => rfl, fun _ _ => rfl, rfl, fun _ => unreadIn_refl s, fun _ => ⟨rfl, rfl⟩⟩⟩

theorem Becomes.touchBoard (s : State) : Becomes q 0 s.touchBoard s :=
  .of_port _ rfl (by simp)

theorem Becomes.latch (s : State) (c : Cause) : Becomes q c.mask (s.latch c) s :=
  .of_port _ rfl (BitVec.and_self)

theorem Becomes.trans (h : Becomes q L e s) (h' : Becomes q M u e) : Becomes q (L ||| M) u s where
  frame := by
    rw [h'.frame, h.frame]
    rfl
  drift := h.drift.trans h'.drift

/-- Appending a notice record's bytes. -/
theorem Becomes.putNotice (s : State) (m : Memory) (j : JournalUnit) (hm : MemoryCanonical s → m.wf = true)
    (hget : MemoryCanonical s → ∀ a, a < 0x2800 → m.get a = s.mem.get a)
    (hj : ∀ k, k ≠ noticeJournal → j.journals[k] = s.journal.journals[k]) (hquiet : j.quiet = s.journal.quiet)
    (hrecords : MemoryCanonical s → s.unreadIn { s with mem := m, journal := j }) :
    Becomes false 0 { s with mem := m, journal := j } s :=
  ⟨rfl, ⟨rfl, by simp, hm, hget, hj, hquiet, hrecords, fun e => by cases e⟩⟩

theorem unreadIn_of_counts {s e : State} (hmem : e.mem = s.mem)
    (hcounts : (e.journalOf noticeJournal).writeCount = (s.journalOf noticeJournal).writeCount ∧
      (e.journalOf noticeJournal).readCount = (s.journalOf noticeJournal).readCount) : s.unreadIn e := by
  obtain ⟨hwrite, hread⟩ := hcounts
  intro w hw
  refine ⟨?_, fun a _ _ => by rw [hmem]⟩
  unfold State.unread State.used Journal.used at hw ⊢
  rw [hwrite, hread]
  exact hw

theorem Becomes.countDrop (s : State) : Becomes false 0 (s.countDrop noticeJournal) s :=
  .putNotice s s.mem _ id (fun _ _ _ => rfl) (fun k hk => journalOf_set_ne s.journal _ k hk) rfl
    fun _ => unreadIn_of_counts rfl (by
      have hcount := countDrop_journal s
      have hwrite := congrArg Journal.writeCount hcount
      have hread := congrArg Journal.readCount hcount
      exact ⟨hwrite, hread⟩)

theorem Becomes.setGap (s : State) (n : Nat) : Becomes false 0 (s.setGap n) s :=
  .putNotice s s.mem _ id (fun _ _ _ => rfl) (fun _ _ => rfl) rfl fun _ => unreadIn_of_counts rfl ⟨rfl, rfl⟩

theorem noticePlace_ge (w : Nat) : 0x2800 ≤ journalBase noticeJournal + recordSize noticeJournal * w :=
  Nat.le_add_right _ _

/-- A notice written with room overwrites none that is not read. -/
theorem writeRecord_unread (s : State) (bytes : List Byte) (hm : MemoryCanonical s) (hlength : bytes.length = 16)
    (hroom : s.used noticeJournal < 128) : s.unreadIn (s.writeRecord noticeJournal bytes) := by
  have hafter := writeRecord_eq s noticeJournal bytes hroom
  have hjournal : (s.writeRecord noticeJournal bytes).journalOf noticeJournal = (s.journalOf noticeJournal).advanced noticeJournal := by
    rw [hafter]
    exact Vector.getElem_set_self _
  have hused : (s.writeRecord noticeJournal bytes).used noticeJournal = s.used noticeJournal + 1 := by
    unfold State.used
    rw [hjournal]
    exact used_advanced noticeJournal _ hroom
  intro w hw
  unfold State.unread at hw ⊢
  refine ⟨?_, fun a ha hb => ?_⟩
  · rw [hused, hjournal]
    exact Nat.lt_succ_of_lt hw
  · rw [hafter]
    refine Memory.get_putBytes_ne _ hm _ _ _ ?_
    rw [hlength, capacity_notice]
    show a < 0x2800 + 16 * _ ∨ 0x2800 + 16 * _ + 16 ≤ a
    have hsub := BitVec.toNat_sub w (s.journalOf noticeJournal).readCount
    have hcount : s.used noticeJournal = _ :=
      BitVec.toNat_sub (s.journalOf noticeJournal).writeCount (s.journalOf noticeJournal).readCount
    unfold noticePlace at ha hb
    omega

theorem Becomes.writeRecord (s : State) (bytes : List Byte) (hlength : bytes.length = 16) :
    Becomes false 0 (s.writeRecord noticeJournal bytes) s := by
  have hunread := writeRecord_unread s bytes
  unfold State.writeRecord at hunread ⊢
  split
  · next hroom =>
    have hplace := noticePlace_ge ((s.journalOf noticeJournal).writeCount.toNat % journalCapacity noticeJournal)
    rw [if_pos hroom] at hunread
    have hwritten : Becomes false 0
        ((s.setMem (s.mem.putBytes (journalBase noticeJournal + recordSize noticeJournal *
          ((s.journalOf noticeJournal).writeCount.toNat % journalCapacity noticeJournal)) bytes)).updJournalOf noticeJournal
            fun q => Journal.refresh noticeJournal { q with writeCount := q.writeCount + 1 }) s :=
      .putNotice s _ _ (Memory.wf_putBytes _ _ _)
        (fun hm a ha => Memory.get_putBytes_ne _ hm _ _ _ (Or.inl (Nat.lt_of_lt_of_le ha hplace)))
        (fun k hk => journalOf_set_ne s.journal _ k hk) rfl fun hm => by
          have hkept := hunread hm hlength hroom
          dsimp only at hkept
          split at hkept
          · exact hkept
          · exact hkept
    dsimp only
    split
    · exact ⟨(hwritten.trans (.latch _ _)).frame, (hwritten.trans (.latch _ _)).drift.weaken⟩
    · exact hwritten
  · exact .refl _ s

theorem Becomes.join (h : Becomes q 0 e s) (h' : Becomes q L u e) : Becomes q L u s := by
  have := h.trans h'
  rwa [show (0 : BitVec 10) ||| L = L by simp] at this

theorem Becomes.offerNotice (s : State) (k : NoticeKind) (c o n a : Nat) :
    Becomes false 0 (s.offerNotice k c o n a) s := by
  unfold State.offerNotice
  dsimp only
  split
  · split
    · exact .writeRecord s _ (length_noticeBytes ..)
    · exact (Becomes.countDrop s).join (.setGap _ _)
  · split
    · exact ((Becomes.writeRecord s _ (length_noticeBytes ..)).join (.setGap _ _)).join (.writeRecord _ _ (length_noticeBytes ..))
    · split
      · exact ((Becomes.writeRecord s _ (length_noticeBytes ..)).join (.countDrop _)).join (.setGap _ _)
      · exact (Becomes.countDrop s).join (.setGap _ _)

theorem Becomes.touchWhen (s : State) (c : Prop) [Decidable c] : Becomes q 0 (s.touchWhen c) s := by
  unfold State.touchWhen
  split
  · exact .touchBoard s
  · exact .refl q s

theorem Becomes.closeBoard (s before : State) : Becomes q 0 (s.closeBoard before) s := by
  unfold State.closeBoard
  split
  · exact .of_port _ rfl (by simp)
  · exact .refl q s

/-- A quiet drift is a drift. -/
theorem Becomes.loud (h : Becomes true L e s) : Becomes q L e s :=
  ⟨h.frame, ⟨h.drift.host, h.drift.latch, h.drift.canonical, h.drift.memory, h.drift.journals, h.drift.timer,
    h.drift.records, fun _ => h.drift.still rfl⟩⟩

theorem Drift.congr {s' e' : State} (h : Drift q L s e) (hs : s'.mem = s.mem ∧ s'.port = s.port ∧ s'.journal = s.journal)
    (he : e'.mem = e.mem ∧ e'.port = e.port ∧ e'.journal = e.journal) : Drift q L s' e' := by
  obtain ⟨hsm, hsp, hsj⟩ := hs
  obtain ⟨hem, hep, hej⟩ := he
  refine ⟨?_, ?_, ?_, ?_, fun k hk => ?_, ?_, ?_, ?_⟩
  · rw [hep, hsp, h.host]
  · rw [hep, hsp, h.latch]
  · unfold MemoryCanonical
    rw [hem, hsm]
    exact h.canonical
  · unfold MemoryCanonical
    rw [hem, hsm]
    exact h.memory
  · unfold State.journalOf
    rw [hej, hsj]
    exact h.journals k hk
  · rw [hej, hsj, h.timer]
  · unfold MemoryCanonical State.unreadIn State.unread State.used State.journalOf
    rw [hem, hsm, hej, hsj]
    exact h.records
  · rw [hem, hej, hsm, hsj]
    exact h.still

/-- An operation that neither reads nor writes memory, port and journals. -/
structure Blind (f : State → State) : Prop where
  through : ∀ v a : State, f (v.withNoise a) = (f v).withNoise a
  same : ∀ v : State, (f v).mem = v.mem ∧ (f v).port = v.port ∧ (f v).journal = v.journal

theorem withNoise_congr (s : State) {a b : State} (h : a.mem = b.mem ∧ a.port = b.port ∧ a.journal = b.journal) :
    s.withNoise a = s.withNoise b := by
  simp only [State.withNoise, h]

/-- A blind operation commutes with a drift. -/
theorem Becomes.blind (h : Becomes q L e s) {f : State → State} (hf : Blind f) : Becomes q L (f e) (f s) where
  frame := by
    rw [withNoise_congr (f s) (hf.same e), ← hf.through, ← h.frame]
  drift := h.drift.congr (hf.same s) (hf.same e)

/-! ## Hand-ons up to drift -/

/-- Whatever the memory, the port and the journals, k hand-ons lead from s to t up to a drift. -/
def Leads (q : Bool) (L : BitVec 10) (k : Nat) (s t : State) : Prop :=
  ∀ a, ∃ b, Carried k (s.withNoise a) b ∧ Becomes q L b (t.withNoise a)

theorem Leads.refl (q : Bool) (s : State) : Leads q 0 0 s s := fun a => ⟨s.withNoise a, .refl _, .refl q _⟩

theorem withNoise_self (s : State) : s.withNoise s = s := rfl

theorem Becomes.renoised (h : Becomes q L e (t.withNoise s)) : e = t.withNoise e := h.frame

theorem Leads.trans {j k : Nat} (h : Leads q L j s t) (h' : Leads q M k t u) : Leads q (L ||| M) (j + k) s u := by
  intro a
  obtain ⟨b, hb, hbecomes⟩ := h a
  obtain ⟨c, hc, hcbecomes⟩ := h' b
  rw [← hbecomes.renoised] at hc
  refine ⟨c, hb.trans hc, ⟨hcbecomes.renoised, ?_⟩⟩
  exact (hbecomes.drift.trans (hcbecomes.drift.congr (by exact ⟨rfl, rfl, rfl⟩) ⟨rfl, rfl, rfl⟩)).congr ⟨rfl, rfl, rfl⟩
    ⟨rfl, rfl, rfl⟩

/-- The front hand-on carried. -/
theorem Leads.front {x : Task} {rest : List Task} (h : s.tasks = x :: rest)
    (hx : ∀ a, Becomes q L (doTask x ((s.setTasks rest).withNoise a)) (t.withNoise a)) : Leads q L 1 s t :=
  fun a => ⟨_, Carried.front (s := s.withNoise a) h, hx a⟩

/-- An event that does f and carries its hand-ons up to drift. -/
theorem takeEvent_leads {k : Nat} {f : State → State} (hs : s.betweenEvents) (hf : Becomes q L (f s) u)
    (hu : u.mem = s.mem ∧ u.port = s.port ∧ u.journal = s.journal := by exact ⟨rfl, rfl, rfl⟩)
    (h : Leads q M k u t) (ht : t.tasks = []) (hk : k ≤ 100 := by decide) :
    ∃ e, takeEvent s f = .next e ∧ e = t.withNoise e ∧ Drift q (L ||| M) s e := by
  obtain ⟨b, hb, hbecomes⟩ := h (f s)
  rw [← hf.frame] at hb
  have htasks : b.tasks = [] := by
    rw [hbecomes.renoised]
    exact ht
  have hdrift : Drift q (L ||| M) s b :=
    (hf.drift.congr ⟨hu.1.symm, hu.2.1.symm, hu.2.2.symm⟩ ⟨rfl, rfl, rfl⟩).trans
      (hbecomes.drift.congr ⟨rfl, rfl, rfl⟩ ⟨rfl, rfl, rfl⟩)
  refine ⟨b.closeBoard s, takeEvent_carried hs hb htasks hk, ?_, ?_⟩
  · rw [(Becomes.closeBoard (q := q) b s).frame, hbecomes.renoised]
    rfl
  · have := hdrift.trans (Becomes.closeBoard b s).drift
    rwa [show L ||| M ||| (0 : BitVec 10) = L ||| M by simp] at this

end Sys2Proof.Machine
end

section
/-! The operations of the units up to drift: sleep, fault reports, attachment state, orientation and posture. -/

namespace Sys2Proof.Machine

set_option Elab.async false

variable {q : Bool} {L M : BitVec 10} {s t u e : State}

theorem Becomes.then (h : Becomes q L e s) (h' : Becomes q 0 u e) : Becomes q L u s := by
  have := h.trans h'
  rwa [show L ||| (0 : BitVec 10) = L by simp] at this

/-- What is latched may be left unsaid. -/
theorem Becomes.unsaid (h : Becomes q L e s) : Becomes q 0 e s :=
  ⟨h.frame, Drift.weaken (L := 0) (M := L) (by rw [show (0 : BitVec 10) ||| L = L by simp]; exact h.drift)⟩

theorem blind_hand (ts : List Task) : Blind fun s => s.hand ts := ⟨fun _ _ => rfl, fun _ => ⟨rfl, rfl, rfl⟩⟩
theorem blind_handLast (x : Task) : Blind fun s => s.handLast x := ⟨fun _ _ => rfl, fun _ => ⟨rfl, rfl, rfl⟩⟩
theorem blind_updAttach (f : AttachUnit → AttachUnit) : Blind fun s => s.updAttach f := ⟨fun _ _ => rfl, fun _ => ⟨rfl, rfl, rfl⟩⟩
theorem blind_updLink (f : LinkUnit → LinkUnit) : Blind fun s => s.updLink f := ⟨fun _ _ => rfl, fun _ => ⟨rfl, rfl, rfl⟩⟩
theorem blind_updAllot (f : AllotUnit → AllotUnit) : Blind fun s => s.updAllot f := ⟨fun _ _ => rfl, fun _ => ⟨rfl, rfl, rfl⟩⟩
theorem blind_updPen (f : PenUnit → PenUnit) : Blind fun s => s.updPen f := ⟨fun _ _ => rfl, fun _ => ⟨rfl, rfl, rfl⟩⟩
theorem blind_updSleep (f : SleepUnit → SleepUnit) : Blind fun s => s.updSleep f := ⟨fun _ _ => rfl, fun _ => ⟨rfl, rfl, rfl⟩⟩
theorem blind_updSensor (f : SensorUnit → SensorUnit) : Blind fun s => s.updSensor f := ⟨fun _ _ => rfl, fun _ => ⟨rfl, rfl, rfl⟩⟩
theorem blind_updAngle (f : AngleUnit → AngleUnit) : Blind fun s => s.updAngle f := ⟨fun _ _ => rfl, fun _ => ⟨rfl, rfl, rfl⟩⟩
theorem blind_updPosture (f : PostureUnit → PostureUnit) : Blind fun s => s.updPosture f :=
  ⟨fun _ _ => rfl, fun _ => ⟨rfl, rfl, rfl⟩⟩

theorem Becomes.hand (h : Becomes q L e s) (ts : List Task) : Becomes q L (e.hand ts) (s.hand ts) := h.blind (blind_hand ts)

/-! ## The sleep unit (R175, R176) -/

theorem Becomes.advise (s : State) (after : Advice) (cause : Nat) :
    Becomes false Cause.sleepAdvice.mask (s.advise after cause) { s with sleep := { s.sleep with advice := after } } :=
  ((Becomes.touchBoard _).join (.latch _ _)).then (.offerNotice _ _ _ _ _ _)

theorem Becomes.setIdle (s : State) (idle : IdleTimer) (shown : Word) :
    Becomes q 0 (s.setIdle idle shown) { s with sleep := { s.sleep with idle := idle, idleShown := shown } } := by
  unfold State.setIdle
  cases idle with
  | running expiry rewrite => exact .touchBoard _
  | stopped => exact .refl _ _
  | elapsed => exact .refl _ _

theorem Becomes.restartIdle (s : State) :
    Becomes q 0 s.restartIdle
      { s with sleep := { s.sleep with idle := s.idleRestarted.1, idleShown := s.idleRestarted.2 } } := by
  unfold State.restartIdle State.idleRestarted
  cases s.idleTimeout with
  | none => exact .setIdle s _ _
  | some t => exact .setIdle s _ _

/-- The sleep unit after activity (R175). -/
def State.activeSleep (s : State) : SleepUnit :=
  if s.hostOn then
    { s.sleep with idle := s.idleRestarted.1, idleShown := s.idleRestarted.2
                   advice := if s.sleep.advice = .idle then .none else s.sleep.advice }
  else s.sleep

theorem Becomes.activity (s : State) : Becomes false 0 s.activity { s with sleep := s.activeSleep } := by
  unfold State.activity State.activeSleep
  cases s.hostOn with
  | false => exact .refl _ s
  | true =>
    have hidle := (Becomes.restartIdle (q := false) s).frame
    have hadvice : s.restartIdle.sleep.advice = s.sleep.advice := congrArg (fun s => s.sleep.advice) hidle
    simp only [if_true, hadvice]
    split
    · exact ((Becomes.restartIdle s).blind (blind_updSleep fun u => { u with advice := .none })).join
        (Becomes.advise s.restartIdle .none 3).unsaid
    · exact .restartIdle s

/-! ## Fault reports (R33, R34) -/

/-- The fault table's entry after an active report. -/
def FaultEntry.activated (e : FaultEntry) (now : PartTime) : FaultEntry :=
  if e.active then e
  else { active := true, count := bump 255 e.count, firstActive := if e.count = 0 then now else e.firstActive }

def FaultEntry.deactivated (e : FaultEntry) : FaultEntry := if e.active then { e with active := false } else e

/-- The settings unit with a fault's entry changed. -/
def SettingsUnit.withFault (u : SettingsUnit) (k : FaultKind) (f : FaultEntry → FaultEntry) : SettingsUnit :=
  { u with faults := u.faults.set k.index (f u.faults[k.index]) }

theorem withFault_same (u : SettingsUnit) (k : FaultKind) (f : FaultEntry → FaultEntry) (h : f u.faults[k.index] = u.faults[k.index]) :
    u.withFault k f = u := by
  unfold SettingsUnit.withFault
  rw [h]
  have : u.faults.set k.index u.faults[k.index] = u.faults := Vector.set_getElem_self _
  rw [this]

theorem Becomes.reportActive (s : State) (k : FaultKind) :
    Becomes false 0 (s.reportActive k) { s with settings := s.settings.withFault k (FaultEntry.activated · s.now) } := by
  unfold State.reportActive State.faultEntry
  dsimp only
  split
  · next h =>
    rw [withFault_same s.settings k (FaultEntry.activated · s.now) (if_pos h)]
    exact .refl _ s
  · next h =>
    have hentry : s.settings.faults[k.index].activated s.now =
        { active := true, count := bump 255 s.settings.faults[k.index].count,
          firstActive := if s.settings.faults[k.index].count = 0 then s.now else s.settings.faults[k.index].firstActive } :=
      if_neg h
    simp only [SettingsUnit.withFault, hentry]
    exact (Becomes.latch _ .fault).unsaid.join (.offerNotice _ _ _ _ _ _)

theorem Becomes.reportInactive (s : State) (k : FaultKind) :
    Becomes false 0 (s.reportInactive k) { s with settings := s.settings.withFault k FaultEntry.deactivated } := by
  unfold State.reportInactive State.faultEntry
  dsimp only
  split
  · next h =>
    have hentry : s.settings.faults[k.index].deactivated = { s.settings.faults[k.index] with active := false } := if_pos h
    simp only [SettingsUnit.withFault, hentry]
    exact .offerNotice _ _ _ _ _ _
  · next h =>
    rw [withFault_same s.settings k FaultEntry.deactivated (if_neg h)]
    exact .refl _ s

/-! ## The attachment state (R129) -/

theorem Becomes.setAttach (s : State) (after : AttachState) (cause : Nat) (h : after ≠ s.attach.state) :
    Becomes false Cause.attach.mask (s.setAttach after cause)
      (State.hand { s with attach := { s.attach with state := after } } (attachReaders s.attach.state after)) := by
  unfold State.setAttach
  dsimp only
  rw [if_neg h]
  exact (((Becomes.touchBoard _).join (.latch _ _)).then (.offerNotice _ _ _ _ _ _)).hand _

theorem setAttach_same (s : State) (cause : Nat) : s.setAttach s.attach.state cause = s := if_pos rfl

/-! ## Orientation (R100 to R102) -/

/-- The posture unit after an orientation commit. -/
def State.orientedTo (s : State) (o : Orientation) : PostureUnit :=
  { s.posture with orientationCandidate := o, orientationDwell := none, oriented := o }

theorem Becomes.commitOrientation (s : State) (o : Orientation) (cause : Nat) (h : s.posture.oriented ≠ o) :
    Becomes false Cause.posture.mask (s.commitOrientation o cause) (State.hand { s with posture := s.orientedTo o } [.activity]) := by
  unfold State.commitOrientation
  dsimp only
  rw [if_neg h]
  exact (((Becomes.touchBoard _).join (.latch _ _)).then (.offerNotice _ _ _ _ _ _)).hand _

theorem commitOrientation_same (s : State) (o : Orientation) (cause : Nat) (h : s.posture.oriented = o) :
    s.commitOrientation o cause = { s with posture := s.orientedTo o } := by
  unfold State.commitOrientation State.orientedTo
  dsimp only
  rw [if_pos h, ← h]
  rfl

/-! ## Posture commits (R92) -/

theorem Becomes.commitPosture (s : State) (p : Posture) (band : Option Nat) (cause : Nat) :
    Becomes q 0 (s.commitPosture p band cause)
      (State.hand { s with posture := { s.posture with posture := p, band := band, candidate := none, dwell := none } }
        [.publishFlags, .sleepCommit s.posture.posture, .reportPosture s.posture.posture cause, .gateRotation]) :=
  (Becomes.touchBoard _).hand _

theorem Becomes.reportPosture (s : State) (before : Posture) (cause : Nat) :
    Becomes false Cause.posture.mask (s.reportPosture before cause) s :=
  (Becomes.latch _ _).then (.offerNotice _ _ _ _ _ _)

end Sys2Proof.Machine
end

section
/-! Requests answered after hand-ons, and HOLD_AWAKE (R177). -/

namespace Sys2Proof.Machine

set_option Elab.async false

variable {q : Bool} {L M : BitVec 10} {s t u v w e : State}

theorem Becomes.of_eq (h : e = s) : Becomes q 0 e s := h ▸ .refl q s

theorem Leads.activity {rest : List Task} (h : s.tasks = .activity :: rest) :
    Leads false 0 1 s { s with sleep := s.activeSleep, tasks := rest } :=
  .front h fun a => .activity ((s.setTasks rest).withNoise a)

/-- The outcome e of a request of slot n answered in one event, with the units' fields of v. -/
structure AnsweredWith (q : Bool) (L : BitVec 10) (s : State) (n : Fin 32) (code : ResultCode) (detail : Nat)
    (words : List Word) (v e : State) : Prop where
  answered : e.answered n code detail
  shown : ∀ i : Fin 4, ∀ h : i.val < words.length, e.resultWord n i = (words[i.val]'h).toNat
  frame : e = { v with mem := e.mem, port := e.port, journal := e.journal, dispatch := e.dispatch, tasks := s.tasks }
  dispatch : e.dispatch = { s.dispatch with slots := s.dispatch.slots.set n .done }
  memory : ∀ a, a < 0x2800 → a < slotBase n ∨ slotBase n + 64 ≤ a → e.mem.get a = s.mem.get a
  journals : ∀ k, k ≠ noticeJournal → e.journalOf k = s.journalOf k
  latched : (s.port.attnLatch ||| (L ||| Cause.requestDone.mask)) &&& e.port.attnLatch =
    s.port.attnLatch ||| (L ||| Cause.requestDone.mask)
  still : q = true → s.slotOnly e n ∧ e.journal = s.journal

theorem finishedSlot_drift (s : State) (u : ServingUnit) (n : Fin 32) (code : ResultCode) (detail : Nat) (words : List Word) :
    (s.finishedSlot u n code detail words).port = { s.port with attnLatch := s.port.attnLatch ||| Cause.requestDone.mask } ∧
      (s.finishedSlot u n code detail words).journal = s.journal := ⟨rfl, rfl⟩

theorem Drift.unnoised {a : State} (h : Drift q L (s.withNoise a) e) : Drift q L a e := h.congr ⟨rfl, rfl, rfl⟩ ⟨rfl, rfl, rfl⟩

/-- The units' fields when a request has been taken at once. -/
def State.claimed (s : State) (n : Fin 32) (r : Request) : State :=
  { s with
    dispatch := { slots := s.dispatch.slots.set n (.taken false), queue := []
                  serving := s.dispatch.serving.set r.servedBy.index (some n) }
    tasks := [.considerQueue] }

theorem taken_claimed (s : State) (n : Fin 32) (r : Request) (tag : Half) (ps : List Word) :
    s.taken n r tag ps = (s.claimed n r).withNoise (s.taken n r tag ps) := by
  simp only [State.taken, State.claimed, State.withNoise]

theorem taken_dispatch (s : State) (n : Fin 32) (r : Request) (tag : Half) (ps : List Word) :
    (s.claimed n r).dispatch = (s.taken n r tag ps).dispatch := by
  simp only [State.taken, State.claimed]

/-- A request whose hand-ons lead, up to drift, to its answer with nothing left but the post queue. -/
theorem exec_answeredLeads {n : Fin 32} {r : Request} {tag : Half} {ps : List Word} {code : ResultCode} {detail : Nat}
    {words : List Word} {k : Nat} {x : Task} {f : State → State} (hs : s.sound) (h : s.takesAtOnce n r.servedBy)
    (hserve : (s.taken n r tag ps).serve n r = f (s.taken n r tag ps))
    (hl : Leads q M k u v) (hf : ∀ a, Becomes q L (f ((s.claimed n r).withNoise a)) (u.withNoise a))
    (hv : v.tasks = [x, .considerQueue]) (hdispatch : v.dispatch = (s.claimed n r).dispatch)
    (hx : ∀ a, doTask x ((v.setTasks [.considerQueue]).withNoise a) =
      ((v.setTasks [.considerQueue]).withNoise a).finishUnit r.servedBy code detail words)
    (hd : detail < 65536) (hp : ps.length ≤ 8 := by simp) (hw : words.length ≤ 4 := by simp) (hk : k ≤ 97 := by decide) :
    ∃ e, takeEvent s (fun u => u.makeRequest n r tag ps) = .next e ∧
      AnsweredWith q (L ||| M) s n code detail words v e := by
  have hserved := hf (s.taken n r tag ps)
  rw [← taken_claimed, ← hserve] at hserved
  rw [taken_dispatch s n r tag ps] at hdispatch
  obtain ⟨b, hb, hbecomes⟩ := hl ((s.taken n r tag ps).serve n r)
  rw [← hserved.renoised] at hb
  obtain ⟨c, hc⟩ : ∃ c, c = (v.setTasks [.considerQueue]).withNoise b := ⟨_, rfl⟩
  have hcd : c.dispatch = (s.taken n r tag ps).dispatch := by
    rw [hc]
    exact hdispatch
  have hfinished : Carried 2 (c.finishUnit r.servedBy code detail words)
      (c.finishedSlot r.servedBy n code detail words) := by
    refine Carried.finished code detail words ?_ ?_ ?_ ?_
    · unfold State.servingSlot
      rw [hcd]
      exact taken_servingSlot s n r tag ps
    · unfold State.slotState
      rw [hcd]
      exact taken_slotState s n r tag ps
    · rw [hcd]
      rfl
    · rw [hc]
      rfl
  have hbtasks : b.tasks = [x, .considerQueue] := by
    rw [hbecomes.renoised]
    exact hv
  have hbc : b.setTasks [.considerQueue] = c := by
    rw [hc, hbecomes.renoised]
    rfl
  have hstep : Carried 1 b (c.finishUnit r.servedBy code detail words) := by
    refine Carried.front_eq hbtasks ?_
    rw [hbc, hc]
    exact hx b
  have htakenDrift : Drift q (L ||| M) (s.taken n r tag ps) b :=
    hserved.drift.unnoised.trans hbecomes.drift.unnoised
  have hcanonical : MemoryCanonical c := by
    rw [hc]
    exact htakenDrift.canonical (taken_canonical s hs.2 n r tag ps)
  have hcmem (a : Nat) (ha : a < 0x2800) : c.mem.get a = (s.taken n r tag ps).mem.get a := by
    rw [hc]
    exact htakenDrift.memory (taken_canonical s hs.2 n r tag ps) a ha
  obtain ⟨hanswered, hwords⟩ := finishedSlot_answered c r.servedBy n code detail words hcanonical hd
  obtain ⟨-, -, -, hqueue, hidle⟩ := id h
  have hboard (e : State) : (e.closeBoard s).journal = e.journal ∧ (e.closeBoard s).dispatch = e.dispatch := by
    rw [closeBoard_frame]
    exact ⟨rfl, rfl⟩
  have hlatch (e : State) : (e.closeBoard s).port.attnLatch = e.port.attnLatch := by
    unfold State.closeBoard
    split <;> rfl
  refine ⟨(c.finishedSlot r.servedBy n code detail words).closeBoard s,
    exec_request hs h (hb.trans (hstep.trans hfinished)) rfl hp (by omega),
    closeBoard_answered _ _ _ _ _ hanswered, fun i hi => by rw [closeBoard_resultWord, hwords i hi], ?_, ?_, fun a ha hout => ?_,
    fun k hk => ?_, ?_, fun hq => ⟨fun a hout => ?_, ?_⟩⟩
  · rw [closeBoard_frame, hc, hs.1.1]
    rfl
  · rw [(hboard _).2, ← finishedSlot_taken_dispatch s n r tag ps code detail words hqueue hidle]
    simp only [State.finishedSlot, hcd]
  · rw [closeBoard_mem, finishedSlot_get_ne c _ n code detail words hcanonical hw a (by omega), hcmem a ha,
      taken_get_ne s hs.2 n r tag ps hp a hout]
  · refine (journalOf_congr ((hboard _).1.trans ?_) k).trans (htakenDrift.journals k hk)
    rw [hc]
    rfl
  · rw [hlatch]
    have hb : (c.finishedSlot r.servedBy n code detail words).port.attnLatch = b.port.attnLatch ||| Cause.requestDone.mask := by
      rw [hc]
      rfl
    rw [hb]
    exact latch_join htakenDrift.latch BitVec.and_self
  · have hsame : c.mem = (s.taken n r tag ps).mem := by
      rw [hc]
      exact (htakenDrift.still hq).1
    rw [closeBoard_mem, finishedSlot_get_ne c _ n code detail words hcanonical hw a (by omega), hsame,
      taken_get_ne s hs.2 n r tag ps hp a hout]
  · refine (hboard _).1.trans ?_
    rw [hc]
    exact (htakenDrift.still hq).2

/-! ## HOLD_AWAKE (R177) -/

/-- The hold-awake deadline of a duration. -/
def State.awakeUntil (s : State) (duration : Word) : Timer := if duration = 0 then none else some (s.now + duration)

theorem serve_holdAwake (s : State) (hm : MemoryCanonical s) (n : Fin 32) (tag : Half) (duration : Word) :
    (s.taken n .holdAwake tag [duration]).serve n .holdAwake = (s.taken n .holdAwake tag [duration]).holdAwake duration.toNat := by
  unfold State.serve
  dsimp only
  rw [taken_param s hm n .holdAwake tag [duration] (by simp) 0 (by simp)]
  simp only [List.getElem_cons_zero]

theorem holdAwake_long (s : State) (d : Nat) (h : 3600000 < d) : s.holdAwake d = s.finishUnit .sleep .badParameter 0 [] :=
  if_pos h

theorem holdAwake_sleeping (s : State) (d : Nat) (h : ¬ 3600000 < d) (hhost : s.hostOn = false) :
    s.holdAwake d = s.finishUnit .sleep .notNow 1 [] := by
  unfold State.holdAwake
  rw [if_neg h, if_pos (by simp [hhost])]

theorem holdAwake_taken (s : State) (d : Word) (h : ¬ 3600000 < d.toNat) (hhost : s.hostOn = true) :
    s.holdAwake d.toNat =
      State.hand { s with sleep := { s.sleep with holdAwake := s.awakeUntil d } }
        [.activity, .finish .sleep .ok 0 [d, (s.awakeUntil d).getD 0]] := by
  have hzero : d.toNat = 0 ↔ d = 0 := by
    rw [← BitVec.toNat_inj]
    rfl
  have hdeadline : (if d.toNat = 0 then none else s.start d.toNat) = s.awakeUntil d := by
    unfold State.awakeUntil State.start State.after
    rw [BitVec.ofNat_toNat, BitVec.setWidth_eq]
    exact if_congr hzero rfl rfl
  have hword : word d.toNat = d := by rw [word, BitVec.ofNat_toNat, BitVec.setWidth_eq]
  unfold State.holdAwake
  rw [if_neg h, if_neg (by simp [hhost])]
  dsimp only
  rw [hdeadline, hword]
  rfl

theorem exec_holdAwake_request (s : State) (n : Fin 32) (tag : Half) (duration : Word) :
    exec (.holdAwake n tag duration) s = takeEvent s fun u => u.makeRequest n .holdAwake tag [duration] := by rfl

theorem hostOn_iff (s : State) : s.hostOn = true ↔ s.sleep.host = .on := by simp [State.hostOn]
theorem hostOff_iff (s : State) : s.hostOn = false ↔ s.sleep.host = .sleeping := by
  unfold State.hostOn
  cases s.sleep.host <;> decide

/-- Settles O39: by the duration and the host's state. -/
theorem holdAwakeRequest : Obligations.HoldAwakeRequest := by
  unfold Obligations.HoldAwakeRequest
  intro s n tag duration hs h
  have hserve := serve_holdAwake s hs.2 n tag duration
  rw [exec_holdAwake_request]
  by_cases hlong : 3600000 < duration.toNat
  · rw [holdAwake_long _ _ hlong] at hserve
    obtain ⟨hnext, hanswered, -⟩ := exec_answeredFrom hs h hserve (by decide)
    exact ⟨_, hnext, fun _ => hanswered, fun h1 => absurd hlong (by omega), fun h1 => absurd hlong (by omega)⟩
  cases hhost : s.hostOn with
  | false =>
    obtain ⟨hnext, hanswered, -⟩ := exec_answeredFrom hs h
      (hserve.trans (holdAwake_sleeping (s.taken n .holdAwake tag [duration]) _ hlong hhost)) (by decide)
    refine ⟨_, hnext, fun h1 => absurd h1 hlong, fun _ _ => hanswered, fun _ hon => ?_⟩
    rw [(hostOff_iff s).mp hhost] at hon
    cases hon
  | true =>
    have hlead := Leads.activity (s := State.hand { s.claimed n .holdAwake with
        sleep := { s.sleep with holdAwake := s.awakeUntil duration } }
        [.activity, .finish .sleep .ok 0 [duration, (s.awakeUntil duration).getD 0]]) rfl
    obtain ⟨e, hnext, hanswer⟩ := exec_answeredLeads (f := fun s => s.holdAwake duration.toNat) hs h hserve hlead
      (fun a => .of_eq (holdAwake_taken ((s.claimed n .holdAwake).withNoise a) duration hlong hhost)) rfl rfl (fun _ => rfl) (by decide)
    have hframe := hanswer.frame
    have hsleep := (congrArg State.sleep hframe).trans (if_pos hhost)
    refine ⟨e, hnext, fun h1 => absurd h1 hlong, fun _ hsleeping => ?_,
      fun _ _ => ⟨hanswer.answered, hanswer.shown 0 (by simp), ?_, hsleep, ?_⟩⟩
    · rw [(hostOn_iff s).mp hhost] at hsleeping
      cases hsleeping
    · refine (hanswer.shown 1 (by simp)).trans ?_
      show ((s.awakeUntil duration).getD 0).toNat = _
      unfold State.awakeUntil
      split <;> rfl
    · rw [congrArg State.sleep hframe]
      exact hframe

end Sys2Proof.Machine
end

section
/-! SET_ROTATION_LOCK (R103, R104). -/

namespace Sys2Proof.Machine

set_option Elab.async false

variable {q : Bool} {L M : BitVec 10} {s t u v w e : State}

/-- An operation on a state known up to drift. -/
theorem Becomes.apply {op g : State → State} (h : Becomes q L e s) (hop : ∀ w, Becomes q M (op w) (g w))
    (hg : ∀ v a : State, g (v.withNoise a) = (g v).withNoise a := by intros; rfl)
    (hn : ∀ v : State, (g v).mem = v.mem ∧ (g v).port = v.port ∧ (g v).journal = v.journal := by intros; exact ⟨rfl, rfl, rfl⟩) :
    Becomes q (L ||| M) (op e) (g s) := by
  have hnext := (h.blind ⟨hg, hn⟩).trans (hop e)
  exact hnext

/-! ## Orientation commits with their activity -/

/-- The activity that a commit of an orientation hands on. -/
def State.turning (s : State) (o : Orientation) : List Task := if s.posture.oriented = o then [] else [.activity]

theorem turning_cases (s : State) (o : Orientation) : s.turning o = [] ∨ s.turning o = [.activity] := by
  unfold State.turning
  split
  · exact .inl rfl
  · exact .inr rfl

/-- An orientation commit and what it hands on, the same orientation too. -/
def State.turned (s : State) (o : Orientation) : State := State.hand { s with posture := s.orientedTo o } (s.turning o)

theorem Becomes.turn (s : State) (o : Orientation) (cause : Nat) : Becomes false 0 (s.commitOrientation o cause) (s.turned o) := by
  unfold State.turned State.turning
  split
  · next h =>
    rw [commitOrientation_same s o cause h]
    exact .refl _ _
  · next h => exact (Becomes.commitOrientation s o cause h).unsaid

section
variable (s : State)

/-- The posture unit after an orientation comparison (R100). -/
def State.comparedPosture : PostureUnit :=
  if s.posture.sensed = s.posture.oriented then
    { s.posture with orientationCandidate := s.posture.oriented, orientationDwell := none }
  else if s.posture.orientationDwell.isSome ∧ s.posture.orientationCandidate = s.posture.sensed then s.posture
  else if s.settings.active.orientationDwell = 0 then s.orientedTo s.posture.sensed
  else
    { s.posture with orientationCandidate := s.posture.sensed, orientationDwell := s.start s.settings.active.orientationDwell }

/-- What an orientation comparison hands on. -/
def State.comparedActs : List Task :=
  if s.posture.sensed = s.posture.oriented then []
  else if s.posture.orientationDwell.isSome ∧ s.posture.orientationCandidate = s.posture.sensed then []
  else if s.settings.active.orientationDwell = 0 then [.activity]
  else []

def State.compared : State := State.hand { s with posture := s.comparedPosture } s.comparedActs

theorem Becomes.compareOrientation : Becomes false 0 s.compareOrientation s.compared := by
  unfold State.compared State.comparedPosture State.comparedActs
  by_cases hsame : s.posture.sensed = s.posture.oriented
  · simp only [if_pos hsame]
    exact .of_eq (compareOrientation_same s hsame)
  · have hturned := compareOrientation_turned s hsame
    simp only [if_neg hsame]
    by_cases hrunning : s.posture.orientationDwell.isSome ∧ s.posture.orientationCandidate = s.posture.sensed
    · rw [if_pos hrunning] at hturned ⊢
      rw [if_pos hrunning]
      exact .of_eq hturned
    · rw [if_neg hrunning] at hturned ⊢
      rw [if_neg hrunning]
      by_cases hzero : s.settings.active.orientationDwell = 0
      · rw [if_pos hzero] at hturned ⊢
        rw [if_pos hzero, hturned]
        exact (Becomes.commitOrientation s _ 0 (Ne.symm hsame)).unsaid
      · rw [if_neg hzero] at hturned ⊢
        rw [if_neg hzero]
        exact .of_eq hturned

theorem comparedActs_cases : s.comparedActs = [] ∨ s.comparedActs = [.activity] := by
  unfold State.comparedActs
  split_ifs <;> simp

theorem comparedPosture_lock : s.comparedPosture.lock = s.posture.lock := by
  unfold State.comparedPosture
  split_ifs <;> rfl

theorem comparedPosture_oriented (h : s.posture.sensed = s.posture.oriented) :
    s.comparedPosture.oriented = s.posture.oriented := by
  unfold State.comparedPosture
  rw [if_pos h]

end

theorem Leads.acts {acts rest : List Task} (hacts : acts = [] ∨ acts = [.activity]) (h : s.tasks = acts ++ rest) :
    ∃ k ≤ 1, ∃ u, Leads false 0 k s { s with sleep := u, tasks := rest } := by
  rcases hacts with rfl | rfl
  · refine ⟨0, by decide, s.sleep, ?_⟩
    have hs : { s with sleep := s.sleep, tasks := rest } = s := by
      rw [← show s.tasks = rest from h]
    rw [hs]
    exact .refl _ s
  · exact ⟨1, le_rfl, _, .activity h⟩

/-! ## The request -/

theorem serve_setRotationLock (s : State) (hm : MemoryCanonical s) (n : Fin 32) (tag : Half) (w0 w1 : Word) :
    (s.taken n .setRotationLock tag [w0, w1]).serve n .setRotationLock =
      (s.taken n .setRotationLock tag [w0, w1]).lockRotation w0.toNat w1.toNat := by
  unfold State.serve
  dsimp only
  rw [taken_param s hm n .setRotationLock tag [w0, w1] (by simp) 0 (by simp),
    taken_param s hm n .setRotationLock tag [w0, w1] (by simp) 1 (by simp)]
  simp only [List.getElem_cons_zero, List.getElem_cons_succ]

theorem exec_setRotationLock_request (s : State) (n : Fin 32) (tag : Half) (w0 w1 : Word) :
    exec (.setRotationLock n tag w0 w1) s = takeEvent s fun u => u.makeRequest n .setRotationLock tag [w0, w1] := by rfl

theorem lockRotation_badLock (s : State) (w0 w1 : Nat) (h : 1 < w0) :
    s.lockRotation w0 w1 = s.finishUnit .posture .badParameter 0 [] := if_pos h

theorem lockRotation_badOrientation (s : State) (w1 : Nat) (h : 3 < w1) (h' : w1 ≠ 255) :
    s.lockRotation 1 w1 = s.finishUnit .posture .badParameter 1 [] := by
  unfold State.lockRotation
  rw [if_neg (by decide), if_pos rfl, if_pos ⟨h, h'⟩]

/-- The orientation a lock names: a code, or the committed one. -/
def State.lockedTo (s : State) (w1 : Nat) : Orientation := if w1 = 255 then s.posture.oriented else Orientation.ofCode w1

/-- The posture unit with the lock on. -/
def State.postureLocked (s : State) (o : Orientation) : PostureUnit :=
  { s.posture with lock := some o, orientationDwell := none
                   oriented := if s.rotationAllowed then o else s.posture.oriented
                   orientationCandidate := if s.rotationAllowed then o else s.posture.oriented }

/-- What the lock hands on. -/
def State.lockActs (s : State) (o : Orientation) : List Task := if s.rotationAllowed then s.turning o else []

theorem lockActs_cases (s : State) (o : Orientation) : s.lockActs o = [] ∨ s.lockActs o = [.activity] := by
  unfold State.lockActs
  split
  · exact turning_cases s o
  · exact .inl rfl

theorem Becomes.lockRotation (s : State) (w1 : Nat) (h : ¬ (3 < w1 ∧ w1 ≠ 255)) :
    Becomes false 0 (s.lockRotation 1 w1)
      ((State.hand { s with posture := s.postureLocked (s.lockedTo w1) } [.finishLock (word (s.lockedTo w1).code)]).hand
        (s.lockActs (s.lockedTo w1))) := by
  have hlock : s.lockRotation 1 w1 =
      let locked := ((s.updPosture fun u => { u with lock := some (s.lockedTo w1), orientationDwell := none }).touchWhen
        s.posture.lock.isNone).hand [.finishLock (word (s.lockedTo w1).code)]
      if locked.rotationAllowed then locked.commitOrientation (s.lockedTo w1) 2
      else locked.updPosture fun u => { u with orientationCandidate := u.oriented } := by
    unfold State.lockRotation
    rw [if_neg (by decide), if_pos rfl, if_neg h]
    rfl
  rw [hlock]
  dsimp only
  have hlocked := (Becomes.touchWhen (q := false) (s.updPosture fun u => { u with lock := some (s.lockedTo w1), orientationDwell := none })
    (s.posture.lock.isNone = true)).hand [.finishLock (word (s.lockedTo w1).code)]
  have hallowed : (((s.updPosture fun u => { u with lock := some (s.lockedTo w1), orientationDwell := none }).touchWhen
      (s.posture.lock.isNone = true)).hand [.finishLock (word (s.lockedTo w1).code)]).rotationAllowed = s.rotationAllowed := by
    rw [hlocked.frame]
    rfl
  rw [hallowed]
  unfold State.postureLocked State.lockActs
  cases s.rotationAllowed with
  | true =>
    exact (hlocked.apply fun w => .turn w (s.lockedTo w1) 2).unsaid
  | false =>
    exact hlocked.blind (blind_updPosture fun u => { u with orientationCandidate := u.oriented })

/-- The posture unit with the lock off (R104), and what that hands on. -/
def State.postureUnlocked (s : State) : PostureUnit :=
  if s.posture.lock.isSome ∧ s.rotationAllowed then (s.updPosture fun u => { u with lock := none }).comparedPosture
  else { s.posture with lock := none }

def State.unlockActs (s : State) : List Task := if s.posture.lock.isSome ∧ s.rotationAllowed then s.comparedActs else []

theorem unlockActs_cases (s : State) : s.unlockActs = [] ∨ s.unlockActs = [.activity] := by
  unfold State.unlockActs
  split
  · exact comparedActs_cases s
  · exact .inl rfl

theorem postureUnlocked_lock (s : State) : s.postureUnlocked.lock = none := by
  unfold State.postureUnlocked
  split
  · exact comparedPosture_lock _
  · rfl

theorem postureUnlocked_still (s : State) (h : s.posture.lock = none ∨ s.rotationAllowed = false) :
    s.postureUnlocked = { s.posture with lock := none } := by
  unfold State.postureUnlocked
  rw [if_neg]
  rcases h with h | h <;> simp [h]

theorem postureUnlocked_oriented (s : State)
    (h : s.posture.lock = none ∨ s.rotationAllowed = false ∨ s.posture.sensed = s.posture.oriented) :
    s.postureUnlocked.oriented = s.posture.oriented := by
  rcases h with h | h | h
  · rw [postureUnlocked_still s (.inl h)]
  · rw [postureUnlocked_still s (.inr h)]
  · unfold State.postureUnlocked
    split
    · exact comparedPosture_oriented _ h
    · rfl

theorem Becomes.unlockRotation (s : State) (w1 : Nat) :
    Becomes false 0 (s.lockRotation 0 w1)
      ((State.hand { s with posture := s.postureUnlocked } [.finishLock 255]).hand s.unlockActs) := by
  have hunlocked := (Becomes.touchWhen (q := false) (s.updPosture fun u => { u with lock := none })
    (s.posture.lock.isSome = true)).hand [.finishLock 255]
  have hunlock : s.lockRotation 0 w1 =
      let unlocked := ((s.updPosture fun u => { u with lock := none }).touchWhen s.posture.lock.isSome).hand [.finishLock 255]
      if s.posture.lock.isSome ∧ unlocked.rotationAllowed then unlocked.compareOrientation else unlocked := by
    unfold State.lockRotation
    rw [if_neg (by decide), if_neg (by decide)]
  have hallowed : (((s.updPosture fun u => { u with lock := none }).touchWhen (s.posture.lock.isSome = true)).hand
      [.finishLock 255]).rotationAllowed = s.rotationAllowed := by
    rw [hunlocked.frame]
    rfl
  rw [hunlock]
  dsimp only
  rw [hallowed]
  unfold State.postureUnlocked State.unlockActs
  by_cases hcompare : s.posture.lock.isSome = true ∧ s.rotationAllowed = true
  · simp only [if_pos hcompare]
    exact (hunlocked.apply Becomes.compareOrientation).unsaid
  · simp only [if_neg hcompare]
    exact hunlocked

/-- The lock answered from a posture unit, after what its commit hands on. -/
theorem exec_lockAnswered {s : State} {n : Fin 32} {tag : Half} {w0 w1 shown : Word} {p : PostureUnit} {acts : List Task}
    (hs : s.sound) (h : s.takesAtOnce n .posture) (hacts : acts = [] ∨ acts = [.activity])
    (hf : ∀ a, Becomes false 0 (((s.claimed n .setRotationLock).withNoise a).lockRotation w0.toNat w1.toNat)
      (((State.hand { s.claimed n .setRotationLock with posture := p } [.finishLock shown]).hand acts).withNoise a)) :
    ∃ e, exec (.setRotationLock n tag w0 w1) s = .next e ∧ e.answered n .ok 0 ∧ e.resultWord n 0 = shown.toNat ∧
      e.resultWord n 1 = e.posture.oriented.code ∧ e.posture = p := by
  rw [exec_setRotationLock_request]
  obtain ⟨k, hk, sleep, hlead⟩ := Leads.acts (rest := [.finishLock shown, .considerQueue])
    (s := (State.hand { s.claimed n .setRotationLock with posture := p } [.finishLock shown]).hand acts) hacts rfl
  obtain ⟨e, hnext, hanswer⟩ := exec_answeredLeads (f := fun s => s.lockRotation w0.toNat w1.toNat)
    (words := [shown, word p.oriented.code]) hs h (serve_setRotationLock s hs.2 n tag w0 w1) hlead hf rfl rfl (fun _ => rfl)
    (by decide) (hk := by omega)
  have hposture := congrArg State.posture hanswer.frame
  refine ⟨e, hnext, hanswer.answered, hanswer.shown 0 (by simp), ?_, hposture⟩
  rw [hposture]
  refine (hanswer.shown 1 (by simp)).trans (word_toNat p.oriented.code ?_)
  cases p.oriented <;> decide

/-- Settles O33: a bad word is refused, and the lock is set or released up to the commit it brings. -/
theorem setRotationLock : Obligations.SetRotationLock := by
  unfold Obligations.SetRotationLock
  intro s n tag w0 w1 hs h
  have hserve := serve_setRotationLock s hs.2 n tag w0 w1
  by_cases hbad : 1 < w0.toNat
  · obtain ⟨hnext, hanswered, -⟩ := exec_answeredFrom hs h (hserve.trans (lockRotation_badLock _ _ _ hbad)) (by decide)
    have hone (e : w0 = 1) : False := by simp [e] at hbad
    have hzero (e : w0 = 0) : False := by simp [e] at hbad
    exact ⟨_, hnext, fun _ => hanswered, fun e => (hone e).elim, fun e => (hone e).elim, fun e => (hzero e).elim⟩
  obtain rfl | rfl : w0 = 1 ∨ w0 = 0 := by
    rcases Nat.lt_or_ge 0 w0.toNat with hpos | hzero
    · exact .inl (BitVec.eq_of_toNat_eq (by simp; omega))
    · exact .inr (BitVec.eq_of_toNat_eq (by simp; omega))
  · have hcode : w1.toNat = 255 ↔ w1 = 255 := by rw [← BitVec.toNat_inj]; rfl
    by_cases horientation : 3 < w1.toNat ∧ w1 ≠ 255
    · obtain ⟨hnext, hanswered, -⟩ := exec_answeredFrom hs h
        (hserve.trans (lockRotation_badOrientation _ _ horientation.1 (by rw [ne_eq, hcode]; exact horientation.2))) (by decide)
      refine ⟨_, hnext, fun e => absurd e hbad, fun _ _ _ => hanswered, fun _ e => ?_, fun e => absurd e (by decide)⟩
      rcases e with e | e
      · omega
      · exact absurd e horientation.2
    · have hnamed : ¬ (3 < w1.toNat ∧ w1.toNat ≠ 255) := by rwa [ne_eq, hcode]
      obtain ⟨e, hnext, hanswered, hfirst, hsecond, hposture⟩ := exec_lockAnswered (tag := tag) (w0 := 1)
        (p := s.postureLocked (s.lockedTo w1.toNat)) (shown := word (s.lockedTo w1.toNat).code) hs h
        (lockActs_cases s (s.lockedTo w1.toNat))
        fun a => Becomes.lockRotation ((s.claimed n .setRotationLock).withNoise a) w1.toNat hnamed
      refine ⟨e, hnext, fun e => absurd e hbad, fun _ h3 h255 => absurd ⟨h3, h255⟩ horientation, fun _ _ => ?_,
        fun e => absurd e (by decide)⟩
      have ho : s.lockedTo w1.toNat = if w1 = 255 then s.posture.oriented else Orientation.ofCode w1.toNat :=
        if_congr hcode rfl rfl
      rw [← ho]
      refine ⟨hanswered, hfirst.trans (word_toNat _ ?_), hsecond, hposture⟩
      cases s.lockedTo w1.toNat <;> decide
  · obtain ⟨e, hnext, hanswered, hfirst, hsecond, hposture⟩ := exec_lockAnswered (tag := tag) (w0 := 0) (w1 := w1)
      (p := s.postureUnlocked) (shown := 255) hs h (unlockActs_cases s) fun a => Becomes.unlockRotation ((s.claimed n .setRotationLock).withNoise a) w1.toNat
    refine ⟨e, hnext, fun e => absurd e hbad, fun e => absurd e (by decide), fun e => absurd e (by decide),
      fun _ => ⟨hanswered, hfirst, hsecond, ?_, fun hkeep => ?_, fun hkeep => ?_⟩⟩
    · rw [hposture]
      exact postureUnlocked_lock s
    · rw [hposture]
      exact postureUnlocked_oriented s hkeep
    · rw [hposture]
      exact postureUnlocked_still s hkeep

end Sys2Proof.Machine
end

section
/-! The refusals of DETACH (R131), and PEN_CHARGE_MODE (R161). -/

namespace Sys2Proof.Machine

set_option Elab.async false

variable {q : Bool} {L M : BitVec 10} {s t u v w e : State}

/-- What holds of one outcome holds of the outcome. -/
theorem next_holds {P : State → Prop} {o : Host.Outcome State Fault Refusal} (ht : o = .next t) (hp : ∃ u, o = .next u ∧ P u) :
    P t := by
  obtain ⟨u, hu, h⟩ := hp
  cases ht.symm.trans hu
  exact h

/-! ## DETACH refused (R131) -/

theorem exec_detach_request (s : State) (n : Fin 32) (tag : Half) :
    exec (.detach n tag) s = takeEvent s fun u => u.makeRequest n .detach tag [] := by rfl

/-- A claim that is judged refused. -/
theorem detachClaim_refused (s : State) (n : Fin 32) {code : ResultCode} {detail shown : Nat}
    (hrest : s.attach.state.inRelease = false) (hjudge : s.judgeClaim = some (code, detail, shown)) :
    s.detachClaim (.host n) = s.finishUnit .base code detail [word shown] := by
  unfold State.detachClaim
  rw [if_neg (by simp [hrest]), hjudge]
  rfl

theorem exec_detach_refused {n : Fin 32} {tag : Half} {code : ResultCode} {detail shown : Nat} (hs : s.sound)
    (h : s.takesAtOnce n .base) (hrest : s.attach.state.inRelease = false)
    (hjudge : s.judgeClaim = some (code, detail, shown)) (hd : detail < 65536) :
    ∃ e, exec (.detach n tag) s = .next e ∧ s.slotAnswered e n code detail ∧ e.resultWord n 0 = (word shown).toNat := by
  rw [exec_detach_request]
  obtain ⟨hnext, hanswered, hwords⟩ := exec_answeredFrom (r := .detach) hs h
    (detachClaim_refused (s.taken n .detach tag []) n hrest hjudge) hd
  exact ⟨_, hnext, hanswered, hwords 0 (by simp)⟩

section
variable (s)

theorem judgeClaim_unseated (h : ¬ (s.attach.state = .attached ∨ s.attach.state = .degraded)) :
    s.judgeClaim = some (.notNow, 1, 0) := if_pos (not_or.mp h)

variable (h : s.attach.state = .attached ∨ s.attach.state = .degraded)

include h in
theorem judgeClaim_seated :
    s.judgeClaim =
      if s.detachAllowed = false then some (.notNow, 2, 0)
      else if s.sleep.power ≠ .active then some (.notNow, 3, 0)
      else if s.settings.active.pulseLimit ≤ s.attach.pulses.length then some (.notNow, 4, s.coolingTime)
      else if s.allot.budget < 1200 then some (.noPower, 0, s.allot.budget)
      else none := by
  unfold State.judgeClaim
  rw [if_neg (by rwa [← not_or, Decidable.not_not])]
  simp

end

theorem coolingTime_eq (s : State) (h : s.attach.pulses ≠ []) :
    s.coolingTime = (s.attach.pulses.headD 0 + 60000 - s.now).toNat := by
  unfold State.coolingTime
  cases hp : s.attach.pulses with
  | nil => exact absurd hp h
  | cons oldest rest => rfl

/-- Settles O34: the refusal is the first of R131's tests that fails. -/
theorem detachRefused : Obligations.DetachRefused := by
  unfold Obligations.DetachRefused
  intro s n tag hs h hrest
  obtain ⟨t, ht⟩ : ∃ t, exec (.detach n tag) s = .next t := ⟨_, exec_detach_request s n tag⟩
  have refused {code : ResultCode} {detail shown : Nat} (hjudge : s.judgeClaim = some (code, detail, shown))
      (hd : detail < 65536 := by decide) : s.slotAnswered t n code detail ∧ t.resultWord n 0 = (word shown).toNat :=
    next_holds ht (exec_detach_refused hs h hrest hjudge hd)
  have hword (b : BitVec 32) : (word b.toNat).toNat = b.toNat := word_toNat _ b.isLt
  refine ⟨t, ht, fun hseated => refused (judgeClaim_unseated s hseated), fun hseated hallowed => ?_,
    fun hseated hallowed hpower => ?_, fun hseated hallowed hpower hwarm hpulses => ?_,
    fun hseated hallowed hpower hwarm hbudget => ?_⟩
  · exact refused ((judgeClaim_seated s hseated).trans (if_pos hallowed))
  · have hjudge : s.judgeClaim = some (.notNow, 3, 0) := by
      rw [judgeClaim_seated s hseated, if_neg (by simp [hallowed]), if_pos hpower]
    exact refused hjudge
  · have hjudge : s.judgeClaim = some (.notNow, 4, s.coolingTime) := by
      rw [judgeClaim_seated s hseated, if_neg (by simp [hallowed]), if_neg (by simp [hpower]), if_pos (by omega)]
    rw [coolingTime_eq s hpulses] at hjudge
    obtain ⟨hanswered, hshown⟩ := refused hjudge
    exact ⟨hanswered, hshown.trans (hword _)⟩
  · have hjudge : s.judgeClaim = some (.noPower, 0, s.allot.budget) := by
      rw [judgeClaim_seated s hseated, if_neg (by simp [hallowed]), if_neg (by simp [hpower]), if_neg (by omega), if_pos hbudget]
    obtain ⟨hanswered, hshown⟩ := refused hjudge
    exact ⟨hanswered, hshown.trans (word_toNat _ (by omega))⟩

end Sys2Proof.Machine
end

section
/-! Events of timers, carried to their end, and SAMPLE_PERIOD_EXPIRY (R42, R50, R51). -/

namespace Sys2Proof.Machine

set_option Elab.async false

/-! ## Events that end with the board unseen -/

/-- An event whose hand-ons come to an end, with no field of the board rewritten. -/
theorem takeEvent_settled {s t : State} {f : State → State} {k : Nat} (hs : s.betweenEvents) (h : Carried k (f s) t)
    (ht : t.betweenEvents) (hboard : t.boardWords = s.boardWords) (hk : k ≤ 100 := by decide) : takeEvent s f = .next t := by
  rw [takeEvent_carried hs h ht.1 hk, closeBoard_same _ _ ht.2 hboard]

/-- A running timer's expiry, at the part time it reaches. -/
theorem atExpiry_some (s : State) (e : PartTime) (f : State → State) :
    s.atExpiry (some e) f = f (s.setNow (s.reach e).now) := by
  unfold State.atExpiry State.reach
  dsimp only
  split <;> rfl

/-! ## RATE -/

theorem allows_other {p : PartPacket} (l : LinkState) (hp : ∀ a b, p ≠ .welcome a b) :
    l.allows p = true ↔ l = .ready ∨ l = .quiesced := by
  unfold LinkState.allows
  cases p with
  | welcome a b => exact absurd rfl (hp a b)
  | rate a => simp
  | light a => simp
  | quiesce => simp
  | resume => simp

/-- The base link unit after an offer of RATE with a period (R51, R107). -/
def LinkUnit.rated (u : LinkUnit) (period : Nat) : LinkUnit :=
  if u.state.allows (.rate period) then LinkUnit.send period { u with transmitList := offerTo u.transmitList (.rate period) }
  else u

theorem offerRate_eq (s : State) : s.offerRate = { s with link := s.link.rated s.sensor.period } := by
  unfold State.offerRate State.offerPacket LinkUnit.rated
  dsimp only
  split <;> rfl

theorem rated_shut (u : LinkUnit) (period : Nat) (h : u.state ≠ .ready ∧ u.state ≠ .quiesced) : u.rated period = u := by
  refine if_neg fun hallows => ?_
  rcases (allows_other u.state (by simp)).mp hallows with e | e
  · exact h.1 e
  · exact h.2 e

section
variable (u : LinkUnit) (period : Nat) (hopen : u.state = .ready ∨ u.state = .quiesced)
include hopen

theorem rated_open : u.rated period = LinkUnit.send period { u with transmitList := offerTo u.transmitList (.rate period) } :=
  if_pos ((allows_other u.state (by simp)).mpr hopen)

/-- A free transmitter sends the RATE at once. -/
theorem rated_free (hfree : u.sending = none) (hlist : u.transmitList = []) :
    u.rated period = { u with sending := some (.rate period), lastPeriodSent := period } := by
  have hallows : u.state.allows (.rate period) = true := (allows_other u.state (by simp)).mpr hopen
  have hoffer : offerTo u.transmitList (.rate period) = [.rate period] := by rw [hlist]; rfl
  rw [rated_open u period hopen, hoffer]
  unfold LinkUnit.send
  simp only [hfree, List.find?_cons, hallows]
  simp [PartPacket.atSending, PartPacket.sameKind, LinkUnit.noteSent, hlist]

/-- A busy transmitter lists it. -/
theorem rated_busy {p : PartPacket} (hbusy : u.sending = some p) :
    u.rated period = { u with transmitList := offerTo u.transmitList (.rate period) } := by
  rw [rated_open u period hopen]
  unfold LinkUnit.send
  simp only [hbusy]

end

theorem sameKind_rate (q : PartPacket) (n : Nat) : q.sameKind (.rate n) = true ↔ ∃ m, q = .rate m := by
  cases q <;> simp [PartPacket.sameKind]

theorem offerTo_rate_new (list : List PartPacket) (period : Nat) (h : ∀ q ∈ list, ∀ n, q ≠ .rate n) :
    offerTo list (.rate period) = list ++ [.rate period] := by
  unfold offerTo
  rw [if_neg]
  rw [Bool.not_eq_true, List.any_eq_false]
  intro q hq hkind
  obtain ⟨m, hm⟩ := (sameKind_rate q period).mp hkind
  exact h q hq m hm

theorem offerTo_rate_replaced (before after : List PartPacket) (n period : Nat) (h : ∀ q ∈ before ++ after, ∀ m, q ≠ .rate m) :
    offerTo (before ++ .rate n :: after) (.rate period) = before ++ .rate period :: after := by
  have hkeep (l : List PartPacket) (hl : ∀ q ∈ l, q ∈ before ++ after) :
      l.map (fun q => if q.sameKind (.rate period) then .rate period else q) = l := by
    refine (List.map_congr_left fun q hq => ?_).trans (List.map_id l)
    refine if_neg fun hkind => ?_
    obtain ⟨m, hm⟩ := (sameKind_rate q period).mp hkind
    exact h q (hl q hq) m hm
  unfold offerTo
  rw [if_pos (by simp [PartPacket.sameKind]), if_pos (by rfl), List.map_append, List.map_cons,
    hkeep before (fun q hq => List.mem_append_left _ hq), hkeep after (fun q hq => List.mem_append_right _ hq)]
  rfl

/-! ## The period's expiry -/

/-- The sequencer after a period expiry. -/
def State.periodEnded (s : State) : State :=
  { s with sensor := { s.sensor with timer := s.start s.periodInForce, period := s.periodInForce, read := .inFlight s.sensor.period } }

theorem periodExpired_eq (s : State) :
    s.periodExpired = if s.periodInForce = s.sensor.period then s.periodEnded else s.periodEnded.hand [.offerRate] := rfl

theorem periodExpired_carried (s : State) (hs : s.tasks = []) :
    ∃ k ≤ 1, Carried k s.periodExpired
      { s.periodEnded with
        link := if s.periodInForce = s.sensor.period then s.link else s.link.rated s.periodInForce } := by
  rw [periodExpired_eq]
  split
  · exact ⟨0, Nat.zero_le 1, .refl _⟩
  · refine ⟨1, le_rfl, Carried.front_eq (x := .offerRate) (rest := []) ?_ ?_⟩
    · show [Task.offerRate] ++ s.tasks = _
      rw [hs]
      rfl
    · refine (offerRate_eq _).trans ?_
      rw [← hs]
      rfl

/-- What the taking of an entry for sending changes. -/
theorem send_frame (period : Nat) (u : LinkUnit) :
    LinkUnit.send period u =
      { u with lastPeriodSent := (LinkUnit.send period u).lastPeriodSent, lastLevelSent := (LinkUnit.send period u).lastLevelSent
               sending := (LinkUnit.send period u).sending, transmitList := (LinkUnit.send period u).transmitList } := by
  unfold LinkUnit.send
  split
  · rfl
  · split
    · rfl
    · next p _ => cases p <;> rfl

theorem rated_shown (u : LinkUnit) (period : Nat) :
    (u.rated period).state = u.state ∧ (u.rated period).keyDropped = u.keyDropped ∧ (u.rated period).overruns = u.overruns := by
  unfold LinkUnit.rated
  split
  · rw [send_frame]
    exact ⟨rfl, rfl, rfl⟩
  · exact ⟨rfl, rfl, rfl⟩

/-- Settles O41: the read begins, and the new length is offered. -/
theorem samplePeriodExpiry : Obligations.SamplePeriodExpiry := by
  unfold Obligations.SamplePeriodExpiry
  intro s e hs he
  dsimp only
  obtain ⟨now, hnow⟩ : ∃ now, (s.reach e).now = now := ⟨_, rfl⟩
  obtain ⟨k, hk, hcarried⟩ := periodExpired_carried (s.setNow now) hs.1
  have hlink : (if s.periodInForce = s.sensor.period then s.link else s.link.rated s.periodInForce).state = s.link.state ∧
      (if s.periodInForce = s.sensor.period then s.link else s.link.rated s.periodInForce).keyDropped = s.link.keyDropped ∧
      (if s.periodInForce = s.sensor.period then s.link else s.link.rated s.periodInForce).overruns = s.link.overruns := by
    split
    · exact ⟨rfl, rfl, rfl⟩
    · exact rated_shown s.link _
  have hexec : exec .samplePeriodExpiry s = .next
      { (s.setNow now).periodEnded with
        link := if s.periodInForce = s.sensor.period then s.link else s.link.rated s.periodInForce } := by
    refine takeEvent_settled hs (k := k) ?_ hs ?_ (hk.trans (by decide))
    · dsimp only
      rw [he, atExpiry_some, hnow]
      exact hcarried
    · obtain ⟨hstate, hkeys, hruns⟩ := hlink
      unfold State.boardWords State.boardFields
      dsimp only
      rw [hstate, hkeys, hruns]
      rfl
  have hafter (ms : Nat) : (s.reach e).after ms = (s.setNow now).after ms := by
    unfold State.after
    rw [hnow]
    rfl
  refine ⟨_, hexec, hnow.symm, ?_, rfl, fun hquiet => ?_, fun hne hopen => ?_⟩
  · rw [hafter]
    rfl
  · dsimp only
    split
    · rfl
    · next hne => exact rated_shut s.link _ (hquiet.resolve_left hne)
  · dsimp only
    rw [if_neg hne]
    refine ⟨fun hfree hlist => rated_free s.link _ hopen hfree hlist, fun p hbusy => ⟨fun hnew => ?_, fun before n after hlist hold => ?_⟩⟩
    · rw [rated_busy s.link _ hopen hbusy, offerTo_rate_new _ _ hnew]
    · rw [rated_busy s.link _ hopen hbusy, hlist, offerTo_rate_replaced _ _ _ _ hold]

end Sys2Proof.Machine
end

section
/-! Recomputations of the allotment unit up to drift (R166 to R171). -/

namespace Sys2Proof.Machine

set_option Elab.async false

variable {q : Bool} {L M : BitVec 10} {s t u v w e : State}

/-! ## Hand-ons that come to nothing -/

theorem Leads.next {j k : Nat} (h : Leads q L j s t) (h' : Leads q 0 k t u) : Leads q L (j + k) s u := by
  have := h.trans h'
  rwa [show L ||| (0 : BitVec 10) = L by simp] at this

/-- The latched causes of the second part alone. -/
theorem Leads.late {j k : Nat} (h : Leads q 0 j s t) (h' : Leads q L k t u) : Leads q L (j + k) s u := by
  have := h.trans h'
  rwa [show (0 : BitVec 10) ||| L = L by simp] at this

theorem Leads.unsaid {k : Nat} (h : Leads q L k s t) : Leads q 0 k s t := fun a => by
  obtain ⟨b, hb, hbecomes⟩ := h a
  exact ⟨b, hb, hbecomes.unsaid⟩

/-- A front hand-on whose rule leaves the state as it is. -/
theorem Leads.idle {x : Task} {rest : List Task} (h : s.tasks = x :: rest)
    (hx : ∀ v : State, v = (s.setTasks rest).withNoise v → doTask x v = v) : Leads q 0 1 s (s.setTasks rest) :=
  .front h fun _ => .of_eq (hx _ rfl)

/-- A front hand-on whose rule is an equation of states. -/
theorem Leads.exact {x : Task} {rest : List Task} (h : s.tasks = x :: rest)
    (hx : ∀ a, doTask x ((s.setTasks rest).withNoise a) = t.withNoise a) : Leads q 0 1 s t :=
  .front h fun a => .of_eq (hx a)

/-! ## VBASE under watch (R171) -/

/-- The under-voltage timer after VBASE may have turned on or off. -/
def underVoltageAfter (was on low : Bool) (timer started : Timer) : Timer :=
  if was && !on then none else if !was && on && low then started else timer

theorem watchVbase_eq (before after : State) :
    before.watchVbase after =
      { after with allot := { after.allot with
          underVoltage := underVoltageAfter before.vbaseOn after.vbaseOn after.allot.voltageLow after.allot.underVoltage
            (after.start 10) } } := by
  unfold State.watchVbase underVoltageAfter
  split_ifs <;> rfl

/-! ## The recomputation (R166, R167) -/

section
variable (s)

/-- VBASE with BASE_BASIC at a grant. -/
def State.vbaseWith (grant : Allotments) : Bool := decide (0 < grant.base) && !s.link.holdOff

/-- The allotment unit with grants and pending increases put in force. -/
def State.granted (grant : Allotments) (increases : PendingIncreases) : AllotUnit :=
  { s.allot with
    grant := grant, increases := increases
    underVoltage := underVoltageAfter s.vbaseOn (s.vbaseWith grant) s.allot.voltageLow s.allot.underVoltage (s.start 10) }

/-- The allotment unit after a recomputation. -/
def State.recomputedAllot : AllotUnit :=
  { s.granted (lowered s.allot.grant (targets s.allot.budget s.allot.demand))
      (increasesOf s.allot.grant (targets s.allot.budget s.allot.demand)) with
    awaiting := awaitingAfter s.allot.awaiting s.allot.grant (targets s.allot.budget s.allot.demand)
      (s.vbaseOn && !s.vbaseWith (lowered s.allot.grant (targets s.allot.budget s.allot.demand))) (s.after 100) }

def State.recomputed : State :=
  State.hand { s with allot := s.recomputedAllot }
    (grantTasks s.allot.grant (lowered s.allot.grant (targets s.allot.budget s.allot.demand)) ++ [.settleIncreases, .coilAnswer])

theorem Becomes.recompute : Becomes q 0 s.recompute s.recomputed := by
  unfold State.recompute State.recomputed
  dsimp only
  rw [watchVbase_eq]
  exact (Becomes.touchWhen _ _).hand _

/-- The pending increases put in force (R167). -/
def State.settled : State :=
  State.hand { s with allot := s.granted (raised s.allot.grant s.allot.increases) noIncreases }
    (grantTasks s.allot.grant (raised s.allot.grant s.allot.increases) ++ [.coilAnswer])

theorem Becomes.settleIncreases (h : s.allot.awaiting = []) : Becomes q 0 s.settleIncreases s.settled := by
  unfold State.settleIncreases State.settled
  rw [h]
  dsimp only
  rw [if_pos List.isEmpty_nil, watchVbase_eq]
  exact (Becomes.touchWhen _ _).hand _

theorem settleIncreases_awaiting (h : s.allot.awaiting ≠ []) : s.settleIncreases = s := by
  unfold State.settleIncreases
  rw [if_neg (by simpa using h)]

end

/-- The closing steps of a recomputation with no increase pending and nothing for the coil claim to be answered. -/
theorem Leads.settleStill {rest : List Task} (h : s.tasks = .settleIncreases :: .coilAnswer :: rest)
    (hinc : s.allot.increases = noIncreases)
    (hanswer : ∀ ts a, ((s.setTasks ts).withNoise a).coilAnswer = (s.setTasks ts).withNoise a) :
    ∃ k ≤ 3, Leads q 0 k s (s.setTasks rest) := by
  have hlast (ts : List Task) : Leads q 0 1 (s.setTasks (.coilAnswer :: ts)) (s.setTasks ts) :=
    .exact (s := s.setTasks (.coilAnswer :: ts)) rfl (hanswer ts)
  have hsettle (a : State) := settleIncreases_none ((s.setTasks (.coilAnswer :: rest)).withNoise a) hinc
  by_cases hwait : s.allot.awaiting.isEmpty
  · have hfirst : Leads q 0 1 s (s.setTasks (.coilAnswer :: .coilAnswer :: rest)) :=
      .exact h fun a => (hsettle a).trans (if_pos hwait)
    exact ⟨3, le_rfl, (hfirst.next (hlast _)).next (hlast _)⟩
  · have hfirst : Leads q 0 1 s (s.setTasks (.coilAnswer :: rest)) := .exact h fun a => (hsettle a).trans (if_neg hwait)
    exact ⟨2, by decide, hfirst.next (hlast _)⟩

theorem Leads.settleRest {rest : List Task} (h : s.tasks = .settleIncreases :: .coilAnswer :: rest)
    (hinc : s.allot.increases = noIncreases) (hclaiming : s.attach.phase ≠ some .claiming)
    (hpulse : s.attach.phase = some .pulse → s.allot.demand.coil = 1200 → s.allot.grant.coil = 1200) :
    ∃ k ≤ 3, Leads q 0 k s (s.setTasks rest) :=
  Leads.settleStill h hinc fun _ _ => coilAnswer_answered _ hclaiming hpulse

/-! ## With nothing drawn -/

theorem targets_nothing (budget : Nat) : targets budget ⟨0, 0, 0, 0⟩ = ⟨0, 0, 0, 0⟩ := by
  simp [targets, coilTarget, baseTarget, penTarget, backlightTarget]

/-- A recomputation with nothing drawn only hands on its closing steps. -/
theorem recompute_nothing (h : s.nothingDraws) : s.recompute = s.hand [.settleIncreases, .coilAnswer] := by
  obtain ⟨hdemand, hgrant, hinc, -, -⟩ := h
  refine recompute_targets_in_force s ?_ hinc
  rw [hdemand, hgrant, targets_nothing]

theorem coilAnswer_undemanded (s : State) (h : s.allot.demand.coil ≠ 1200) : s.coilAnswer = s := if_neg h

theorem Leads.settleUndemanded {rest : List Task} (h : s.tasks = .settleIncreases :: .coilAnswer :: rest)
    (hinc : s.allot.increases = noIncreases) (hcoil : s.allot.demand.coil ≠ 1200) :
    ∃ k ≤ 3, Leads q 0 k s (s.setTasks rest) :=
  Leads.settleStill h hinc fun _ _ => coilAnswer_undemanded _ hcoil

/-- The state with the budget selected anew. -/
def State.rebudgeted (s : State) : State := { s with allot := { s.allot with budget := s.selectedBudget } }

theorem rebudgeted_same (s : State) (h : s.selectedBudget = s.allot.budget) : s.rebudgeted = s := by
  unfold State.rebudgeted
  rw [h]

/-- With nothing drawn a change of budget moves no grant (R163). -/
theorem Leads.selectBudget {cause : Nat} {rest : List Task} (h : s.tasks = .selectBudget cause :: rest) (hn : s.nothingDraws) :
    ∃ k ≤ 4, Leads false 0 k s (s.rebudgeted.setTasks rest) := by
  by_cases hsame : s.selectedBudget = s.allot.budget
  · have hidle : Leads false 0 1 s (s.setTasks rest) := .exact h fun a => if_pos hsame
    rw [rebudgeted_same s hsame]
    exact ⟨1, by decide, hidle⟩
  · have hfirst : Leads false 0 1 s (s.rebudgeted.setTasks (.settleIncreases :: .coilAnswer :: rest)) := by
      refine .front h fun a => ?_
      have hmoved : Becomes false 0
          (((((s.setTasks rest).withNoise a).updAllot fun u => { u with budget := s.selectedBudget }).touchBoard).offerNotice
            .allotment cause 0 0 s.selectedBudget) ((s.rebudgeted.setTasks rest).withNoise a) :=
        (Becomes.touchBoard _).join (.offerNotice _ _ _ _ _ _)
      have hselect : doTask (.selectBudget cause) ((s.setTasks rest).withNoise a) =
          (((((s.setTasks rest).withNoise a).updAllot fun u => { u with budget := s.selectedBudget }).touchBoard).offerNotice
            .allotment cause 0 0 s.selectedBudget).recompute := if_neg hsame
      rw [hselect, recompute_nothing (by rw [hmoved.frame]; exact hn)]
      exact hmoved.hand _
    obtain ⟨hdemand, -, hinc, -, -⟩ := hn
    obtain ⟨k, hk, hrest⟩ := Leads.settleUndemanded (q := false)
      (s := s.rebudgeted.setTasks (.settleIncreases :: .coilAnswer :: rest)) rfl hinc
      (by
        show s.allot.demand.coil ≠ 1200
        rw [hdemand]
        decide)
    exact ⟨1 + k, by omega, hfirst.next hrest⟩

/-! ## Changes of the power state (R174) -/

section
variable (s)

/-- The sequencer after a change of the part power state. -/
def State.poweredSensor (before : PowerState) : SensorUnit :=
  if s.sleep.power = .standby then
    { s.sensor with timer := none, read := (match s.sensor.read with | .inFlight _ => .discarding | r => r), holding := none }
  else if before = .standby then { s.sensor with timer := s.start s.periodInForce, period := s.periodInForce }
  else s.sensor

/-- The base link unit after what that change has the sequencer offer. -/
def State.poweredLink (before : PowerState) : LinkUnit :=
  if s.sleep.power = .standby then s.link
  else if before = .standby ∧ s.periodInForce ≠ s.sensor.period then s.link.rated s.periodInForce
  else s.link

/-- The posture unit after that change (R97). -/
def State.poweredPosture : PostureUnit :=
  if s.sleep.power = .standby then
    { s.posture with dwell := none, unavailable := none, orientationDwell := none, candidate := none
                     orientationCandidate := s.posture.oriented }
  else s.posture

end

theorem sensorPower_eq (s : State) (before : PowerState) :
    s.sensorPower before =
      if s.sleep.power ≠ .standby ∧ before = .standby ∧ s.periodInForce ≠ s.sensor.period then
        State.hand { s with sensor := s.poweredSensor before } [.offerRate]
      else { s with sensor := s.poweredSensor before } := by
  unfold State.sensorPower State.poweredSensor
  by_cases hstandby : s.sleep.power = .standby
  · rw [if_pos hstandby, if_pos hstandby, if_neg fun h => h.1 hstandby]
    rfl
  rw [if_neg hstandby, if_neg hstandby]
  by_cases hbefore : before = .standby
  · rw [if_pos hbefore, if_pos hbefore]
    unfold State.startPeriod
    dsimp only
    by_cases hsame : s.periodInForce = s.sensor.period
    · rw [if_pos hsame, if_neg fun h => h.2.2 hsame]
      rfl
    · rw [if_neg hsame, if_pos ⟨hstandby, hbefore, hsame⟩]
      rfl
  · rw [if_neg hbefore, if_neg hbefore, if_neg fun h => hbefore h.2.1]

theorem Leads.sensorPower {before : PowerState} {rest : List Task} (h : s.tasks = .sensorPower before :: rest) :
    ∃ k ≤ 2, Leads q 0 k s { s with sensor := s.poweredSensor before, link := s.poweredLink before, tasks := rest } := by
  by_cases hoffer : s.sleep.power ≠ .standby ∧ before = .standby ∧ s.periodInForce ≠ s.sensor.period
  · have hfirst : Leads q 0 1 s { s with sensor := s.poweredSensor before, tasks := .offerRate :: rest } :=
      .exact h fun a => (sensorPower_eq _ before).trans (if_pos hoffer)
    obtain ⟨hpower, hbefore, hperiod⟩ := hoffer
    have hsecond : Leads q 0 1 { s with sensor := s.poweredSensor before, tasks := .offerRate :: rest }
        { s with sensor := s.poweredSensor before, link := s.poweredLink before, tasks := rest } := by
      refine .exact rfl fun a => (offerRate_eq _).trans ?_
      have hsensor : (s.poweredSensor before).period = s.periodInForce := by
        unfold State.poweredSensor
        rw [if_neg hpower, if_pos hbefore]
      have hlink : s.poweredLink before = s.link.rated s.periodInForce := by
        unfold State.poweredLink
        rw [if_neg hpower, if_pos ⟨hbefore, hperiod⟩]
      rw [hlink, ← hsensor]
      rfl
    exact ⟨2, le_rfl, hfirst.next hsecond⟩
  · have hlink : s.poweredLink before = s.link := by
      unfold State.poweredLink
      split
      · rfl
      · next hpower => exact if_neg fun h => hoffer ⟨hpower, h⟩
    refine ⟨1, by decide, .exact h fun a => (sensorPower_eq _ before).trans ((if_neg hoffer).trans ?_)⟩
    rw [hlink]
    rfl

theorem Leads.anglePower {rest : List Task} (h : s.tasks = .anglePower :: rest)
    (hc : s.sleep.power = .standby → s.angle.calibration = none) : Leads q 0 1 s (s.setTasks rest) := by
  refine .idle h fun v hv => ?_
  show v.anglePower = v
  unfold State.anglePower
  split
  · next hpower =>
    rw [hv] at hpower
    unfold State.angleStandby State.failCalibration
    have : v.angle.calibration = none := by
      rw [hv]
      exact hc hpower
    rw [this]
  · rfl

theorem Leads.posturePower {rest : List Task} (h : s.tasks = .posturePower :: rest) :
    Leads q 0 1 s { s with posture := s.poweredPosture, tasks := rest } := by
  refine .exact h fun a => ?_
  show State.posturePower _ = _
  unfold State.posturePower State.poweredPosture
  by_cases hpower : s.sleep.power = .standby
  · rw [if_pos hpower]
    exact if_pos hpower
  · rw [if_neg hpower]
    exact if_neg hpower

theorem Leads.reportPower {before : PowerState} {cause : Nat} {rest : List Task} (h : s.tasks = .reportPower before cause :: rest) :
    Leads false 0 1 s (s.setTasks rest) :=
  .front h fun _ => .offerNotice _ _ _ _ _ _

/-- The base withdrawal after a change of the power state. -/
def State.withdrawn (s : State) : Bool := s.sleep.power == .standby && !s.wakeEnabled .key

/-- Without a base the withdrawal moves no demand. -/
theorem Leads.withdrawBase {rest : List Task} (h : s.tasks = .withdrawBase :: rest) (hdetect : s.attach.detect.level = false)
    (hbase : s.allot.demand.base = 0) :
    Leads q 0 1 s { s with sleep := { s.sleep with withdrawal := s.withdrawn }, tasks := rest } := by
  refine .exact h fun a => ?_
  show State.withdrawBase _ = _
  unfold State.withdrawBase State.reviewBase
  dsimp only
  rw [if_pos]
  · rfl
  · show s.allot.demand.base = if (s.attach.detect.level && _ && _ && _) then 250 else 0
    rw [hdetect, hbase]
    rfl

/-- The sleep unit of a change of the power state (R174). -/
def State.repoweredSleep (s : State) (after : PowerState) : SleepUnit :=
  { s.sleep with power := after, dozeTimer := if after = .active then none else s.sleep.dozeTimer
                 withdrawal := after == .standby && !s.wakeEnabled .key }

/-- The state at the readers of a change of the power state, before them. -/
def State.repowered (s : State) (after : PowerState) : State :=
  { s with
    sleep := { s.sleep with power := after, dozeTimer := if after = .active then none else s.sleep.dozeTimer }
    sensor := { s.sensor with lidSupply := decide (after ≠ .standby) } }

theorem Becomes.setPower (s : State) (after : PowerState) (cause : Nat) (h : after ≠ s.sleep.power) :
    Becomes q 0 (s.setPower after cause) ((s.repowered after).hand (powerReaders s.sleep.power cause)) := by
  unfold State.setPower
  dsimp only
  rw [if_neg h]
  exact (Becomes.touchBoard _).hand _

theorem setPower_same (s : State) (cause : Nat) : s.setPower s.sleep.power cause = s := if_pos rfl

/-- The state after a change of the power state with nothing drawn. -/
def State.changedPower (s : State) (after : PowerState) (rest : List Task) : State :=
  { s.repowered after with
    sleep := s.repoweredSleep after, sensor := (s.repowered after).poweredSensor s.sleep.power
    link := (s.repowered after).poweredLink s.sleep.power, posture := (s.repowered after).poweredPosture
    allot := { s.allot with budget := (s.repowered after).selectedBudget }, tasks := rest }

/-- The readers of a change of the power state with nothing drawn (R174). -/
theorem Leads.powerReaders {after : PowerState} {cause : Nat} {rest : List Task} (hn : s.nothingDraws) (hcause : cause ≠ 4)
    (hc : after = .standby → s.angle.calibration = none) :
    ∃ k ≤ 10, Leads false 0 k ((s.repowered after).setTasks (powerReaders s.sleep.power cause ++ rest)) (s.changedPower after rest) := by
  have htasks : Machine.powerReaders s.sleep.power cause =
      [.sensorPower s.sleep.power, .selectBudget 1, .anglePower, .posturePower, .reportPower s.sleep.power cause, .withdrawBase] :=
    if_neg hcause
  rw [htasks]
  obtain ⟨j, hj, hsensor⟩ := Leads.sensorPower (q := false)
    (s := (s.repowered after).setTasks ([Task.sensorPower s.sleep.power, .selectBudget 1, .anglePower, .posturePower,
      .reportPower s.sleep.power cause, .withdrawBase] ++ rest)) rfl
  obtain ⟨k, hk, hbudget⟩ := Leads.selectBudget (cause := 1)
    (s := { s.repowered after with
            sensor := (s.repowered after).poweredSensor s.sleep.power, link := (s.repowered after).poweredLink s.sleep.power
            tasks := .selectBudget 1 :: [.anglePower, .posturePower, .reportPower s.sleep.power cause, .withdrawBase] ++ rest }) rfl hn
  obtain ⟨hdemand, -, -, -, hdetect⟩ := hn
  have hangle := Leads.anglePower (q := false) (rest := [.posturePower, .reportPower s.sleep.power cause, .withdrawBase] ++ rest)
    (s := { s.repowered after with
            sensor := (s.repowered after).poweredSensor s.sleep.power, link := (s.repowered after).poweredLink s.sleep.power
            allot := { s.allot with budget := (s.repowered after).selectedBudget }
            tasks := .anglePower :: [.posturePower, .reportPower s.sleep.power cause, .withdrawBase] ++ rest }) rfl hc
  have hposture := Leads.posturePower (q := false) (rest := [.reportPower s.sleep.power cause, .withdrawBase] ++ rest)
    (s := { s.repowered after with
            sensor := (s.repowered after).poweredSensor s.sleep.power, link := (s.repowered after).poweredLink s.sleep.power
            allot := { s.allot with budget := (s.repowered after).selectedBudget }
            tasks := .posturePower :: [.reportPower s.sleep.power cause, .withdrawBase] ++ rest }) rfl
  have hreport := Leads.reportPower (before := s.sleep.power) (cause := cause) (rest := [.withdrawBase] ++ rest)
    (s := { s.repowered after with
            sensor := (s.repowered after).poweredSensor s.sleep.power, link := (s.repowered after).poweredLink s.sleep.power
            allot := { s.allot with budget := (s.repowered after).selectedBudget }, posture := (s.repowered after).poweredPosture
            tasks := .reportPower s.sleep.power cause :: [.withdrawBase] ++ rest }) rfl
  have hwithdraw := Leads.withdrawBase (q := false) (rest := rest)
    (s := { s.repowered after with
            sensor := (s.repowered after).poweredSensor s.sleep.power, link := (s.repowered after).poweredLink s.sleep.power
            allot := { s.allot with budget := (s.repowered after).selectedBudget }, posture := (s.repowered after).poweredPosture
            tasks := .withdrawBase :: rest }) rfl hdetect (by
              show s.allot.demand.base = 0
              rw [hdemand])
  exact ⟨j + k + 1 + 1 + 1 + 1, by omega,
    ((((hsensor.next hbudget).next hangle).next hposture).next hreport).next hwithdraw⟩

end Sys2Proof.Machine
end

section
/-! The timers of the sleep unit (R176 to R178, R180, R184). -/

namespace Sys2Proof.Machine

set_option Elab.async false

variable {q : Bool} {L M : BitVec 10} {s t u v w e : State}

/-- An event without hand-ons, up to drift. -/
theorem takeEvent_becomes {f : State → State} (hs : s.betweenEvents) (hf : Becomes q L (f s) u)
    (hu : u.mem = s.mem ∧ u.port = s.port ∧ u.journal = s.journal := by exact ⟨rfl, rfl, rfl⟩) (ht : u.tasks = []) :
    ∃ e, takeEvent s f = .next e ∧ e = u.withNoise e ∧ Drift q L s e := by
  have := takeEvent_leads hs hf hu (Leads.refl q u) ht
  rwa [show L ||| (0 : BitVec 10) = L by simp] at this

/-- The expiry of a running timer, as an event on the part time it reaches. -/
theorem takeEvent_expiry {e : PartTime} {x : State → Timer} {g : State → State} (hs : s.betweenEvents) (hx : x s = some e) :
    takeEvent s (fun u => u.atExpiry (x u) g) = takeEvent s fun u => g (u.setNow (s.reach e).now) := by
  have hg : s.atExpiry (x s) g = g (s.setNow (s.reach e).now) := by rw [hx, atExpiry_some]
  unfold takeEvent
  rw [event_between s _ hs, event_between s _ hs, hg]

theorem withFault_entry (u : SettingsUnit) (k : FaultKind) (f : FaultEntry → FaultEntry) :
    (u.withFault k f).faults[k.index] = f u.faults[k.index] := by
  unfold SettingsUnit.withFault
  exact Vector.getElem_set_self _

theorem activated_active (e : FaultEntry) (now : PartTime) : (e.activated now).active = true := by
  unfold FaultEntry.activated
  split
  · assumption
  · rfl

theorem deactivated_inactive (e : FaultEntry) : e.deactivated.active = false := by
  unfold FaultEntry.deactivated
  split
  · rfl
  · next h => simpa using h

/-! ## The timers -/

theorem Becomes.holdAwakeExpired (s : State) :
    Becomes false 0 s.holdAwakeExpired
      { s with sleep := { s.sleep with
          holdAwake := none
          advice := if s.sleep.idle = .elapsed ∧ s.sleep.advice = .none then .idle else s.sleep.advice } } := by
  unfold State.holdAwakeExpired
  dsimp only
  by_cases h : s.sleep.idle = .elapsed ∧ s.sleep.advice = .none
  · rw [if_pos h]
    refine (if_pos h).symm ▸ ?_
    exact (Becomes.advise _ _ _).unsaid
  · rw [if_neg h]
    refine (if_neg h).symm ▸ ?_
    exact .refl _ _

theorem Becomes.idleExpired (s : State) :
    Becomes false 0 s.idleExpired
      { s with sleep := { s.sleep with
          idle := .elapsed, idleShown := 0
          advice := if s.sleep.advice = .none ∧ s.sleep.holdAwake = none then .idle else s.sleep.advice } } := by
  unfold State.idleExpired State.setIdle
  dsimp only
  by_cases h : s.sleep.advice = .none ∧ s.sleep.holdAwake = none
  · rw [if_pos h]
    refine (if_pos h).symm ▸ ?_
    exact (Becomes.advise _ _ _).unsaid
  · rw [if_neg h]
    refine (if_neg h).symm ▸ ?_
    exact .refl _ _

theorem Becomes.graceExpired (s : State) :
    Becomes false Cause.sleepAdvice.mask s.graceExpired
      { s with sleep := { s.sleep with grace := none, advice := .lidClosed } } := .advise _ _ _

theorem answerExpired_last (s : State) (h : s.sleep.assertions = 4) :
    s.answerExpired =
      State.reportActive { s with sleep := { s.sleep with wake := false, answerTimer := none, assertions := 0 } } .wakeUnanswered :=
  if_pos h

theorem answerExpired_again (s : State) (h : s.sleep.assertions ≠ 4) :
    s.answerExpired =
      { s with sleep := { s.sleep with wake := false, answerTimer := none, gapTimer := s.start 10 } } := if_neg h

theorem dozeExpired_awake (s : State) (h : s.sleep.power ≠ .doze) :
    s.dozeExpired = { s with sleep := { s.sleep with dozeTimer := none } } := if_neg h

/-- The rewrite of the idle time remaining is an event that the board brackets. -/
theorem exec_rewriteIdle (s : State) (e expiry : PartTime) (hs : s.betweenEvents) (hidle : s.sleep.idle = .running expiry e) :
    exec .idleRemainingRewrite s = .next
      { s with
        now := (s.reach e).now
        port := { s.port with updateCount := s.port.updateCount + 2, boardTime := (s.reach e).now }
        sleep := { s.sleep with idle := .running expiry (e + 1000), idleShown := expiry - (s.reach e).now } } := by
  refine (takeEvent_expiry hs (x := fun s => s.sleep.idle.rewrite) (g := State.rewriteIdle) (e := e) ?_).trans ?_
  · show s.sleep.idle.rewrite = some e
    rw [hidle]
    rfl
  · have hrewrite : (s.setNow (s.reach e).now).rewriteIdle =
        (State.touchBoard { s.setNow (s.reach e).now with
          sleep := { s.sleep with idle := .running expiry (e + 1000), idleShown := expiry - (s.reach e).now } }) := by
      show (match s.sleep.idle with | .running _ _ => _ | .stopped => _ | .elapsed => _) = _
      rw [hidle]
      rfl
    refine (takeEvent_alone s _ hs ?_).trans (congrArg _ ?_) <;> rw [hrewrite]
    · exact hs.1
    · unfold State.closeBoard
      refine (if_pos rfl).trans ?_
      have hport : s.port = { s.port with boardTouched := false } := by rw [← hs.2]
      rw [hport]
      rfl

/-! ## Wake events (R183) -/

theorem wakeEvent_idle (s : State) (w : WakeSource) (h : s.hostOn = true ∨ s.sleep.wakeMask.getLsbD w.bit = false) :
    s.wakeEvent w = s := by
  refine if_neg fun ⟨hhost, henabled⟩ => ?_
  rcases h with h | h
  · rw [(hostOn_iff s).mp h] at hhost
    cases hhost
  · exact Bool.noConfusion (h.symm.trans henabled)

/-- The sleep unit after an enabled wake event, before the change to ACTIVE that it hands on. -/
def State.roused (s : State) (w : WakeSource) : SleepUnit :=
  let u := { s.sleep with wakeReasons := s.sleep.wakeReasons ||| BitVec.ofNat 8 (2 ^ w.bit) }
  if s.sleep.wake = false ∧ s.sleep.answerTimer = none ∧ s.sleep.gapTimer = none then
    { u with wake := true, assertions := 1, answerTimer := some (s.now + 10000), gapTimer := none }
  else u

theorem wakeEvent_enabled (s : State) (w : WakeSource) (hhost : s.hostOn = false) (hmask : s.sleep.wakeMask.getLsbD w.bit = true) :
    s.wakeEvent w =
      { s with tasks := .setPower .active 2 :: s.tasks, port := { s.port with boardTouched := true }, sleep := s.roused w } := by
  have henabled : s.sleep.host = .sleeping ∧ s.wakeEnabled w = true := ⟨(hostOff_iff s).mp hhost, hmask⟩
  unfold State.wakeEvent State.roused
  rw [if_pos henabled]
  dsimp only
  by_cases h : s.sleep.wake = false ∧ s.sleep.answerTimer = none ∧ s.sleep.gapTimer = none
  · rw [if_pos h]
    exact if_pos h
  · rw [if_neg h]
    exact if_neg h

/-! ## DOZE to STANDBY (R180) -/

theorem exec_dozeExpired (s : State) (e : PartTime) (hs : s.betweenEvents) (htimer : s.sleep.dozeTimer = some e)
    (hpower : s.sleep.power = .doze) (hn : s.nothingDraws) (hc : s.angle.calibration = none) :
    ∃ t, exec .dozeToStandbyExpiry s = .next t ∧
      t = (State.changedPower { s.setNow (s.reach e).now with sleep := { s.sleep with dozeTimer := none } } .standby s.tasks).withNoise t := by
  obtain ⟨v, hv⟩ : ∃ v : State, v = { s.setNow (s.reach e).now with sleep := { s.sleep with dozeTimer := none } } := ⟨_, rfl⟩
  have hchange : (s.setNow (s.reach e).now).dozeExpired = v.setPower .standby 1 := by
    rw [hv]
    exact if_pos hpower
  have hvpower : v.sleep.power = .doze := by
    rw [hv]
    exact hpower
  obtain ⟨k, hk, hlead⟩ := Leads.powerReaders (after := .standby) (cause := 1) (rest := s.tasks) (s := v) (by rw [hv]; exact hn)
    (by decide) (fun _ => by rw [hv]; exact hc)
  have htasks : (v.repowered .standby).hand (powerReaders v.sleep.power 1) =
      (v.repowered .standby).setTasks (powerReaders v.sleep.power 1 ++ s.tasks) := by
    rw [hv]
    rfl
  have hset := Becomes.setPower (q := false) v .standby 1 (by rw [hvpower]; decide)
  rw [htasks] at hset
  obtain ⟨t, hnext, hframe, -⟩ := takeEvent_leads (f := fun u => (u.setNow (s.reach e).now).dozeExpired) hs (hchange ▸ hset)
    (by rw [hv]; exact ⟨rfl, rfl, rfl⟩) hlead hs.1 (by omega)
  refine ⟨t, ?_, hv ▸ hframe⟩
  exact (takeEvent_expiry hs (x := fun s => s.sleep.dozeTimer) (g := State.dozeExpired) htimer).trans hnext

/-- Settles O55: each timer's rule, the wake event's, and the readers of the change to STANDBY. -/
theorem sleepTimers : Obligations.SleepTimers := by
  unfold Obligations.SleepTimers
  refine ⟨fun s e hs => ?_, fun s w => ⟨wakeEvent_idle s w, wakeEvent_enabled s w⟩, fun s e hs htimer => ⟨fun hpower => ?_,
    fun hpower hn hc => ?_⟩⟩
  · have expiry {x : State → Timer} {g : State → State} (hx : x s = some e) := takeEvent_expiry (g := g) hs hx
    refine ⟨fun htimer => ?_, fun w hidle => ?_, fun until_ hidle => ?_, fun htimer => ?_, fun htimer => ?_, fun htimer => ?_⟩
    · obtain ⟨t, hnext, hframe, -⟩ := takeEvent_becomes (f := fun u => (u.setNow (s.reach e).now).holdAwakeExpired) hs
        (Becomes.holdAwakeExpired (s.setNow (s.reach e).now)) (ht := hs.1)
      refine ⟨t, (expiry (x := fun s => s.sleep.holdAwake) htimer).trans hnext, ⟨?_, ?_⟩, ?_⟩
      · rw [hframe]
        rfl
      · rw [hframe]
        rfl
      · exact congrArg State.sleep hframe
    · obtain ⟨t, hnext, hframe, -⟩ := takeEvent_becomes (f := fun u => (u.setNow (s.reach e).now).idleExpired) hs
        (Becomes.idleExpired (s.setNow (s.reach e).now)) (ht := hs.1)
      refine ⟨t, (expiry (x := fun s => s.sleep.idle.expiry) (by rw [hidle]; rfl)).trans hnext, ⟨?_, ?_⟩, ?_⟩
      · rw [hframe]
        rfl
      · rw [hframe]
        rfl
      · exact congrArg State.sleep hframe
    · exact ⟨_, exec_rewriteIdle s e until_ hs hidle, rfl, rfl⟩
    · obtain ⟨t, hnext, hframe, hdrift⟩ := takeEvent_becomes (f := fun u => (u.setNow (s.reach e).now).graceExpired) hs
        (Becomes.graceExpired (s.setNow (s.reach e).now)) (ht := hs.1)
      refine ⟨t, (expiry (x := fun s => s.sleep.grace) htimer).trans hnext, ⟨?_, ?_⟩, congrArg State.sleep hframe, ?_⟩
      · rw [hframe]
        rfl
      · rw [hframe]
        rfl
      · exact hdrift.latched _ (by decide)
    · have answer := (expiry (x := fun s => s.sleep.answerTimer) (g := State.answerExpired) htimer)
      by_cases hlast : s.sleep.assertions = 4
      · obtain ⟨t, hnext, hframe, -⟩ := takeEvent_becomes (f := fun u => (u.setNow (s.reach e).now).answerExpired) hs
          ((congrArg (Becomes false 0 · _) (answerExpired_last (s.setNow (s.reach e).now) hlast)).mpr
            (Becomes.reportActive _ .wakeUnanswered)) (ht := hs.1)
        have hsleep := congrArg State.sleep hframe
        refine ⟨t, answer.trans hnext, ⟨?_, ?_⟩, fun _ => ⟨hsleep, ?_⟩, fun h => absurd hlast h⟩
        · rw [hframe]
          rfl
        · rw [hframe]
          rfl
        · have hsettings := congrArg State.settings hframe
          unfold State.faultEntry
          rw [hsettings]
          exact (congrArg FaultEntry.active (withFault_entry _ _ _)).trans (activated_active _ _)
      · obtain ⟨t, hnext, hframe, -⟩ := takeEvent_becomes (f := fun u => (u.setNow (s.reach e).now).answerExpired) hs
          (.of_eq (q := false) (answerExpired_again (s.setNow (s.reach e).now) hlast)) (ht := hs.1)
        have hsleep := congrArg State.sleep hframe
        have hsettings := congrArg State.settings hframe
        refine ⟨t, answer.trans hnext, ⟨?_, ?_⟩, fun h => absurd h hlast, fun _ => ⟨hsleep, hsettings⟩⟩
        · rw [hframe]
          rfl
        · rw [hframe]
          rfl
    · exact (expiry (x := fun s => s.sleep.gapTimer) (g := State.gapExpired) htimer).trans (takeEvent_unseen s _ hs hs rfl)
  · refine (takeEvent_expiry hs (x := fun s => s.sleep.dozeTimer) (g := State.dozeExpired) htimer).trans
      ((takeEvent_unseen s _ hs ?_ ?_).trans (congrArg _ ?_)) <;> rw [dozeExpired_awake (s.setNow (s.reach e).now) hpower]
    · exact hs
    · rfl
    · rfl
  · obtain ⟨t, hnext, hframe⟩ := exec_dozeExpired s e hs htimer hpower hn hc
    have hsleep := congrArg State.sleep hframe
    have hnow := congrArg State.now hframe
    have hsensor := congrArg State.sensor hframe
    have hposture := congrArg State.posture hframe
    have hallot := congrArg State.allot hframe
    refine ⟨t, hnext, hnow, ?_, hsensor, hposture, hallot, ?_⟩
    · rw [hsleep]
      rfl
    · rw [hframe]
      rfl

end Sys2Proof.Machine
end

section
/-! What the hand-ons of other units leave of the pen, of the power it draws and of a base locked out. `rests` gathers it by
aspect, as `kept` gathers what every hand-on leaves alone; one lemma per operation says that the operation leaves it. -/

namespace Sys2Proof.Machine

set_option Elab.async false

/-- A calm hand-on that is none of the pen unit's own, and reports no fault but BASE_LINK. -/
@[simp] def Task.restful : Task → Bool
  | .serve _ _ => false
  | .linkDetect => false
  | .allotDetect => false
  | .resetSleepEnd => false
  | .penDemand _ => false
  | .penDecide => false
  | .resumeHost _ => false
  | _ => true

/-- What is spoken of beside the pen's demand: its state, its state and coil power, or a base locked out. -/
inductive Aspect where
  | pen
  | coil
  | base
  deriving DecidableEq

/-- The states in which the PEN grant moves the pen (R155). -/
def PenState.charges : PenState → Bool
  | .charging | .deferred => true
  | .absent | .identifying | .topped | .pausedTemp | .held | .fault => false

@[reducible] def PenUnit.atRest (ρ : Aspect) (u : PenUnit) : Bool × Option PenState × Nat :=
  (u.deciding, if u.state.charges then none else some u.state, if ρ = .coil ∧ u.state.charges = false then u.coilPower else 0)
@[reducible] def AllotUnit.atRest (ρ : Aspect) (u : AllotUnit) : Nat × Bool × Nat × Nat × Option Nat :=
  (u.demand.pen, if ρ = .base then (u.lockout, u.demand.base, u.grant.base, u.increases.base) else (false, 0, 0, none))
@[reducible] def SettingsUnit.atRest (u : SettingsUnit) :=
  (u.faults[0], u.faults[1], u.faults[3], u.faults[4], u.faults[5], u.faults[6], u.faults[7])

/-- The hand-ons of a list that would not leave it alone. -/
def restless (ts : List Task) : List Task := ts.filter fun x => !x.restful

theorem restless_append (ts us : List Task) : restless (ts ++ us) = restless ts ++ restless us := List.filter_append ..

theorem restless_nil {ts : List Task} (h : ts.all Task.restful = true) : restless ts = [] := by
  rw [List.all_eq_true] at h
  exact List.filter_eq_nil_iff.mpr fun x hx => by
    rw [h x hx]
    decide

theorem restless_cons {x : Task} {ts : List Task} (h : x.restful = true) : restless (x :: ts) = restless ts :=
  List.filter_cons_of_neg (by
    rw [h]
    decide)

/-- What is left alone in an aspect, with the waiting hand-ons that would not leave it. -/
def State.rests (ρ : Aspect) (s : State) :=
  (s.pen.atRest ρ, s.allot.atRest ρ, s.settings.atRest, restless s.tasks)

/-- What the hand-ons of an aspect need to leave it alone: no coil power outside charging; a base without demand and grant. -/
def State.idles (s : State) : Aspect → Prop
  | .pen => True
  | .coil => s.pen.state.charges = false → s.pen.coilPower = 0
  | .base => s.allot.lockout = true ∧ s.allot.demand.base = 0 ∧ s.allot.grant.base = 0 ∧ s.allot.increases.base = none

variable {ρ : Aspect}

theorem rests_eq_iff {s t : State} : s.rests ρ = t.rests ρ ↔
    s.pen.atRest ρ = t.pen.atRest ρ ∧ s.allot.atRest ρ = t.allot.atRest ρ ∧ s.settings.atRest = t.settings.atRest ∧
      restless s.tasks = restless t.tasks := by
  simp only [State.rests, Prod.mk.injEq]

theorem charges_congr {p p' : PenUnit} (h : p.atRest ρ = p'.atRest ρ) : p.state.charges = p'.state.charges := by
  simp only [Prod.mk.injEq] at h
  obtain ⟨-, hstate, -⟩ := h
  cases hp : p.state.charges <;> cases hp' : p'.state.charges <;> simp [hp, hp'] at hstate ⊢

theorem idles_congr {s t : State} (h : s.rests ρ = t.rests ρ) (hi : t.idles ρ) : s.idles ρ := by
  obtain ⟨hpen, hallot, -, -⟩ := rests_eq_iff.mp h
  cases ρ with
  | pen => trivial
  | coil =>
    intro hcharges
    have hcharges' := (charges_congr hpen).symm.trans hcharges
    simp only [Prod.mk.injEq, hcharges, hcharges', true_and, and_true, if_true] at hpen
    exact hpen.2.2.trans (hi hcharges')
  | base =>
    simp only [Prod.mk.injEq, if_true] at hallot
    obtain ⟨-, hlockout, hdemand, hgrant, hinc⟩ := hallot
    obtain ⟨ilockout, idemand, igrant, iinc⟩ := hi
    exact ⟨hlockout.trans ilockout, hdemand.trans idemand, hgrant.trans igrant, hinc.trans iinc⟩

@[simp] theorem rests_updPort (s : State) (f) : (s.updPort f).rests ρ = s.rests ρ := rfl
@[simp] theorem rests_updDispatch (s : State) (f) : (s.updDispatch f).rests ρ = s.rests ρ := rfl
@[simp] theorem rests_updJournal (s : State) (f) : (s.updJournal f).rests ρ = s.rests ρ := rfl
@[simp] theorem rests_updSettings (s : State) (f) (h : (f s.settings).atRest = s.settings.atRest) :
    (s.updSettings f).rests ρ = s.rests ρ := by
  simp only [State.rests, State.updSettings, h]
@[simp] theorem rests_updSensor (s : State) (f) : (s.updSensor f).rests ρ = s.rests ρ := rfl
@[simp] theorem rests_updAngle (s : State) (f) : (s.updAngle f).rests ρ = s.rests ρ := rfl
@[simp] theorem rests_updPosture (s : State) (f) : (s.updPosture f).rests ρ = s.rests ρ := rfl
@[simp] theorem rests_updLink (s : State) (f) : (s.updLink f).rests ρ = s.rests ρ := rfl
@[simp] theorem rests_updAttach (s : State) (f) : (s.updAttach f).rests ρ = s.rests ρ := rfl
@[simp] theorem rests_updSleep (s : State) (f) : (s.updSleep f).rests ρ = s.rests ρ := rfl
theorem rests_updPen (s : State) (f) (h : (f s.pen).atRest ρ = s.pen.atRest ρ) : (s.updPen f).rests ρ = s.rests ρ := by
  simp only [State.rests, State.updPen, h]
@[simp] theorem rests_updAllot (s : State) (f) (h : (f s.allot).atRest ρ = s.allot.atRest ρ) :
    (s.updAllot f).rests ρ = s.rests ρ := by
  simp only [State.rests, State.updAllot, h]
@[simp] theorem rests_setMem (s : State) (m) : (s.setMem m).rests ρ = s.rests ρ := rfl
@[simp] theorem rests_hand (s : State) (ts) (h : ts.all Task.restful = true) : (s.hand ts).rests ρ = s.rests ρ := by
  simp only [State.rests, State.hand, State.setTasks, restless_append, restless_nil h, List.nil_append]
@[simp] theorem rests_handLast (s : State) (t) (h : t.restful = true) : (s.handLast t).rests ρ = s.rests ρ := by
  simp only [State.rests, State.handLast, State.setTasks, restless_append, restless_cons h, restless_nil List.all_nil,
    List.append_nil]

/-- A drift leaves every unit alone. -/
theorem Becomes.rests {q : Bool} {L : BitVec 10} {e s : State} (h : Becomes q L e s) : e.rests ρ = s.rests ρ := by
  rw [h.frame]
  rfl

@[simp] theorem rests_touchBoard (s : State) : s.touchBoard.rests ρ = s.rests ρ := rfl
@[simp] theorem rests_touchWhen (s : State) (c : Prop) [Decidable c] : (s.touchWhen c).rests ρ = s.rests ρ :=
  (Becomes.touchWhen (q := false) s c).rests
@[simp] theorem rests_latch (s : State) (c : Cause) : (s.latch c).rests ρ = s.rests ρ := rfl
@[simp] theorem rests_offerNotice (s : State) (k : NoticeKind) (c o n a : Nat) :
    (s.offerNotice k c o n a).rests ρ = s.rests ρ := (Becomes.offerNotice s k c o n a).rests
@[simp] theorem rests_sendNext (s : State) : s.sendNext.rests ρ = s.rests ρ := rfl

/-- An Input record is written to memory and its journal alone. -/
@[simp] theorem rests_writeInput (s : State) (k : InputKind) (c dx dy : Byte) (t : PartTime) :
    (s.writeInput k c dx dy t).rests ρ = s.rests ρ := by
  unfold State.writeInput State.writeRecord
  dsimp only
  split
  · split <;> rfl
  · rfl

theorem withFault_atRest (u : SettingsUnit) (f : FaultEntry → FaultEntry) : (u.withFault .baseLink f).atRest = u.atRest := by
  unfold SettingsUnit.withFault SettingsUnit.atRest
  simp [FaultKind.index]

/-- The base link unit's own fault is none of the aspects'. -/
@[simp] theorem rests_reportActive_baseLink (s : State) : (s.reportActive .baseLink).rests ρ = s.rests ρ :=
  (Becomes.reportActive s .baseLink).rests.trans (rests_updSettings s (fun u => u.withFault _ _) (withFault_atRest _ _))
@[simp] theorem rests_reportInactive_baseLink (s : State) : (s.reportInactive .baseLink).rests ρ = s.rests ρ :=
  (Becomes.reportInactive s .baseLink).rests.trans (rests_updSettings s (fun u => u.withFault _ _) (withFault_atRest _ _))

@[simp] theorem rests_setServing (s : State) (u : ServingUnit) (n : Option (Fin 32)) : (s.setServing u n).rests ρ = s.rests ρ :=
  rfl

@[simp] theorem rests_watchVbase (s t : State) : (s.watchVbase t).rests ρ = t.rests ρ := by
  rw [watchVbase_eq]
  rfl
@[simp] theorem rests_setHoldOff (s : State) (b : Bool) : (s.setHoldOff b).rests ρ = s.rests ρ := by
  simp [State.setHoldOff]
@[simp] theorem rests_setSlot (s : State) (n : Fin 32) (st : SlotState) : (s.setSlot n st).rests ρ = s.rests ρ := rfl
@[simp] theorem rests_writeResult (s : State) (n : Fin 32) (c : ResultCode) (d : Nat) (w : List Word) :
    (s.writeResult n c d w).rests ρ = s.rests ρ := rfl
@[simp] theorem rests_finishSlot (s : State) (n : Fin 32) (c : ResultCode) (d : Nat) (w : List Word) :
    (s.finishSlot n c d w).rests ρ = s.rests ρ := by
  unfold State.finishSlot
  split
  · exact rests_setSlot s n .free
  · rw [rests_latch, rests_setSlot, rests_writeResult]
@[simp] theorem rests_finishUnit (s : State) (u : ServingUnit) (c : ResultCode) (d : Nat) (w : List Word) :
    (s.finishUnit u c d w).rests ρ = s.rests ρ := by
  unfold State.finishUnit
  split
  · rfl
  · rw [rests_handLast _ _ rfl, rests_setServing, rests_finishSlot]
@[simp] theorem rests_startPeriod (s : State) : (s.startPeriod).rests ρ = s.rests ρ := by
  simp only [State.startPeriod]
  split <;> simp
@[simp] theorem rests_sensorPower (s : State) (b : PowerState) : (s.sensorPower b).rests ρ = s.rests ρ := by
  unfold State.sensorPower
  repeat' split
  all_goals simp
@[simp] theorem rests_sensorAttach (s : State) : (s.sensorAttach).rests ρ = s.rests ρ := rfl
@[simp] theorem rests_holdBaseSample (s : State) (x y z : Half) : (s.holdBaseSample x y z).rests ρ = s.rests ρ := by
  unfold State.holdBaseSample
  split <;> simp
@[simp] theorem rests_setCalibration (s : State) (c : Option Calibration) : (s.setCalibration c).rests ρ = s.rests ρ := rfl
@[simp] theorem rests_failCalibration (s : State) (d : Nat) : (s.failCalibration d).rests ρ = s.rests ρ := by
  unfold State.failCalibration
  split <;> simp
@[simp] theorem rests_angleDetached (s : State) : (s.angleDetached).rests ρ = s.rests ρ := by simp [State.angleDetached]
@[simp] theorem rests_angleStandby (s : State) : (s.angleStandby).rests ρ = s.rests ρ := by simp [State.angleStandby]
@[simp] theorem rests_commitOrientation (s : State) (o : Orientation) (c : Nat) :
    (s.commitOrientation o c).rests ρ = s.rests ρ := by
  simp only [State.commitOrientation]
  split <;> simp
@[simp] theorem rests_compareOrientation (s : State) : (s.compareOrientation).rests ρ = s.rests ρ := by
  unfold State.compareOrientation
  repeat' split
  all_goals simp
@[simp] theorem rests_gateRotation (s : State) : (s.gateRotation).rests ρ = s.rests ρ := by
  unfold State.gateRotation
  repeat' split
  all_goals simp
@[simp] theorem rests_commitPosture (s : State) (p : Posture) (b : Option Nat) (c : Nat) :
    (s.commitPosture p b c).rests ρ = s.rests ρ := rfl
@[simp] theorem rests_reportPosture (s : State) (b : Posture) (c : Nat) : (s.reportPosture b c).rests ρ = s.rests ρ := by simp [State.reportPosture]
@[simp] theorem rests_commitDetached (s : State) : (s.commitDetached).rests ρ = s.rests ρ := by
  unfold State.commitDetached
  split <;> simp
@[simp] theorem rests_freshEvaluation (s : State) (c : Nat) : (s.freshEvaluation c).rests ρ = s.rests ρ := by
  simp only [State.freshEvaluation]
  repeat' split
  all_goals simp
@[simp] theorem rests_evaluateOrientation (s : State) (set : SampleSet) :
    (s.evaluateOrientation set).rests ρ = s.rests ρ := by
  simp only [State.evaluateOrientation]
  repeat' split
  all_goals simp
@[simp] theorem rests_posturePower (s : State) : (s.posturePower).rests ρ = s.rests ρ := by
  unfold State.posturePower
  split <;> simp
@[simp] theorem rests_finishLock (s : State) (w : Word) : (s.finishLock w).rests ρ = s.rests ρ := by simp [State.finishLock]
@[simp] theorem rests_finishLoad (s : State) (n : Nat) : (s.finishLoad n).rests ρ = s.rests ρ := by simp [State.finishLoad]
@[simp] theorem rests_offerPacket (s : State) (p : PartPacket) : (s.offerPacket p).rests ρ = s.rests ρ := by
  unfold State.offerPacket
  repeat' split
  all_goals simp
@[simp] theorem rests_offerRate (s : State) : (s.offerRate).rests ρ = s.rests ρ := by
  unfold State.offerRate
  repeat' split
  all_goals simp
@[simp] theorem rests_setReceiveQueue (s : State) (q : List Received) : (s.setReceiveQueue q).rests ρ = s.rests ρ := rfl
@[simp] theorem rests_takeDown (s : State) : (s.takeDown).rests ρ = s.rests ρ := by
  simp only [State.takeDown]
  split <;> simp
@[simp] theorem rests_enterLink (s : State) (l : LinkState) (c : Nat) : (s.enterLink l c).rests ρ = s.rests ρ := by
  unfold State.enterLink
  split <;> simp
@[simp] theorem rests_setLinkTimer (s : State) (k : LinkTimerKind) (ms : Nat) :
    (s.setLinkTimer k ms).rests ρ = s.rests ρ := rfl
@[simp] theorem rests_enterPowering (s : State) : (s.enterPowering).rests ρ = s.rests ρ := by simp [State.enterPowering]
@[simp] theorem rests_enterGreeting (s : State) (c : Nat) : (s.enterGreeting c).rests ρ = s.rests ρ := by simp [State.enterGreeting]
@[simp] theorem rests_enterReady (s : State) : (s.enterReady).rests ρ = s.rests ρ := by
  simp only [State.enterReady]
  repeat' split
  all_goals simp
@[simp] theorem rests_enterFaulted (s : State) (c : Nat) : (s.enterFaulted c).rests ρ = s.rests ρ := by
  simp [State.enterFaulted]
@[simp] theorem rests_enterUnpowered (s : State) (c : Nat) : (s.enterUnpowered c).rests ρ = s.rests ρ := by simp [State.enterUnpowered]
@[simp] theorem rests_linkGrant (s : State) : (s.linkGrant).rests ρ = s.rests ρ := by
  unfold State.linkGrant
  repeat' split
  all_goals simp
@[simp] theorem rests_followGate (s : State) : (s.followGate).rests ρ = s.rests ρ := rfl
@[simp] theorem rests_closeGate (s : State) : (s.closeGate).rests ρ = s.rests ρ := rfl
@[simp] theorem rests_publishFlags (s : State) : (s.publishFlags).rests ρ = s.rests ρ := rfl
@[simp] theorem rests_askResume (s : State) : (s.askResume).rests ρ = s.rests ρ := by
  unfold State.askResume
  repeat' split
  all_goals simp
@[simp] theorem rests_quiesceLink (s : State) : (s.quiesceLink).rests ρ = s.rests ρ := by
  unfold State.quiesceLink
  repeat' split
  all_goals simp
@[simp] theorem rests_deliver (s : State) (k : InputKind) (c dx dy : Byte) (t : PartTime) (w : List Task)
    (h : w.all Task.restful = true) : (s.deliver k c dx dy t w).rests ρ = s.rests ρ := by
  unfold State.deliver
  rw [rests_hand _ _ (by simpa using h), rests_writeInput]
@[simp] theorem rests_countDroppedKey (s : State) : (s.countDroppedKey).rests ρ = s.rests ρ := rfl
@[simp] theorem rests_servePress (s : State) (c : Byte) (t : PartTime) : (s.servePress c t).rests ρ = s.rests ρ := by
  unfold State.servePress
  repeat' split
  all_goals simp
@[simp] theorem rests_serveRelease (s : State) (c : Byte) (t : PartTime) : (s.serveRelease c t).rests ρ = s.rests ρ := by
  unfold State.serveRelease
  split
  · rw [rests_deliver _ _ _ _ _ _ _ rfl, rests_updLink]
  · rfl
@[simp] theorem rests_servePointer (s : State) (dx dy : Byte) (b : BitVec 3) (t : PartTime) :
    (s.servePointer dx dy b t).rests ρ = s.rests ρ := by
  unfold State.servePointer
  split <;> simp
@[simp] theorem rests_offerWelcome (s : State) : (s.offerWelcome).rests ρ = s.rests ρ := by
  unfold State.offerWelcome
  repeat' split
  all_goals simp
@[simp] theorem rests_greetHello (s : State) (v c : Byte) : (s.greetHello v c).rests ρ = s.rests ρ := by
  unfold State.greetHello
  split <;> simp
@[simp] theorem rests_greetPacket (s : State) (p : BasePacket) : (s.greetPacket p).rests ρ = s.rests ρ := by
  unfold State.greetPacket
  repeat' split
  all_goals simp
@[simp] theorem rests_rehello (s : State) (r : Received) (v : Byte) : (s.rehello r v).rests ρ = s.rests ρ := by
  unfold State.rehello
  split <;> simp
@[simp] theorem rests_serveStatus (s : State) (l f : Byte) : (s.serveStatus l f).rests ρ = s.rests ρ := by
  unfold State.serveStatus
  repeat' split
  all_goals simp
@[simp] theorem rests_serveAck (s : State) (k : Byte) : (s.serveAck k).rests ρ = s.rests ρ := by
  unfold State.serveAck
  repeat' split
  all_goals simp
@[simp] theorem rests_servePacket (s : State) (r : Received) : (s.servePacket r).rests ρ = s.rests ρ := by
  unfold State.servePacket
  repeat' split
  all_goals simp
@[simp] theorem rests_writeOwed (s : State) : (s.writeOwed).rests ρ = s.rests ρ := by
  unfold State.writeOwed
  repeat' split
  all_goals simp
@[simp] theorem rests_serveReceiveQueue (s : State) : (s.serveReceiveQueue).rests ρ = s.rests ρ := by
  unfold State.serveReceiveQueue
  repeat' split
  all_goals simp
@[simp] theorem rests_touchGrants (s : State) (g : Allotments) : (s.touchGrants g).rests ρ = s.rests ρ := by simp [State.touchGrants]
@[simp] theorem rests_backlightGrant (s : State) : (s.backlightGrant).rests ρ = s.rests ρ := by
  simp only [State.backlightGrant]
  split <;> simp
@[simp] theorem rests_finishBacklight (s : State) : (s.finishBacklight).rests ρ = s.rests ρ := by simp [State.finishBacklight]
@[simp] theorem rests_finishSource (s : State) (b : PowerSource) : (s.finishSource b).rests ρ = s.rests ρ := by simp [State.finishSource]
@[simp] theorem rests_setAttach (s : State) (a : AttachState) (c : Nat) : (s.setAttach a c).rests ρ = s.rests ρ := by
  have hreaders (b : AttachState) : (attachReaders b a).all Task.restful = true := by
    unfold attachReaders
    split <;> rfl
  simp only [State.setAttach]
  split <;> simp [hreaders]
@[simp] theorem rests_awaitRemoval (s : State) : (s.awaitRemoval).rests ρ = s.rests ρ := by
  unfold State.awaitRemoval
  split <;> simp
@[simp] theorem rests_sleepAttach (s : State) (b a : AttachState) : (s.sleepAttach b a).rests ρ = s.rests ρ := by simp [State.sleepAttach]
@[simp] theorem rests_coilOff (s : State) : (s.coilOff).rests ρ = s.rests ρ := by
  unfold State.coilOff
  split <;> simp
@[simp] theorem rests_clearRelease (s : State) : (s.clearRelease).rests ρ = s.rests ρ := rfl
@[simp] theorem rests_endRelease (s : State) (d : Nat) (w : Option Nat) : (s.endRelease d w).rests ρ = s.rests ρ := by
  have hfinish (r : Option (Fin 32)) (words : List Word) : (finishTasks r .failed d words).all Task.restful = true := by
    cases r <;> rfl
  simp only [State.endRelease]
  rw [rests_hand _ _ (by simp [hfinish])]
  simp
@[simp] theorem rests_returnToRest (s : State) (c : Nat) : (s.returnToRest c).rests ρ = s.rests ρ := by
  unfold State.returnToRest
  split <;> simp
@[simp] theorem rests_refuseClaim (s : State) (c : Claim) (r : ResultCode) (d w : Nat) :
    (s.refuseClaim c r d w).rests ρ = s.rests ρ := by
  unfold State.refuseClaim
  split <;> simp
@[simp] theorem rests_acceptClaim (s : State) (c : Claim) : (s.acceptClaim c).rests ρ = s.rests ρ := by simp [State.acceptClaim]
@[simp] theorem rests_detachClaim (s : State) (c : Claim) : (s.detachClaim c).rests ρ = s.rests ρ := by
  unfold State.detachClaim
  repeat' split
  all_goals simp
@[simp] theorem rests_enterClaiming (s : State) : (s.enterClaiming).rests ρ = s.rests ρ := rfl
@[simp] theorem rests_askQuiesce (s : State) : (s.askQuiesce).rests ρ = s.rests ρ := by
  unfold State.askQuiesce
  repeat' split
  all_goals simp
@[simp] theorem rests_enterPulse (s : State) : (s.enterPulse).rests ρ = s.rests ρ := by
  unfold State.enterPulse
  split <;> simp
@[simp] theorem rests_coilAnswer (s : State) : (s.coilAnswer).rests ρ = s.rests ρ := by
  unfold State.coilAnswer
  repeat' split
  all_goals simp
@[simp] theorem rests_attachLink (s : State) : (s.attachLink).rests ρ = s.rests ρ := by
  unfold State.attachLink
  repeat' split
  all_goals simp
@[simp] theorem rests_ackQuiesce (s : State) : (s.ackQuiesce).rests ρ = s.rests ρ := by
  unfold State.ackQuiesce
  split <;> simp
@[simp] theorem rests_advise (s : State) (a : Advice) (c : Nat) : (s.advise a c).rests ρ = s.rests ρ := by simp [State.advise]
@[simp] theorem rests_setIdle (s : State) (i : IdleTimer) (w : Word) : (s.setIdle i w).rests ρ = s.rests ρ := by
  unfold State.setIdle
  split <;> simp
@[simp] theorem rests_restartIdle (s : State) : (s.restartIdle).rests ρ = s.rests ρ := by
  unfold State.restartIdle
  split <;> simp
@[simp] theorem rests_activity (s : State) : (s.activity).rests ρ = s.rests ρ := by
  simp only [State.activity]
  repeat' split
  all_goals simp
@[simp] theorem rests_sleepRefresh (s : State) : (s.sleepRefresh).rests ρ = s.rests ρ := by
  unfold State.sleepRefresh
  repeat' split
  all_goals simp
@[simp] theorem rests_graceExpired (s : State) : (s.graceExpired).rests ρ = s.rests ρ := by simp [State.graceExpired]
@[simp] theorem rests_startGrace (s : State) : (s.startGrace).rests ρ = s.rests ρ := by
  unfold State.startGrace
  split <;> simp
@[simp] theorem rests_graceCommit (s : State) (b : Posture) : (s.graceCommit b).rests ρ = s.rests ρ := by
  simp only [State.graceCommit]
  repeat' split
  all_goals simp
@[simp] theorem rests_sleepCommit (s : State) (b : Posture) : (s.sleepCommit b).rests ρ = s.rests ρ := by
  simp only [State.sleepCommit]
  split <;> simp
@[simp] theorem rests_setPower (s : State) (a : PowerState) (c : Nat) : (s.setPower a c).rests ρ = s.rests ρ := by
  have hreaders (b : PowerState) : (powerReaders b c).all Task.restful = true := by
    unfold powerReaders
    split <;> rfl
  simp only [State.setPower]
  split
  · rfl
  · rw [rests_hand _ _ (hreaders _), rests_touchBoard, rests_updSensor, rests_updSleep]
@[simp] theorem rests_reportPower (s : State) (b : PowerState) (c : Nat) : (s.reportPower b c).rests ρ = s.rests ρ := by simp [State.reportPower]
@[simp] theorem rests_anglePower (s : State) : (s.anglePower).rests ρ = s.rests ρ := by
  unfold State.anglePower
  split <;> simp
@[simp] theorem rests_stopWake (s : State) : (s.stopWake).rests ρ = s.rests ρ := rfl
@[simp] theorem rests_startDozeTimer (s : State) : (s.startDozeTimer).rests ρ = s.rests ρ := rfl
@[simp] theorem rests_assertWake (s : State) (n : Nat) : (s.assertWake n).rests ρ = s.rests ρ := rfl
@[simp] theorem rests_wakeEvent (s : State) (w : WakeSource) : (s.wakeEvent w).rests ρ = s.rests ρ := by
  simp only [State.wakeEvent]
  repeat' split
  all_goals simp

/-! ## The allotment unit's own operations -/

/-- A base with no demand, grant or pending increase has none after a recomputation. -/
theorem recomputed_atRest (s : State) (h : s.idles ρ) : s.recomputedAllot.atRest ρ = s.allot.atRest ρ := by
  unfold State.recomputedAllot State.granted AllotUnit.atRest
  cases ρ with
  | pen => rfl
  | coil => rfl
  | base =>
    obtain ⟨-, hdemand, hgrant, hinc⟩ := h
    have htarget : (targets s.allot.budget s.allot.demand).base = 0 := by
      obtain ⟨-, hle, -⟩ := targets_le_demand s.allot.budget s.allot.demand
      omega
    have hlow : (lowered s.allot.grant (targets s.allot.budget s.allot.demand)).base = 0 := by
      unfold lowered
      dsimp only
      omega
    have hraise : (increasesOf s.allot.grant (targets s.allot.budget s.allot.demand)).base = none := by
      unfold increasesOf increaseOf
      dsimp only
      rw [htarget, if_neg (by omega)]
    simp only [hlow, hraise, hgrant, hinc]

theorem grantTasks_restful (g g' : Allotments) : (grantTasks g g').all Task.restful = true := by
  unfold grantTasks
  split_ifs <;> rfl

theorem rests_recompute (s : State) (h : s.idles ρ) : s.recompute.rests ρ = s.rests ρ := by
  rw [(Becomes.recompute (q := false) s).rests]
  unfold State.recomputed
  rw [rests_hand _ _ (by simp [grantTasks_restful])]
  exact rests_eq_iff.mpr ⟨rfl, recomputed_atRest s h, rfl, rfl⟩

theorem rests_settleIncreases (s : State) (h : s.idles ρ) : s.settleIncreases.rests ρ = s.rests ρ := by
  by_cases hwait : s.allot.awaiting = []
  · rw [(Becomes.settleIncreases (q := false) s hwait).rests]
    unfold State.settled
    rw [rests_hand _ _ (by simp [grantTasks_restful])]
    refine rests_eq_iff.mpr ⟨rfl, ?_, rfl, rfl⟩
    unfold State.granted AllotUnit.atRest raised
    cases ρ with
    | pen => rfl
    | coil => rfl
    | base =>
      obtain ⟨-, -, hgrant, hinc⟩ := h
      simp [hgrant, hinc, noIncreases]
  · rw [settleIncreases_awaiting s hwait]

theorem rests_confirmDecrease (s : State) (c : Awaited) (h : s.idles ρ) : (s.confirmDecrease c).rests ρ = s.rests ρ := by
  unfold State.confirmDecrease
  split
  · have hupd : (s.updAllot fun u => { u with awaiting := unawait u.awaiting c }).rests ρ = s.rests ρ := rests_updAllot s _ rfl
    exact (rests_settleIncreases _ (idles_congr hupd h)).trans hupd
  · rfl

theorem rests_ackLight (s : State) (h : s.idles ρ) : s.ackLight.rests ρ = s.rests ρ := by
  unfold State.ackLight
  split
  · rfl
  · exact rests_confirmDecrease s _ h

theorem rests_selectBudget (s : State) (c : Nat) (h : s.idles ρ) : (s.selectBudget c).rests ρ = s.rests ρ := by
  have hupd (b : Nat) : ((s.updAllot fun u => { u with budget := b }).touchBoard.offerNotice .allotment c 0 0 b).rests ρ =
      s.rests ρ := by
    rw [rests_offerNotice, rests_touchBoard, rests_updAllot _ _ rfl]
  unfold State.selectBudget
  dsimp only
  split
  · rfl
  · exact (rests_recompute _ (idles_congr (hupd _) h)).trans (hupd _)

/-- A demand restated, of a claimant that the aspect does not speak of. -/
theorem rests_restated (s : State) (f : Allotments → Allotments) (h : s.idles ρ)
    (hf : (f s.allot.demand).pen = s.allot.demand.pen ∧ (ρ = .base → (f s.allot.demand).base = s.allot.demand.base)) :
    (s.setDemand f).recompute.rests ρ = s.rests ρ := by
  obtain ⟨hpen, hbase⟩ := hf
  have hset : (s.setDemand f).rests ρ = s.rests ρ := by
    refine rests_updAllot s _ ?_
    unfold AllotUnit.atRest
    dsimp only
    rw [hpen]
    split
    · next hρ => rw [hbase hρ]
    · rfl
  exact (rests_recompute _ (idles_congr hset h)).trans hset

theorem rests_coilDemand (s : State) (up : Bool) (h : s.idles ρ) : (s.coilDemand up).rests ρ = s.rests ρ := by
  unfold State.coilDemand
  extract_lets d
  split
  · rfl
  · exact rests_restated s _ h ⟨rfl, fun _ => rfl⟩

theorem rests_stateBacklight (s : State) (h : s.idles ρ) : s.stateBacklight.rests ρ = s.rests ρ := by
  unfold State.stateBacklight
  extract_lets d
  split
  · rfl
  · exact rests_restated s _ h ⟨rfl, fun _ => rfl⟩

/-- A base locked out is reviewed to no demand, which it has. -/
theorem rests_reviewBase (s : State) (h : s.idles ρ) : s.reviewBase.rests ρ = s.rests ρ := by
  unfold State.reviewBase
  extract_lets d
  split
  · rfl
  · next hne =>
    refine rests_restated s _ h ⟨rfl, fun hρ => ?_⟩
    subst hρ
    obtain ⟨hlockout, hdemand, -, -⟩ := h
    exact absurd (hdemand.trans (by simp [d, hlockout])) hne

theorem rests_baseFaultedOff (s : State) (h : s.idles ρ) : s.baseFaultedOff.rests ρ = s.rests ρ := by
  have hupd : (s.updAllot fun u => { u with faultedOff := true }).rests ρ = s.rests ρ := rests_updAllot s _ rfl
  exact (rests_reviewBase _ (idles_congr hupd h)).trans hupd

theorem rests_withdrawBase (s : State) (h : s.idles ρ) : s.withdrawBase.rests ρ = s.rests ρ := by
  have hupd (b : Bool) : (s.updSleep fun u => { u with withdrawal := b }).rests ρ = s.rests ρ := rests_updSleep s _
  exact (rests_reviewBase _ (idles_congr (hupd _) h)).trans (hupd _)

/-! ## The pen's answer to its grant (R155) -/

theorem setPenState_frame (s : State) (after : PenState) (cause : Nat) :
    Becomes false 0 (s.setPenState after cause) { s with pen := { s.pen with state := after } } := by
  unfold State.setPenState
  dsimp only
  split
  · next h =>
    rw [h]
    exact .refl _ _
  · exact ((Becomes.touchBoard _).join (.latch _ _)).unsaid.join (.offerNotice _ _ _ _ _ _)

/-- A charging pen stays one that charges, and any other is left without coil power. -/
theorem rests_penGrant (s : State) (h : s.idles ρ) : s.penGrant.rests ρ = s.rests ρ := by
  have hcharging (after : PenState) (p : Nat) (hafter : after.charges = true) (hs : s.pen.state.charges = true) :
      ((s.setPenState after 2).setCoilPower p).rests ρ = s.rests ρ := by
    have hframe := (setPenState_frame s after 2).rests (ρ := ρ)
    refine (rests_updPen _ _ ?_).trans (hframe.trans (rests_eq_iff.mpr ⟨?_, rfl, rfl, rfl⟩))
    · have hstate : (s.setPenState after 2).pen.state = after := by rw [(setPenState_frame s after 2).frame]; rfl
      simp only [PenUnit.atRest, hstate, hafter]
      simp
    · simp only [PenUnit.atRest, hafter, hs]
      simp
  have hrest (hs : s.pen.state.charges = false) : (s.setCoilPower 0).rests ρ = s.rests ρ := by
    refine rests_updPen s _ ?_
    cases ρ with
    | coil => simp [PenUnit.atRest, h hs]
    | pen => simp [PenUnit.atRest]
    | base => simp [PenUnit.atRest]
  unfold State.penGrant
  split
  · rfl
  · cases hstate : s.pen.state with
    | charging => exact hcharging _ _ (by split <;> rfl) (by rw [hstate]; rfl)
    | deferred => exact hcharging _ _ (by split <;> rfl) (by rw [hstate]; rfl)
    | absent => exact hrest (by rw [hstate]; rfl)
    | identifying => exact hrest (by rw [hstate]; rfl)
    | topped => exact hrest (by rw [hstate]; rfl)
    | pausedTemp => exact hrest (by rw [hstate]; rfl)
    | held => exact hrest (by rw [hstate]; rfl)
    | fault => exact hrest (by rw [hstate]; rfl)

@[simp] theorem rests_finishMode (s : State) (m : Nat) : (s.finishMode m).rests ρ = s.rests ρ := by
  simp [State.finishMode]

/-! ## The hand-ons of an event -/

theorem rests_setTasks (s : State) (ts : List Task) (h : restless s.tasks = restless ts) :
    (s.setTasks ts).rests ρ = s.rests ρ := rests_eq_iff.mpr ⟨rfl, rfl, rfl, h.symm⟩

theorem calm_of_restful {x : Task} (h : x.restful = true) : x.calm = true := by
  cases x <;> simp at h ⊢

/-- One restful hand-on, with an empty post queue. -/
theorem rests_doTask (x : Task) (s : State) (hx : x.restful = true) (hq : s.dispatch.queue = []) (h : s.idles ρ) :
    (doTask x s).rests ρ = s.rests ρ := by
  cases x with
  | serve n r => cases hx
  | linkDetect => cases hx
  | allotDetect => cases hx
  | resetSleepEnd => cases hx
  | penDemand d => cases hx
  | penDecide => cases hx
  | resumeHost wasOn => cases hx
  | considerQueue => exact congrArg (State.rests ρ) (considerQueue_idle s hq)
  | penGrant => exact rests_penGrant s h
  | recompute => exact rests_recompute s h
  | settleIncreases => exact rests_settleIncreases s h
  | confirmDecrease c => exact rests_confirmDecrease s c h
  | ackLight => exact rests_ackLight s h
  | selectBudget c => exact rests_selectBudget s c h
  | coilDemand up => exact rests_coilDemand s up h
  | stateBacklight => exact rests_stateBacklight s h
  | reviewBase => exact rests_reviewBase s h
  | baseFaultedOff => exact rests_baseFaultedOff s h
  | withdrawBase => exact rests_withdrawBase s h
  | _ => simp [doTask]

theorem rests_front {s : State} {x : Task} {rest : List Task} (hs : s.tasks = x :: rest) (hx : x.restful = true)
    (hq : s.dispatch.queue = []) (h : s.idles ρ) :
    (doTask x (s.setTasks rest)).rests ρ = s.rests ρ ∧ (doTask x (s.setTasks rest)).dispatch.queue = [] := by
  have hset : (s.setTasks rest).rests ρ = s.rests ρ := rests_setTasks s rest (by rw [hs, restless_cons hx])
  exact ⟨(rests_doTask x (s.setTasks rest) hx hq (idles_congr hset h)).trans hset,
    (kept_waiting (kept_doTask x (s.setTasks rest) (calm_of_restful hx) hq)).2.trans hq⟩

theorem restless_front {x : Task} {rest ts : List Task} (h : restless (x :: rest) = ts) :
    x.restful = true ∧ restless rest = ts ∨ ts = x :: restless rest := by
  cases hx : x.restful with
  | true => exact .inl ⟨rfl, (restless_cons hx).symm.trans h⟩
  | false => exact .inr (h.symm.trans (List.filter_cons_of_pos (by
      rw [hx]
      rfl)))

/-- All hand-ons of an event, when they are restful and the post queue is empty. -/
theorem rests_runTasks (n : Nat) (s : State) (ht : restless s.tasks = []) (hq : s.dispatch.queue = [])
    (h : s.idles ρ) : (runTasks n s).rests ρ = s.rests ρ := by
  induction n generalizing s with
  | zero => rfl
  | succ n ih =>
    unfold runTasks
    split
    · rfl
    · next x rest hs =>
      rw [hs] at ht
      obtain ⟨hx, -⟩ | hnil := restless_front ht
      · obtain ⟨hdone, hqueue⟩ := rests_front hs hx hq h
        obtain ⟨-, -, -, hwait⟩ := rests_eq_iff.mp hdone
        rw [hs, ht] at hwait
        exact (ih _ hwait hqueue (idles_congr hdone h)).trans hdone
      · cases hnil

/-- What row 7 of R150 leaves beside the pen. -/
theorem penDecide_frame (s : State) : s.penDecide.allot = s.allot ∧ s.penDecide.settings = s.settings ∧
    s.penDecide.tasks = s.tasks ∧ s.penDecide.dispatch = s.dispatch := by
  have hframe := (setPenState_frame (s.updPen fun u => { u with deciding := false })
    (if 150 ≤ s.allot.grant.pen then .charging else .deferred) 1).frame
  unfold State.penDecide
  dsimp only
  have hgrant : (s.updPen fun u => { u with deciding := false }).allot = s.allot := rfl
  rw [hgrant]
  generalize State.setPenState _ _ _ = e at hframe ⊢
  rw [hframe]
  exact ⟨rfl, rfl, rfl, rfl⟩

/-- The PEN demand and the faults of other units than the link, over hand-ons among which row 7 of R150 decides. -/
theorem rests_runDeciding (n : Nat) (s : State) (ht : restless s.tasks = [.penDecide]) (hq : s.dispatch.queue = []) :
    (runTasks n s).allot.demand.pen = s.allot.demand.pen ∧ (runTasks n s).settings.atRest = s.settings.atRest := by
  induction n generalizing s with
  | zero => exact ⟨rfl, rfl⟩
  | succ n ih =>
    unfold runTasks
    split
    · exact ⟨rfl, rfl⟩
    · next x rest hs =>
      rw [hs] at ht
      obtain ⟨hx, -⟩ | hcons := restless_front ht
      · obtain ⟨hdone, hqueue⟩ := rests_front (ρ := .pen) hs hx hq trivial
        obtain ⟨-, hallot, hsettings, hwait⟩ := rests_eq_iff.mp hdone
        rw [hs, ht] at hwait
        obtain ⟨hdemand, hfaults⟩ := ih _ hwait hqueue
        exact ⟨hdemand.trans (congrArg Prod.fst hallot), hfaults.trans hsettings⟩
      · obtain ⟨rfl, hrest⟩ := List.cons.inj hcons
        obtain ⟨hallot, hsettings, htasks, hdispatch⟩ := penDecide_frame (s.setTasks rest)
        have hdone := rests_runTasks (ρ := .pen) n (doTask .penDecide (s.setTasks rest))
          ((congrArg restless htasks).trans hrest.symm) ((congrArg Dispatcher.queue hdispatch).trans hq) trivial
        obtain ⟨-, hrun, hfaults, -⟩ := rests_eq_iff.mp hdone
        exact ⟨(congrArg Prod.fst hrun).trans (congrArg (·.demand.pen) hallot),
          hfaults.trans (congrArg SettingsUnit.atRest hsettings)⟩

end Sys2Proof.Machine
end

section
/-! Events whose last hand-ons are not followed one by one, and PEN_CHARGE_MODE (R161). -/

namespace Sys2Proof.Machine

set_option Elab.async false

variable {q : Bool} {L M : BitVec 10} {s t u v w e : State} {ρ : Aspect}

/-! ## The end of an event -/

/-- From u the hand-ons of an event that began in s are carried to its end, t. -/
def State.ends (u s t : State) : Prop := ∃ m, 100 ≤ m ∧ t = ((runTasks m u).setTasks []).closeBoard s

theorem takeEvent_ends {k : Nat} {f : State → State} (hs : s.betweenEvents) (h : Carried k (f s) u) (hk : k ≤ 100 := by decide) :
    ∃ t, takeEvent s f = .next t ∧ u.ends s t := by
  have hlimit : 200 ≤ Config.handOnLimit := by decide
  refine ⟨_, rfl, Config.handOnLimit - k, by omega, ?_⟩
  rw [event_between s f hs, h _ (by omega)]

theorem request_ends {n : Fin 32} {r : Request} {tag : Half} {ps : List Word} {k : Nat} (hs : s.sound)
    (h : s.takesAtOnce n r.servedBy) (hc : Carried k ((s.taken n r tag ps).serve n r) u)
    (hp : ps.length ≤ 8 := by simp) (hk : k ≤ 100 := by decide) :
    ∃ t, takeEvent s (fun u => u.makeRequest n r tag ps) = .next t ∧ u.ends s t := by
  have hlimit : 202 ≤ Config.handOnLimit := by decide
  refine ⟨_, rfl, Config.handOnLimit - 2 - k, by omega, ?_⟩
  rw [event_request s n r tag ps h hs.2 hs.1.1 hs.1.2 hp, hc _ (by omega)]

/-- What calm hand-ons leave of the units. -/
def State.keptUnits (s : State) :=
  (s.now, s.settings.kept, s.sensor.kept, s.angle.kept, s.posture.kept, s.attach.kept, s.pen.kept, s.allot.kept, s.sleep.kept,
   s.dispatch.queue)

theorem keptUnits_congr (h : s.kept = t.kept) : s.keptUnits = t.keptUnits := by
  simp only [State.kept, Prod.mk.injEq] at h
  simp only [State.keptUnits, Prod.mk.injEq, h, and_self]

theorem State.ends.keptUnits (h : u.ends s t) (ht : u.tasks.all Task.calm = true) (hq : u.dispatch.queue = []) :
    t.keptUnits = u.keptUnits := by
  obtain ⟨m, -, rfl⟩ := h
  have hclosed (e : State) : (e.closeBoard s).keptUnits = e.keptUnits := by
    rw [closeBoard_frame]
    rfl
  exact (hclosed _).trans (keptUnits_congr (s := runTasks m u) (kept_runTasks m u ht hq))

theorem State.ends.rests (h : u.ends s t) (ht : u.tasks.all Task.restful = true) (hq : u.dispatch.queue = []) (hi : u.idles ρ) :
    t.pen.atRest ρ = u.pen.atRest ρ ∧ t.allot.atRest ρ = u.allot.atRest ρ ∧ t.settings.atRest = u.settings.atRest := by
  obtain ⟨m, -, rfl⟩ := h
  obtain ⟨hpen, hallot, hsettings, -⟩ := rests_eq_iff.mp (rests_runTasks m u (restless_nil ht) hq hi)
  rw [closeBoard_frame]
  exact ⟨hpen, hallot, hsettings⟩

theorem restful_calm {ts : List Task} (h : ts.all Task.restful = true) : ts.all Task.calm = true := by
  rw [List.all_eq_true] at h ⊢
  exact fun x hx => calm_of_restful (h x hx)

/-- What a pen in a state that its grant does not move is left with. -/
theorem State.ends.penState (h : u.ends s t) (ht : u.tasks.all Task.restful = true) (hq : u.dispatch.queue = [])
    (hstate : u.pen.state.charges = false) : t.pen.state = u.pen.state ∧ (u.pen.coilPower = 0 → t.pen.coilPower = 0) := by
  have hcharges (ρ : Aspect) (hpen : t.pen.atRest ρ = u.pen.atRest ρ) : t.pen.state.charges = false :=
    (charges_congr hpen).trans hstate
  obtain ⟨hpen, -, -⟩ := h.rests (ρ := .pen) ht hq trivial
  have hstill := hcharges .pen hpen
  simp only [PenUnit.atRest, hstill, hstate] at hpen
  have hsame : t.pen.deciding = u.pen.deciding ∧ t.pen.state = u.pen.state := by simpa using hpen
  refine ⟨hsame.2, fun hzero => ?_⟩
  obtain ⟨hcoil, -, -⟩ := h.rests (ρ := .coil) ht hq fun _ => hzero
  simp only [PenUnit.atRest, hstill, hstate, hzero] at hcoil
  have hleft : t.pen.deciding = u.pen.deciding ∧ t.pen.state = u.pen.state ∧ t.pen.coilPower = 0 := by simpa using hcoil
  obtain ⟨-, -, hzero⟩ := hleft
  exact hzero

theorem State.ends.penDemand (h : u.ends s t) (ht : u.tasks.all Task.restful = true) (hq : u.dispatch.queue = []) :
    t.allot.demand.pen = u.allot.demand.pen := by
  obtain ⟨-, hallot, -⟩ := h.rests (ρ := .pen) ht hq trivial
  exact congrArg Prod.fst hallot

/-! ## The PEN demand (R165) -/

section
variable (s) (d : Nat)

theorem Becomes.penDemand :
    Becomes q 0 (s.penDemand d)
      { s with allot := (s.penDemand d).allot, tasks := (s.penDemand d).tasks } := by
  unfold State.penDemand
  dsimp only
  split
  · exact .of_eq rfl
  · have h := Becomes.recompute (q := q) ((s.hand [.penGrant]).setDemand fun a => { a with pen := d })
    refine ⟨?_, h.drift.congr ⟨rfl, rfl, rfl⟩ ⟨rfl, rfl, rfl⟩⟩
    have hframe := h.frame
    generalize State.recompute _ = e at hframe ⊢
    rw [hframe]
    rfl

theorem penDemand_demand : (s.penDemand d).allot.demand = { s.allot.demand with pen := d } := by
  unfold State.penDemand
  dsimp only
  split
  · next h =>
    rw [← h]
    rfl
  · rw [(Becomes.recompute (q := false) _).frame]
    rfl

theorem penDemand_restful : (s.penDemand d).tasks.all Task.restful = s.tasks.all Task.restful := by
  unfold State.penDemand
  dsimp only
  split
  · rfl
  · rw [(Becomes.recompute (q := false) _).frame]
    unfold State.withNoise State.recomputed State.hand State.setTasks
    simp only [List.all_append, grantTasks_restful, Bool.true_and]
    rfl

end

/-- An event that states the PEN demand among hand-ons of other units: the demand, and the pen it leaves. -/
theorem Carried.penDemand {d : Nat} {rest : List Task} (h : s.tasks = .penDemand d :: rest) :
    Carried 1 s ((s.setTasks rest).penDemand d) := .front_eq h rfl

theorem penDemand_pen (s : State) (d : Nat) : (s.penDemand d).pen = s.pen ∧ (s.penDemand d).dispatch = s.dispatch ∧
    (s.penDemand d).settings = s.settings := by
  rw [(Becomes.penDemand (q := false) s d).frame]
  exact ⟨rfl, rfl, rfl⟩

/-! ## Answers after hand-ons -/

/-- A request answered after j hand-ons, from the state b in which it is taken. -/
theorem exec_answeredAfter {s b : State} {n : Fin 32} {r : Request} {tag : Half} {ps : List Word} {code : ResultCode}
    {detail j : Nat} {words : List Word} (hs : s.sound) (h : s.takesAtOnce n r.servedBy)
    (hserve : Carried j ((s.taken n r tag ps).serve n r) ((b.taken n r tag ps).finishUnit r.servedBy code detail words))
    (hd : detail < 65536) (hmem : b.mem = s.mem := by rfl) (hdispatch : b.dispatch = s.dispatch := by rfl)
    (htasks : b.tasks = s.tasks := by rfl) (htouched : ∃ x, b.port = { s.port with boardTouched := x } := by exact ⟨_, rfl⟩)
    (hp : ps.length ≤ 8 := by simp) (hw : words.length ≤ 4 := by simp) (hj : j ≤ 98 := by decide) :
    ∃ t, takeEvent s (fun u => u.makeRequest n r tag ps) = .next t ∧
      State.slotAnswered { b with port := s.port } t n code detail ∧
      ∀ i : Fin 4, ∀ h : i.val < words.length, t.resultWord n i = (words[i.val]'h).toNat := by
  have hcanonical : MemoryCanonical b := by
    unfold MemoryCanonical
    rw [hmem]
    exact hs.2
  have hqueue : b.dispatch.queue = [] := by
    rw [hdispatch]
    exact h.2.2.2.1
  have hidle : b.servingSlot r.servedBy = none := by
    unfold State.servingSlot
    rw [hdispatch]
    exact h.2.2.2.2
  exact ⟨b.answeredAt s n r tag ps code detail words,
    exec_request hs h (hserve.trans (Carried.answered b n r tag ps code detail words)) rfl hp (by omega),
    slotAnswered_taken b s n r tag ps code detail words s.port hcanonical (htasks.trans hs.1.1) hqueue hidle hp hw hd hs.1.2
      htouched,
    (answeredAt_reads b s n r tag ps code detail words hcanonical hd hp hw).2.1⟩

/-! ## PEN_CHARGE_MODE (R161) -/

theorem exec_penChargeMode_request (s : State) (n : Fin 32) (tag : Half) (mode : Word) :
    exec (.penChargeMode n tag mode) s = takeEvent s fun u => u.makeRequest n .penChargeMode tag [mode] := by rfl

theorem serve_penChargeMode (s : State) (hm : MemoryCanonical s) (n : Fin 32) (tag : Half) (mode : Word) :
    (s.taken n .penChargeMode tag [mode]).serve n .penChargeMode =
      (s.taken n .penChargeMode tag [mode]).setChargeMode mode.toNat := by
  unfold State.serve
  dsimp only
  rw [taken_param s hm n .penChargeMode tag [mode] (by simp) 0 (by simp)]
  simp only [List.getElem_cons_zero]

theorem setChargeMode_bad (s : State) (mode : Nat) (h : 1 < mode) :
    s.setChargeMode mode = s.finishUnit .pen .badParameter 0 [] := if_pos h

theorem setChargeMode_hold (s : State) :
    s.setChargeMode 1 = ((s.updPen fun u => { u with mode := .hold }).hand [.finishMode 1]).holdPen := rfl

theorem setChargeMode_normal (s : State) :
    s.setChargeMode 0 = ((s.updPen fun u => { u with mode := .normal }).hand [.finishMode 0]).releasePen := rfl

/-- The states HOLD leaves as they are. -/
theorem holdPen_still (s : State)
    (h : s.pen.state = .absent ∨ s.pen.state = .identifying ∨ s.pen.state = .held ∨ s.pen.state = .fault) : s.holdPen = s := by
  unfold State.holdPen
  rcases h with h | h | h | h <;> rw [h]

theorem holdPen_held (s : State)
    (h : s.pen.state = .charging ∨ s.pen.state = .deferred ∨ s.pen.state = .topped ∨ s.pen.state = .pausedTemp) :
    s.holdPen = ((s.setPenState .held 5).setCoilPower 0).hand [.penDemand 0] := by
  unfold State.holdPen
  rcases h with h | h | h | h <;> rw [h]

theorem releasePen_held (s : State) (h : s.pen.state = .held) :
    s.releasePen = { s with pen := { s.pen with
      poll := none, response := if s.pen.response.isSome then s.pen.response else s.start 20 } } := by
  unfold State.releasePen State.beginExchange
  rw [if_pos h]
  by_cases hresponse : s.pen.response.isSome
  · rw [if_pos hresponse]
    exact if_pos hresponse
  · rw [if_neg hresponse]
    exact if_neg hresponse

/-- The change of mode alone, of a pen it leaves as it is. -/
theorem setChargeMode_holdStill (s : State)
    (h : s.pen.state = .absent ∨ s.pen.state = .identifying ∨ s.pen.state = .held ∨ s.pen.state = .fault) :
    s.setChargeMode 1 = (s.updPen fun _ => { s.pen with mode := .hold }).hand [.finishMode 1] :=
  (setChargeMode_hold s).trans (holdPen_still _ h)

theorem setChargeMode_normalStill (s : State) (h : s.pen.state ≠ .held) :
    s.setChargeMode 0 = (s.updPen fun _ => { s.pen with mode := .normal }).hand [.finishMode 0] :=
  (setChargeMode_normal s).trans (if_neg h)

theorem setChargeMode_normalHeld (s : State) (h : s.pen.state = .held) :
    s.setChargeMode 0 = (s.updPen fun _ =>
      { s.pen with mode := .normal, poll := none
                   response := if s.pen.response.isSome then s.pen.response else some (s.now + 20) }).hand [.finishMode 0] :=
  (setChargeMode_normal s).trans (releasePen_held _ h)

section
variable {n : Fin 32} {tag : Half} (hs : s.sound) (h : s.takesAtOnce n .pen)
include hs h

/-- A mode answered with the pen as the change of mode leaves it. -/
theorem exec_modeAnswered {p : PenUnit} {mode : Word} (hmode : mode.toNat ≤ 1)
    (hserve : ∀ v : State, v.pen = s.pen → v.now = s.now →
      v.setChargeMode mode.toNat = (v.updPen fun _ => p).hand [.finishMode mode.toNat]) :
    ∃ t, exec (.penChargeMode n tag mode) s = .next t ∧ State.slotAnswered { s with pen := p } t n .ok 0 ∧
      t.resultWord n 0 = mode.toNat ∧ t.resultWord n 1 = p.state.code := by
  have hcarried : Carried 1 ((s.taken n .penChargeMode tag [mode]).serve n .penChargeMode)
      ((State.taken { s with pen := p } n .penChargeMode tag [mode]).finishUnit .pen .ok 0 [word mode.toNat, word p.state.code]) := by
    have hpen : (State.taken { s with pen := p } n .penChargeMode tag [mode]).pen = p := by simp only [State.taken]
    have hkept : (s.taken n .penChargeMode tag [mode]).pen = s.pen ∧ (s.taken n .penChargeMode tag [mode]).now = s.now := by
      simp only [State.taken, and_self]
    rw [serve_penChargeMode s hs.2 n tag mode, hserve _ hkept.1 hkept.2, taken_updPen]
    show Carried 1 ((State.taken { s with pen := p } n .penChargeMode tag [mode]).hand [.finishMode mode.toNat]) _
    generalize State.taken { s with pen := p } n .penChargeMode tag [mode] = v at hpen
    rw [← hpen]
    exact Carried.handed v _ [] rfl
  obtain ⟨t, hnext, hanswered, hwords⟩ := exec_answeredAfter (b := { s with pen := p }) hs h hcarried (by decide)
  refine ⟨t, hnext, hanswered, (hwords 0 (by simp)).trans (word_toNat _ (by omega)), (hwords 1 (by simp)).trans (word_toNat _ ?_)⟩
  cases p.state <;> decide

/-- HOLD of a pen that draws or may draw (R161): whatever its withdrawn demand brings, the pen stays HELD without coil power. -/
theorem exec_modeHeld
    (hstate : s.pen.state = .charging ∨ s.pen.state = .deferred ∨ s.pen.state = .topped ∨ s.pen.state = .pausedTemp) :
    ∃ t, exec (.penChargeMode n tag 1) s = .next t ∧ t.pen.mode = .hold ∧ t.pen.state = .held ∧ t.pen.coilPower = 0 ∧
      t.allot.demand.pen = 0 := by
  obtain ⟨v, hv⟩ : ∃ v, v = ((s.taken n .penChargeMode tag [1]).updPen fun u => { u with mode := .hold }).hand [.finishMode 1] :=
    ⟨_, rfl⟩
  have hvfields : v.pen = { s.pen with mode := .hold } ∧ v.tasks = [.finishMode 1, .considerQueue] ∧ v.dispatch.queue = [] := by
    rw [hv]
    simp only [State.taken, State.updPen, State.hand, State.setTasks, List.cons_append, List.nil_append, and_self]
  obtain ⟨hvpen, hvtasks, hvqueue⟩ := hvfields
  have hserve : (s.taken n .penChargeMode tag [1]).serve n .penChargeMode =
      ((v.setPenState .held 5).setCoilPower 0).hand [.penDemand 0] := by
    rw [serve_penChargeMode s hs.2 n tag 1, ← holdPen_held v (by rw [hvpen]; exact hstate), hv]
    exact setChargeMode_hold _
  have hframe := (setPenState_frame v .held 5).frame
  generalize v.setPenState .held 5 = w at hserve hframe
  have hwpen : w.pen = { s.pen with mode := .hold, state := .held } := by
    rw [hframe]
    show { v.pen with state := PenState.held } = _
    rw [hvpen]
  have hwtasks : w.tasks = [.finishMode 1, .considerQueue] := by
    rw [hframe]
    exact hvtasks
  have hwqueue : w.dispatch.queue = [] := by
    rw [hframe]
    exact hvqueue
  obtain ⟨t, hnext, hends⟩ := request_ends (u := (w.setCoilPower 0).penDemand 0) hs h (by
    rw [hserve]
    exact Carried.penDemand rfl)
  obtain ⟨hpen, hdispatch, -⟩ := penDemand_pen (w.setCoilPower 0) 0
  have hdemand := penDemand_demand (w.setCoilPower 0) 0
  have htasks : ((w.setCoilPower 0).penDemand 0).tasks.all Task.restful = true := by
    rw [penDemand_restful]
    show w.tasks.all Task.restful = true
    rw [hwtasks]
    rfl
  generalize (w.setCoilPower 0).penDemand 0 = x at *
  have hqueue : x.dispatch.queue = [] := by
    rw [hdispatch]
    exact hwqueue
  have hxpen : x.pen.state = .held ∧ x.pen.mode = .hold ∧ x.pen.coilPower = 0 := by
    rw [hpen]
    exact ⟨congrArg PenUnit.state hwpen, congrArg PenUnit.mode hwpen, rfl⟩
  obtain ⟨hxstate, hxmode, hxcoil⟩ := hxpen
  obtain ⟨hheld, hcoil⟩ := hends.penState htasks hqueue (by rw [hxstate]; rfl)
  have hunits := hends.keptUnits (restful_calm htasks) hqueue
  simp only [State.keptUnits, Prod.mk.injEq] at hunits
  obtain ⟨-, -, -, -, -, -, ⟨-, -, -, -, -, -, -, hmode, -⟩, -⟩ := hunits
  exact ⟨t, hnext, hmode.trans hxmode, hheld.trans hxstate, hcoil hxcoil,
    (hends.penDemand htasks hqueue).trans (congrArg Allotments.pen hdemand)⟩

end

/-- Settles O38: by the mode and the pen's state. -/
theorem penChargeMode : Obligations.PenChargeMode := by
  unfold Obligations.PenChargeMode
  intro s n tag mode hs h
  by_cases hbad : 1 < mode.toNat
  · obtain ⟨hnext, hanswered, -⟩ := exec_answeredFrom hs h
      ((serve_penChargeMode s hs.2 n tag mode).trans (setChargeMode_bad _ _ hbad)) (by decide)
    have hone (e : mode = 1) : False := by simp [e] at hbad
    have hzero (e : mode = 0) : False := by simp [e] at hbad
    exact ⟨_, (exec_penChargeMode_request s n tag mode).trans hnext, fun _ => hanswered, fun e => (hone e).elim,
      fun e => (hzero e).elim, fun e => (hone e).elim, fun e => (hone e).elim, fun e => (hzero e).elim, fun e => (hzero e).elim⟩
  obtain rfl | rfl : mode = 1 ∨ mode = 0 := by
    rcases Nat.lt_or_ge 0 mode.toNat with hpos | hzero
    · exact .inl (BitVec.eq_of_toNat_eq (by simp; omega))
    · exact .inr (BitVec.eq_of_toNat_eq (by simp; omega))
  · by_cases hstill : s.pen.state = .absent ∨ s.pen.state = .identifying ∨ s.pen.state = .held ∨ s.pen.state = .fault
    · obtain ⟨t, hnext, hanswered, hfirst, hsecond⟩ := exec_modeAnswered (tag := tag) (p := { s.pen with mode := .hold }) (mode := 1) hs h
        (by decide) fun v hv _ => hv ▸ setChargeMode_holdStill v (hv ▸ hstill)
      refine ⟨t, hnext, fun e => absurd e hbad, fun _ => ?_, fun e => absurd e (by decide), fun _ _ => ⟨hanswered, hfirst, hsecond⟩,
        fun _ hdraws => ?_, fun e => absurd e (by decide), fun e => absurd e (by decide)⟩
      · obtain ⟨-, -, -, -, -, hframe, -⟩ := hanswered
        rw [hframe]
      · rcases hdraws with e | e | e | e <;> rw [e] at hstill <;> simp at hstill
    · have hdraws : s.pen.state = .charging ∨ s.pen.state = .deferred ∨ s.pen.state = .topped ∨ s.pen.state = .pausedTemp := by
        cases hstate : s.pen.state <;> simp [hstate] at hstill ⊢
      obtain ⟨t, hnext, hmode, hheld⟩ := exec_modeHeld (tag := tag) hs h hdraws
      exact ⟨t, hnext, fun e => absurd e hbad, fun _ => hmode, fun e => absurd e (by decide), fun _ e => absurd e hstill,
        fun _ _ => hheld, fun e => absurd e (by decide), fun e => absurd e (by decide)⟩
  · by_cases hheld : s.pen.state = .held
    · obtain ⟨t, hnext, hanswered, hfirst, hsecond⟩ := exec_modeAnswered (tag := tag) (mode := 0) hs h
        (p := { s.pen with mode := .normal, poll := none
                           response := if s.pen.response.isSome then s.pen.response else some (s.now + 20) })
        (by decide) fun v hv hnow => hv ▸ hnow ▸ setChargeMode_normalHeld v (hv ▸ hheld)
      refine ⟨t, hnext, fun e => absurd e hbad, fun e => absurd e (by decide), fun _ => ?_, fun e => absurd e (by decide),
        fun e => absurd e (by decide), fun _ e => absurd hheld e, fun _ _ => ⟨hanswered, hfirst, ?_⟩⟩
      · obtain ⟨-, -, -, -, -, hframe, -⟩ := hanswered
        rw [hframe]
      · rw [← hheld]
        exact hsecond
    · obtain ⟨t, hnext, hanswered, hfirst, hsecond⟩ := exec_modeAnswered (tag := tag) (mode := 0) hs h
        (p := { s.pen with mode := .normal }) (by decide) fun v hv _ => hv ▸ setChargeMode_normalStill v (hv ▸ hheld)
      refine ⟨t, hnext, fun e => absurd e hbad, fun e => absurd e (by decide), fun _ => ?_, fun e => absurd e (by decide),
        fun e => absurd e (by decide), fun _ _ => ⟨hanswered, hfirst, hsecond⟩, fun _ e => absurd e hheld⟩
      obtain ⟨-, -, -, -, -, hframe, -⟩ := hanswered
      rw [hframe]

end Sys2Proof.Machine
end

section
/-! Wake events with nothing drawn (R182, R183), the pen's grant, and the debounced lines (R48, R126, R146, R147, R157, R185). -/

namespace Sys2Proof.Machine

set_option Elab.async false

variable {q : Bool} {L M : BitVec 10} {s t u v w e : State} {ρ : Aspect}

/-! ## Wake events -/

theorem wokenBy_disabled (s : State) (w : WakeSource) (now : PartTime) (h : s.sleep.wakeMask.getLsbD w.bit = false) :
    s.wokenBy w now = s.sleep := if_neg (by rw [h]; decide)

theorem wokenBy_active (s : State) (w : WakeSource) (h : s.sleep.wakeMask.getLsbD w.bit = true) (hpower : s.sleep.power = .active) :
    s.roused w = s.wokenBy w s.now := by
  unfold State.wokenBy State.roused
  dsimp only
  rw [if_pos h, if_pos hpower, ← hpower]

theorem wokenBy_awakened (s : State) (w : WakeSource) (h : s.sleep.wakeMask.getLsbD w.bit = true) (hpower : s.sleep.power ≠ .active) :
    State.repoweredSleep { s with sleep := s.roused w } .active = s.wokenBy w s.now := by
  unfold State.repoweredSleep State.wokenBy State.roused
  dsimp only
  rw [if_pos h, if_neg hpower]
  split <;> rfl

/-- A wake event with the host SLEEPING and nothing drawn, to the end of what it hands on. -/
theorem Leads.wakeEvent {w : WakeSource} {rest : List Task} (h : s.tasks = .wakeEvent w :: rest) (hhost : s.hostOn = false)
    (hn : s.nothingDraws) :
    ∃ k ≤ 12, ∃ v, Leads false 0 k s v ∧ v.tasks = rest ∧ v.sleep = s.wokenBy w s.now ∧ v.now = s.now := by
  cases hmask : s.sleep.wakeMask.getLsbD w.bit with
  | false =>
    have hidle : Leads false 0 1 s (s.setTasks rest) := .exact h fun _ => wakeEvent_idle _ w (.inr hmask)
    exact ⟨1, by decide, _, hidle, rfl, (wokenBy_disabled s w s.now hmask).symm, rfl⟩
  | true =>
    have hrouse : Leads false 0 1 s { s with sleep := s.roused w, tasks := .setPower .active 2 :: rest } :=
      .front h fun a => by
        have hwake : doTask (.wakeEvent w) ((s.setTasks rest).withNoise a) =
            (State.withNoise { s with sleep := s.roused w, tasks := .setPower .active 2 :: rest } a).touchBoard :=
          wakeEvent_enabled ((s.setTasks rest).withNoise a) w hhost hmask
        rw [hwake]
        exact .touchBoard _
    have hpower : (s.roused w).power = s.sleep.power := by
      unfold State.roused
      dsimp only
      split <;> rfl
    by_cases hactive : s.sleep.power = .active
    · have hsame : Leads false 0 1 { s with sleep := s.roused w, tasks := .setPower .active 2 :: rest }
          { s with sleep := s.roused w, tasks := rest } := .exact rfl fun a => if_pos (hpower.trans hactive).symm
      exact ⟨2, by decide, _, hrouse.next hsame, rfl, wokenBy_active s w hmask hactive, rfl⟩
    · have hchange : Leads false 0 1 { s with sleep := s.roused w, tasks := .setPower .active 2 :: rest }
          ((State.repowered { s with sleep := s.roused w } .active).setTasks
            (Machine.powerReaders (s.roused w).power 2 ++ rest)) :=
        .front rfl fun a => Becomes.setPower _ .active 2 (fun e => hactive (hpower.symm.trans e.symm))
      obtain ⟨k, hk, hreaders⟩ := Leads.powerReaders (s := { s with sleep := s.roused w }) (after := .active) (cause := 2)
        (rest := rest) hn (by decide) (fun e => by cases e)
      exact ⟨1 + 1 + k, by omega, _, (hrouse.next hchange).next hreaders, rfl, wokenBy_awakened s w hmask hactive, rfl⟩

theorem Leads.activityAsleep {rest : List Task} (h : s.tasks = .activity :: rest) (hhost : s.hostOn = false) :
    Leads q 0 1 s (s.setTasks rest) :=
  .exact h fun a => by
    show State.activity _ = _
    exact if_neg (by rw [show ((s.setTasks rest).withNoise a).hostOn = false from hhost]; decide)

/-! ## The pen's grant (R155) -/

/-- The pen unit with a coil power in force. -/
def PenUnit.powered (u : PenUnit) (p : Nat) : PenUnit :=
  { u with coilPower := p, confirmDue := u.confirmDue || decide (p < u.coilPower) }

/-- The pen unit after the PEN grant has reached it. -/
def State.grantedPen (s : State) : PenUnit :=
  if s.pen.deciding then s.pen
  else if s.pen.state.charges then
    PenUnit.powered { s.pen with state := if 150 ≤ s.allot.grant.pen then .charging else .deferred } (usableGrant s.allot.grant.pen)
  else s.pen.powered 0

theorem blind_setCoilPower (p : Nat) : Blind fun s => s.setCoilPower p := ⟨fun _ _ => rfl, fun _ => ⟨rfl, rfl, rfl⟩⟩

theorem Becomes.penGrant (s : State) : Becomes false 0 s.penGrant { s with pen := s.grantedPen } := by
  have hcharging := (setPenState_frame s (if 150 ≤ s.allot.grant.pen then .charging else .deferred) 2).blind
    (blind_setCoilPower (usableGrant s.allot.grant.pen))
  have hgrant : (s.setPenState (if 150 ≤ s.allot.grant.pen then .charging else .deferred) 2).allot = s.allot := by
    rw [(setPenState_frame s _ 2).frame]
    rfl
  unfold State.penGrant State.grantedPen
  by_cases hdeciding : s.pen.deciding
  · rw [if_pos hdeciding, if_pos hdeciding]
    exact .refl _ s
  · rw [if_neg hdeciding, if_neg hdeciding]
    cases hstate : s.pen.state with
    | charging => exact hcharging
    | deferred => exact hcharging
    | absent => exact .refl _ _
    | identifying => exact .refl _ _
    | topped => exact .refl _ _
    | pausedTemp => exact .refl _ _
    | held => exact .refl _ _
    | fault => exact .refl _ _

theorem Leads.penGrant {rest : List Task} (h : s.tasks = .penGrant :: rest) :
    Leads false 0 1 s { s with pen := s.grantedPen, tasks := rest } := .front h fun a => .penGrant ((s.setTasks rest).withNoise a)

/-- A PEN demand stated as it is held is answered alone. -/
theorem Leads.penDemandHeld {d : Nat} {rest : List Task} (h : s.tasks = .penDemand d :: rest) (hd : s.allot.demand.pen = d) :
    Leads false 0 2 s { s with pen := s.grantedPen, tasks := rest } := by
  have hask : Leads false 0 1 s (s.setTasks (.penGrant :: rest)) := .exact h fun a => if_pos hd
  exact hask.next (.penGrant rfl)

/-! ## The lines (R48, R126, R146, R185) -/

/-- A line after a change of its level (R48, log 8). -/
def DebouncedLine.changed (d : DebouncedLine) (level : Bool) (running : Bool) (started : Timer) : DebouncedLine :=
  if running then d.change level started else d.unwatched level

section
variable (s)

theorem hallChange_lidClosed (level : Bool) :
    s.hallChange .lidClosed level =
      { s with sensor := { s.sensor with lidClosed := s.sensor.lidClosed.changed level s.isRunning (s.start 20) } } := by
  unfold State.hallChange DebouncedLine.changed
  split <;> rfl

theorem hallChange_foldBack (level : Bool) :
    s.hallChange .foldBack level =
      { s with sensor := { s.sensor with foldBack := s.sensor.foldBack.changed level s.isRunning (s.start 20) } } := by
  unfold State.hallChange DebouncedLine.changed
  split <;> rfl

theorem detectChange_eq (level : Bool) :
    s.detectChange level =
      { s with attach := { s.attach with detect := s.attach.detect.changed level s.isRunning (s.start 50) } } := by
  unfold State.detectChange DebouncedLine.changed
  dsimp only
  split <;> rfl

theorem penInChange_eq (level : Bool) :
    s.penInChange level =
      { s with pen := { s.pen with penIn := s.pen.penIn.changed level s.isRunning (s.start 100) } } := by
  unfold State.penInChange DebouncedLine.changed
  dsimp only
  split <;> rfl

theorem buttonChange_eq (level : Bool) :
    s.buttonChange level =
      { s with sleep := { s.sleep with button := s.sleep.button.changed level s.isRunning (s.start 30) } } := by
  unfold State.buttonChange DebouncedLine.changed
  dsimp only
  split <;> rfl

end

theorem isRunning_iff (s : State) : s.isRunning = true ↔ s.port.phase = .running := beq_iff_eq

theorem changed_eq (s : State) (d : DebouncedLine) (level : Bool) (started : Timer) :
    d.changed level s.isRunning started =
      if s.port.phase = .running then
        (if d.line = level then d
         else { line := level, level := d.level, timer := if level = d.level then none else started })
      else { line := level, level := d.level, timer := d.timer } := by
  unfold DebouncedLine.changed DebouncedLine.change DebouncedLine.unwatched
  by_cases h : s.port.phase = .running
  · rw [if_pos h, if_pos ((isRunning_iff s).mpr h)]
  · rw [if_neg h, if_neg fun e => h ((isRunning_iff s).mp e)]

/-- An event that sets fields the board does not show. -/
theorem takeEvent_set {f : State → State} (hs : s.betweenEvents) (hf : f s = t) (ht : t.tasks = s.tasks ∧ t.port = s.port)
    (hboard : t.boardWords = s.boardWords) : takeEvent s f = .next t := by
  obtain ⟨htasks, hport⟩ := ht
  subst hf
  refine takeEvent_unseen s f hs ⟨htasks.trans hs.1, ?_⟩ hboard
  rw [hport]
  exact hs.2

/-! ## The hall lines' expiries (R48, R49) -/

theorem hallSettle_lidClosed (s : State) :
    s.hallSettle .lidClosed =
      if s.sensor.lidClosed.level = true ∧ s.sensor.lidClosed.line = false then
        State.hand { s with sensor := { s.sensor with lidClosed := s.sensor.lidClosed.settle } } [.wakeEvent .lidOpen]
      else { s with sensor := { s.sensor with lidClosed := s.sensor.lidClosed.settle } } := by
  unfold State.hallSettle
  dsimp only
  by_cases h : s.sensor.lidClosed.level = true ∧ s.sensor.lidClosed.line = false
  · rw [if_pos h]
    exact if_pos ⟨rfl, h⟩
  · rw [if_neg h]
    exact if_neg fun e => h e.2

theorem hallSettle_foldBack (s : State) :
    s.hallSettle .foldBack = { s with sensor := { s.sensor with foldBack := s.sensor.foldBack.settle } } := by
  unfold State.hallSettle
  rw [if_neg fun h => by cases h.1]
  rfl

/-- With nothing to wake the debounced level is taken, and that is all. -/
theorem exec_lidClosed_quiet (s : State) (e : PartTime) (hs : s.betweenEvents) (htimer : s.sensor.lidClosed.timer = some e)
    (h : s.hostOn = true ∨ s.sensor.lidClosed.line = true ∨ s.sensor.lidClosed.level = false) :
    exec (.hallDebounceExpiry .lidClosed) s = .next
      { s with now := (s.reach e).now, sensor := { s.sensor with lidClosed := s.sensor.lidClosed.settle } } := by
  refine (takeEvent_expiry hs (x := fun s => (s.sensor.hall .lidClosed).timer) (g := fun s => s.hallSettle .lidClosed) htimer).trans ?_
  obtain ⟨now, hnow⟩ : ∃ now, (s.reach e).now = now := ⟨_, rfl⟩
  rw [hnow]
  have hsettle := hallSettle_lidClosed (s.setNow now)
  by_cases hopened : s.sensor.lidClosed.level = true ∧ s.sensor.lidClosed.line = false
  · have hhost : s.hostOn = true := by
      obtain ⟨hlevel, hline⟩ := hopened
      rw [hlevel, hline] at h
      simpa using h
    rw [show (if (s.setNow now).sensor.lidClosed.level = true ∧ (s.setNow now).sensor.lidClosed.line = false then _ else _) = _
      from if_pos hopened] at hsettle
    refine takeEvent_settled hs (k := 1) (t := { s with now := now, sensor := { s.sensor with lidClosed := s.sensor.lidClosed.settle } })
      (hsettle ▸ Carried.front_eq (x := .wakeEvent .lidOpen) (rest := s.tasks) rfl ?_) hs rfl
    exact wakeEvent_idle _ .lidOpen (.inl hhost)
  · rw [show (if (s.setNow now).sensor.lidClosed.level = true ∧ (s.setNow now).sensor.lidClosed.line = false then _ else _) = _
      from if_neg hopened] at hsettle
    exact takeEvent_set hs hsettle ⟨rfl, rfl⟩ rfl

end Sys2Proof.Machine
end

section
/-! Pen sessions and the button's debounce (R146, R147, R157, R185). -/

namespace Sys2Proof.Machine

set_option Elab.async false

variable {q : Bool} {L M : BitVec 10} {s t u v w e : State} {ρ : Aspect}

/-! ## The paired-pen table (R158) -/

/-- The index found is that of the first entry with the identity. -/
theorem findPen_some_iff (table : Vector PairedPen 4) (identity : Word) (i : Fin 4) :
    findPen table identity = some i ↔ table[i].identity = identity ∧ ∀ j < i, table[j].identity ≠ identity := by
  unfold findPen
  fin_cases i <;> simp only [Fin.forall_fin_succ] <;> split_ifs <;> simp_all <;> decide

theorem findPen_none_iff (table : Vector PairedPen 4) (identity : Word) :
    findPen table identity = none ↔ ∀ i : Fin 4, table[i].identity ≠ identity := by
  unfold findPen
  simp only [Fin.forall_fin_succ]
  split_ifs <;> simp_all

/-- The paired-pen table with the seated pen's entry brought up to date. -/
def State.refreshedTable (s : State) : Vector PairedPen 4 :=
  match s.sessionEntry with
  | none => s.pen.table
  | some i => s.pen.table.set i { identity := s.pen.identity, soc := s.pen.soc, lastSeen := s.now }

theorem Becomes.refreshEntry (s : State) : Becomes q 0 s.refreshEntry { s with pen := { s.pen with table := s.refreshedTable } } := by
  unfold State.refreshEntry State.refreshedTable
  cases s.sessionEntry with
  | none => exact .refl _ s
  | some i => exact .touchWhen _ _

theorem refreshedTable_spec (s : State) : s.tableRefreshed s.pen.identity s.pen.soc s.now s.refreshedTable := by
  unfold State.tableRefreshed State.refreshedTable State.sessionEntry
  refine ⟨fun hnone => ?_, fun i hidentity hi hfirst => ?_⟩
  · by_cases hzero : s.pen.identity = 0
    · rw [if_pos hzero]
    · rw [if_neg hzero, (findPen_none_iff _ _).mpr (hnone.resolve_left hzero)]
  · rw [if_neg hidentity, (findPen_some_iff _ _ _).mpr ⟨hi, hfirst⟩]

/-! ## A PEN demand whose hand-ons are not followed (R155, R165) -/

/-- What the statement of the PEN demand, and whatever it brings, leaves of a state. -/
structure PenTail (x : State) (d : Nat) (t : State) : Prop where
  units : t.keptUnits = x.keptUnits
  demand : t.allot.demand.pen = d
  faults : t.settings.atRest = x.settings.atRest
  state : x.pen.state.charges = false → t.pen.state = x.pen.state ∧ (x.pen.coilPower = 0 → t.pen.coilPower = 0)

theorem keptUnits_penDemand (s : State) (d : Nat) : (s.penDemand d).keptUnits = s.keptUnits := by
  rw [(Becomes.penDemand (q := false) s d).frame]
  have hkept : (s.penDemand d).allot.kept = s.allot.kept := by
    have := kept_penDemand s d
    simp only [State.kept, Prod.mk.injEq] at this
    simp only [Prod.mk.injEq, this, and_self]
  simp only [State.keptUnits, Prod.mk.injEq, hkept]
  simp only [Prod.mk.injEq] at hkept
  simp [hkept, State.withNoise]

theorem ends_penTail {x : State} {d : Nat} {rest : List Task} (h : ((x.setTasks rest).penDemand d).ends s t)
    (hrest : rest.all Task.restful = true) (hq : x.dispatch.queue = []) : PenTail x d t := by
  have htasks : ((x.setTasks rest).penDemand d).tasks.all Task.restful = true := (penDemand_restful _ d).trans hrest
  obtain ⟨hpen, hdispatch, hsettings⟩ := penDemand_pen (x.setTasks rest) d
  have hqueue : ((x.setTasks rest).penDemand d).dispatch.queue = [] := by
    rw [hdispatch]
    exact hq
  obtain ⟨-, -, hfaults⟩ := h.rests (ρ := .pen) htasks hqueue trivial
  refine ⟨(h.keptUnits (restful_calm htasks) hqueue).trans (keptUnits_penDemand _ d),
    (h.penDemand htasks hqueue).trans (congrArg Allotments.pen (penDemand_demand _ d)), hfaults.trans (by rw [hsettings]; rfl), fun hstate => ?_⟩
  have hstill := h.penState htasks hqueue (by rw [hpen]; exact hstate)
  rw [hpen] at hstill
  exact hstill

theorem PenTail.of_becomes {x v : State} {d : Nat} (h : PenTail x d t) (hv : Becomes q L x v) : PenTail v d t := by
  obtain ⟨hunits, hdemand, hfaults, hstate⟩ := h
  rw [hv.frame] at hunits hfaults hstate
  exact ⟨hunits, hdemand, hfaults, hstate⟩

/-- An event that first states the PEN demand. -/
theorem takeEvent_penTail {f : State → State} {d : Nat} {rest : List Task} (hs : s.betweenEvents) (hf : Becomes q L (f s) v)
    (hv : v.tasks = .penDemand d :: rest) (hrest : rest.all Task.restful = true) (hq : v.dispatch.queue = []) :
    ∃ t, takeEvent s f = .next t ∧ PenTail v d t := by
  have htasks : (f s).tasks = .penDemand d :: rest := by
    rw [hf.frame]
    exact hv
  have hqueue : (f s).dispatch.queue = [] := by
    rw [hf.frame]
    exact hq
  obtain ⟨t, hnext, hends⟩ := takeEvent_ends hs (Carried.penDemand htasks)
  exact ⟨t, hnext, (ends_penTail hends hrest hqueue).of_becomes hf⟩

/-! ## Sessions (R147, R157) -/

theorem beginExchange_eq (s : State) :
    s.beginExchange =
      { s with pen := { s.pen with response := if s.pen.response.isSome then s.pen.response else s.start 20 } } := by
  unfold State.beginExchange
  by_cases h : s.pen.response.isSome
  · rw [if_pos h, if_pos h]
  · rw [if_neg h, if_neg h]
    rfl

section
variable (s)

/-- The pen unit as a session begins. -/
def State.begunPen : PenUnit :=
  { s.pen with identity := 0, soc := 0, temperature := 0, retries := 0, state := .identifying
               response := if s.pen.response.isSome then s.pen.response else s.start 20 }

theorem Becomes.beginSession :
    Becomes false 0 s.beginSession
      (State.hand { s with pen := s.begunPen } [.penDemand 0, .activity, .wakeEvent .penInserted]) := by
  have hstate := setPenState_frame (s.updPen fun u => { u with identity := 0, soc := 0, temperature := 0, retries := 0 })
    .identifying 0
  have hexchange := hstate.apply (op := State.beginExchange)
    (g := fun s => { s with pen := { s.pen with response := if s.pen.response.isSome then s.pen.response else s.start 20 } })
    fun w => .of_eq (q := false) (beginExchange_eq w)
  exact hexchange.hand _

/-- The pen unit as a session ends. -/
def State.endedPen : PenUnit :=
  { s.pen with response := none, poll := none, table := s.refreshedTable, coilPower := 0
               confirmDue := s.pen.confirmDue || decide (0 < s.pen.coilPower), state := .absent, identity := 0, soc := 0
               temperature := 0, retries := 0 }

/-- The settings unit with the pen's faults reported inactive. -/
def SettingsUnit.withoutPenFaults (u : SettingsUnit) : SettingsUnit :=
  (u.withFault .penUnresponsive FaultEntry.deactivated).withFault .penBattery FaultEntry.deactivated

theorem Becomes.endSession :
    Becomes false 0 s.endSession
      (State.hand { s with pen := s.endedPen, settings := s.settings.withoutPenFaults }
        [.penDemand 0, .activity, .wakeEvent .penRemoved]) := by
  have hentry := (Becomes.refreshEntry (q := false) (s.updPen fun u => { u with response := none, poll := none })).blind
    (blind_setCoilPower 0)
  have hquiet := hentry.apply (op := fun s => s.reportInactive .penUnresponsive)
    (g := fun s => { s with settings := s.settings.withFault .penUnresponsive FaultEntry.deactivated })
    fun w => .reportInactive w _
  have hsound := hquiet.apply (op := fun s => s.reportInactive .penBattery)
    (g := fun s => { s with settings := s.settings.withFault .penBattery FaultEntry.deactivated })
    fun w => .reportInactive w _
  have hstate := hsound.apply (op := fun s => s.setPenState .absent 6) (g := fun s => { s with pen := { s.pen with state := .absent } })
    fun w => setPenState_frame w _ _
  exact (hstate.blind (blind_updPen fun u => { u with identity := 0, soc := 0, temperature := 0, retries := 0 })).hand _

/-- The state after a settled PEN_IN, with what it hands on. -/
def State.penSettled : State :=
  State.hand
    { s with
      pen := if s.pen.penIn.line then (s.updPen fun u => { u with penIn := u.penIn.settle }).begunPen
             else (s.updPen fun u => { u with penIn := u.penIn.settle }).endedPen
      settings := if s.pen.penIn.line then s.settings else s.settings.withoutPenFaults }
    [.penDemand 0, .activity, .wakeEvent (if s.pen.penIn.line then .penInserted else .penRemoved)]

theorem Becomes.penInSettle : Becomes false 0 s.penInSettle s.penSettled := by
  have hlevel : (s.updPen fun u => { u with penIn := u.penIn.settle }).pen.penIn.level = s.pen.penIn.line := rfl
  unfold State.penInSettle State.penSettled
  dsimp only
  rw [hlevel]
  cases s.pen.penIn.line with
  | true => exact .beginSession _
  | false => exact .endSession _

end

theorem exec_penIn (s : State) (e : PartTime) (hs : s.betweenEvents) (htimer : s.pen.penIn.timer = some e) :
    exec .penInDebounceExpiry s = takeEvent s fun u => (u.setNow (s.reach e).now).penInSettle :=
  takeEvent_expiry hs (x := fun s => s.pen.penIn.timer) (g := State.penInSettle) htimer

/-- A settled PEN_IN with the host SLEEPING and nothing drawn. -/
theorem penIn_wakes (s : State) (now : PartTime) (hs : s.betweenEvents) (hhost : s.hostOn = false) (hn : s.nothingDraws) :
    ∃ t, takeEvent s (fun u => (u.setNow now).penInSettle) = .next t ∧
      t.sleep = s.wokenBy (if s.pen.penIn.line then .penInserted else .penRemoved) now := by
  obtain ⟨v, hv⟩ : ∃ v, v = (s.setNow now).penSettled := ⟨_, rfl⟩
  generalize hw : (if s.pen.penIn.line = true then WakeSource.penInserted else .penRemoved) = w
  have hvtasks : v.tasks = .penDemand 0 :: .activity :: .wakeEvent w :: s.tasks := by
    rw [hv, ← hw]
    rfl
  have hvsleep : v.sleep = s.sleep := by
    rw [hv]
    rfl
  have hvn : v.nothingDraws := by
    rw [hv]
    exact hn
  have hvhost : v.hostOn = false := by
    rw [hv]
    exact hhost
  have hvnow : v.now = now := by
    rw [hv]
    rfl
  have hdemand : v.allot.demand.pen = 0 := by
    obtain ⟨hdemand, -⟩ := hvn
    rw [hdemand]
  have hask := Leads.penDemandHeld hvtasks hdemand
  have hactivity := Leads.activityAsleep (q := false)
    (s := { v with pen := v.grantedPen, tasks := .activity :: .wakeEvent w :: s.tasks }) rfl hvhost
  obtain ⟨k, hk, x, hwake, hxtasks, hxsleep, -⟩ := Leads.wakeEvent
    (s := { v with pen := v.grantedPen, tasks := .wakeEvent w :: s.tasks }) rfl hvhost hvn
  obtain ⟨t, hnext, hframe, -⟩ := takeEvent_leads (f := fun u => (u.setNow now).penInSettle) hs
    (hv ▸ Becomes.penInSettle (s.setNow now)) (by rw [hv]; exact ⟨rfl, rfl, rfl⟩) ((hask.next hactivity).next hwake)
    (hxtasks.trans hs.1) (by omega)
  have hsleep := congrArg State.sleep hframe
  refine ⟨t, hnext, hsleep.trans (hxsleep.trans ?_)⟩
  unfold State.wokenBy
  dsimp only
  rw [hvsleep, hvnow]

/-- A settled PEN_IN, whatever its withdrawn demand brings. -/
theorem penIn_settles (s : State) (now : PartTime) (hs : s.betweenEvents) (hq : s.dispatch.queue = []) :
    ∃ t, takeEvent s (fun u => (u.setNow now).penInSettle) = .next t ∧ PenTail (s.setNow now).penSettled 0 t := by
  have hbecomes := Becomes.penInSettle (s.setNow now)
  refine takeEvent_penTail (rest := .activity :: .wakeEvent (if s.pen.penIn.line then .penInserted else .penRemoved) :: s.tasks) hs
    hbecomes rfl ?_ hq
  rw [hs.1]
  rfl

/-! ## The power button (R185) -/

section
variable (s)

/-- The state with the debounced button level taken. -/
def State.buttonTaken : State := { s with sleep := { s.sleep with button := s.sleep.button.settle } }

theorem buttonSettle_quiet (h : s.sleep.button.line = false ∨ s.sleep.button.level = true) : s.buttonSettle = s.buttonTaken := by
  refine if_neg fun ⟨hline, hlevel⟩ => ?_
  rcases h with h | h
  · exact Bool.noConfusion (h.symm.trans hline)
  · exact Bool.noConfusion (hlevel.symm.trans h)

variable (hline : s.sleep.button.line = true) (hlevel : s.sleep.button.level = false)
include hline hlevel

theorem buttonSettle_on (hhost : s.hostOn = true) :
    s.buttonSettle = (s.buttonTaken.offerNotice .powerButton 0 0 0 0).hand [.activity] :=
  (if_pos ⟨hline, hlevel⟩).trans (if_pos hhost)

theorem buttonSettle_asleep (hhost : s.hostOn = false) : s.buttonSettle = s.buttonTaken.hand [.wakeEvent .powerButton] :=
  (if_pos ⟨hline, hlevel⟩).trans (if_neg (by
    show ¬ s.hostOn = true
    rw [hhost]
    decide))

end

/-- A wake event reads nothing of the button. -/
theorem wokenBy_button {u s : State} {b : DebouncedLine} (h : u.sleep = { s.sleep with button := b }) (w : WakeSource)
    (now : PartTime) : u.wokenBy w now = { s.wokenBy w now with button := b } := by
  unfold State.wokenBy
  rw [h]
  dsimp only
  by_cases hmask : s.sleep.wakeMask.getLsbD w.bit
  · by_cases hpower : s.sleep.power = .active
    · by_cases hwake : s.sleep.wake = false ∧ s.sleep.answerTimer = none ∧ s.sleep.gapTimer = none
      · simp only [if_pos hmask, if_pos hpower, if_pos hwake]
      · simp only [if_pos hmask, if_pos hpower, if_neg hwake]
    · by_cases hwake : s.sleep.wake = false ∧ s.sleep.answerTimer = none ∧ s.sleep.gapTimer = none
      · simp only [if_pos hmask, if_neg hpower, if_pos hwake]
      · simp only [if_pos hmask, if_neg hpower, if_neg hwake]
  · simp only [if_neg hmask]

theorem exec_button (s : State) (e : PartTime) (hs : s.betweenEvents) (htimer : s.sleep.button.timer = some e) :
    exec .powerButtonDebounceExpiry s = takeEvent s fun u => (u.setNow (s.reach e).now).buttonSettle :=
  takeEvent_expiry hs (x := fun s => s.sleep.button.timer) (g := State.buttonSettle) htimer

section
variable {now : PartTime} (hs : s.betweenEvents) (hline : s.sleep.button.line = true) (hlevel : s.sleep.button.level = false)
include hs hline hlevel

/-- A press with the host ON is noticed and is activity. -/
theorem button_active (hhost : s.hostOn = true) :
    ∃ t, takeEvent s (fun u => (u.setNow now).buttonSettle) = .next t ∧ t.now = now ∧
      t.sleep = { s.sleep with
                  button := s.sleep.button.settle, idle := (s.setNow now).idleRestarted.1
                  idleShown := (s.setNow now).idleRestarted.2
                  advice := if s.sleep.advice = .idle then .none else s.sleep.advice } := by
  have hpress : (s.setNow now).buttonSettle =
      ((s.setNow now).buttonTaken.offerNotice .powerButton 0 0 0 0).hand [.activity] :=
    buttonSettle_on (s.setNow now) hline hlevel hhost
  obtain ⟨t, hnext, hframe, -⟩ := takeEvent_leads (f := fun u => (u.setNow now).buttonSettle)
    (u := (s.setNow now).buttonTaken.hand [.activity]) hs (hpress ▸ (Becomes.offerNotice _ _ _ _ _ _).hand _) ⟨rfl, rfl, rfl⟩
    (Leads.activity rfl) hs.1
  have hnow := congrArg State.now hframe
  have hsleep := (congrArg State.sleep hframe).trans (if_pos hhost)
  exact ⟨t, hnext, hnow, hsleep⟩

/-- A press with the host SLEEPING is a wake event. -/
theorem button_wakes (hhost : s.hostOn = false) (hn : s.nothingDraws) :
    ∃ t, takeEvent s (fun u => (u.setNow now).buttonSettle) = .next t ∧
      t.sleep = { s.wokenBy .powerButton now with button := s.sleep.button.settle } := by
  have hpress : (s.setNow now).buttonSettle = (s.setNow now).buttonTaken.hand [.wakeEvent .powerButton] :=
    buttonSettle_asleep (s.setNow now) hline hlevel hhost
  obtain ⟨k, hk, x, hwake, hxtasks, hxsleep, -⟩ := Leads.wakeEvent (w := .powerButton) (rest := s.tasks)
    (s := (s.setNow now).buttonTaken.hand [.wakeEvent .powerButton]) rfl hhost hn
  obtain ⟨t, hnext, hframe, -⟩ := takeEvent_leads (f := fun u => (u.setNow now).buttonSettle) hs
    (Becomes.of_eq (q := false) hpress) ⟨rfl, rfl, rfl⟩ hwake (hxtasks.trans hs.1) (by omega)
  have hsleep := congrArg State.sleep hframe
  exact ⟨t, hnext, hsleep.trans (hxsleep.trans (wokenBy_button (s := s) (b := s.sleep.button.settle) rfl .powerButton now))⟩

end

/-- A settled button leaves its level, whatever it wakes. -/
theorem button_settles (s : State) (now : PartTime) (hs : s.betweenEvents) (hq : s.dispatch.queue = []) :
    ∃ t, takeEvent s (fun u => (u.setNow now).buttonSettle) = .next t ∧ t.now = now ∧ t.sleep.button = s.sleep.button.settle := by
  obtain ⟨t, hnext, hends⟩ := takeEvent_ends (f := fun u => (u.setNow now).buttonSettle) (k := 0) hs (.refl _)
  have hsettled : (s.setNow now).buttonSettle.tasks.all Task.calm = true ∧ (s.setNow now).buttonSettle.dispatch.queue = [] ∧
      (s.setNow now).buttonSettle.now = now ∧ (s.setNow now).buttonSettle.sleep.button = s.sleep.button.settle := by
    by_cases hquiet : s.sleep.button.line = false ∨ s.sleep.button.level = true
    · rw [buttonSettle_quiet (s.setNow now) hquiet]
      refine ⟨?_, hq, rfl, rfl⟩
      show s.tasks.all _ = true
      rw [hs.1]
      rfl
    obtain ⟨hline, hlevel⟩ : s.sleep.button.line = true ∧ s.sleep.button.level = false := by simpa using hquiet
    cases hhost : s.hostOn with
    | true =>
      rw [buttonSettle_on (s.setNow now) hline hlevel hhost, (Becomes.offerNotice (s.setNow now).buttonTaken _ _ _ _ _).frame]
      refine ⟨?_, hq, rfl, rfl⟩
      show List.all (_ :: s.tasks) _ = true
      rw [hs.1]
      rfl
    | false =>
      rw [buttonSettle_asleep (s.setNow now) hline hlevel hhost]
      refine ⟨?_, hq, rfl, rfl⟩
      show List.all (_ :: s.tasks) _ = true
      rw [hs.1]
      rfl
  obtain ⟨htasks, hqueue, hnow, hbutton⟩ := hsettled
  have hunits := hends.keptUnits htasks hqueue
  simp only [State.keptUnits, Prod.mk.injEq] at hunits
  obtain ⟨hnowt, -, -, -, -, -, -, -, ⟨-, -, -, -, hbuttont⟩, -⟩ := hunits
  exact ⟨t, hnext, hnowt.trans hnow, hbuttont.trans hbutton⟩

/-! ## LID_CLOSED (R49) -/

theorem exec_lidClosed_settles (s : State) (e : PartTime) (hs : s.betweenEvents) (hq : s.dispatch.queue = [])
    (htimer : s.sensor.lidClosed.timer = some e) :
    ∃ t, exec (.hallDebounceExpiry .lidClosed) s = .next t ∧ t.now = (s.reach e).now ∧
      t.sensor.lidClosed = s.sensor.lidClosed.settle ∧
      (s.hostOn = false → s.nothingDraws → s.sensor.lidClosed.line = false → s.sensor.lidClosed.level = true →
        t.sleep = s.wokenBy .lidOpen t.now) := by
  have hexpiry := takeEvent_expiry hs (x := fun s => (s.sensor.hall .lidClosed).timer) (g := fun s => s.hallSettle .lidClosed) htimer
  generalize (s.reach e).now = now at hexpiry
  have hsettle := hallSettle_lidClosed (s.setNow now)
  by_cases hopened : s.sensor.lidClosed.level = true ∧ s.sensor.lidClosed.line = false
  · rw [show (if (s.setNow now).sensor.lidClosed.level = true ∧ (s.setNow now).sensor.lidClosed.line = false then _ else _) = _
      from if_pos hopened] at hsettle
    obtain ⟨t, hnext, hends⟩ := takeEvent_ends (f := fun u => (u.setNow now).hallSettle .lidClosed) (k := 0) hs (.refl _)
    rw [hsettle] at hends
    have hunits := hends.keptUnits (by
      show List.all (_ :: s.tasks) _ = true
      rw [hs.1]
      rfl) hq
    simp only [State.keptUnits, Prod.mk.injEq] at hunits
    obtain ⟨hnowt, -, ⟨hlidt, -⟩, -⟩ := hunits
    refine ⟨t, hexpiry.trans hnext, hnowt, hlidt, fun hhost hn _ _ => ?_⟩
    obtain ⟨k, hk, x, hwake, hxtasks, hxsleep, -⟩ := Leads.wakeEvent (w := .lidOpen) (rest := s.tasks)
      (s := State.hand { s.setNow now with sensor := { s.sensor with lidClosed := s.sensor.lidClosed.settle } } [.wakeEvent .lidOpen])
      rfl hhost hn
    obtain ⟨t', hnext', hframe, -⟩ := takeEvent_leads (f := fun u => (u.setNow now).hallSettle .lidClosed) hs
      (Becomes.of_eq (q := false) hsettle) ⟨rfl, rfl, rfl⟩ hwake (hxtasks.trans hs.1) (by omega)
    cases hnext.symm.trans hnext'
    have hsleep := congrArg State.sleep hframe
    refine hsleep.trans (hxsleep.trans ?_)
    rw [hnowt]
    rfl
  · have hquiet : s.hostOn = true ∨ s.sensor.lidClosed.line = true ∨ s.sensor.lidClosed.level = false := by
      rw [not_and_or] at hopened
      simpa [or_comm] using Or.inr (a := s.hostOn = true) hopened
    rw [show (if (s.setNow now).sensor.lidClosed.level = true ∧ (s.setNow now).sensor.lidClosed.line = false then _ else _) = _
      from if_neg hopened] at hsettle
    refine ⟨_, hexpiry.trans (takeEvent_set hs hsettle ⟨rfl, rfl⟩ rfl), rfl, rfl, fun _ _ hline hlevel => absurd ⟨hlevel, hline⟩ hopened⟩

end Sys2Proof.Machine
end

section
/-! The debounced lines together (R48, R126, R146, R147, R157, R182, R183, R185). -/

namespace Sys2Proof.Machine

set_option Elab.async false

/-- A change of a debounced line, as an event that the board does not show. -/
theorem exec_lineChanges (s : State) (level : Bool) (hs : s.betweenEvents) :
    exec (.hallLineChange .lidClosed level) s =
        .next { s with sensor := { s.sensor with lidClosed := s.sensor.lidClosed.changed level s.isRunning (s.start 20) } } ∧
      exec (.hallLineChange .foldBack level) s =
        .next { s with sensor := { s.sensor with foldBack := s.sensor.foldBack.changed level s.isRunning (s.start 20) } } ∧
      exec (.detectLineChange level) s =
        .next { s with attach := { s.attach with detect := s.attach.detect.changed level s.isRunning (s.start 50) } } ∧
      exec (.penInLineChange level) s =
        .next { s with pen := { s.pen with penIn := s.pen.penIn.changed level s.isRunning (s.start 100) } } ∧
      exec (.powerButtonLineChange level) s =
        .next { s with sleep := { s.sleep with button := s.sleep.button.changed level s.isRunning (s.start 30) } } :=
  ⟨takeEvent_set hs (hallChange_lidClosed s level) ⟨rfl, rfl⟩ rfl, takeEvent_set hs (hallChange_foldBack s level) ⟨rfl, rfl⟩ rfl,
    takeEvent_set hs (detectChange_eq s level) ⟨rfl, rfl⟩ rfl, takeEvent_set hs (penInChange_eq s level) ⟨rfl, rfl⟩ rfl,
    takeEvent_set hs (buttonChange_eq s level) ⟨rfl, rfl⟩ rfl⟩

section
variable {s : State} {e : PartTime} (hs : s.betweenEvents) (hq : s.dispatch.queue = [])
include hs

theorem exec_foldBack (htimer : s.sensor.foldBack.timer = some e) :
    exec (.hallDebounceExpiry .foldBack) s = .next
      { s with now := (s.reach e).now, sensor := { s.sensor with foldBack := s.sensor.foldBack.settle } } :=
  (takeEvent_expiry hs (x := fun s => (s.sensor.hall .foldBack).timer) (g := fun s => s.hallSettle .foldBack) htimer).trans
    (takeEvent_set hs (hallSettle_foldBack (s.setNow (s.reach e).now)) ⟨rfl, rfl⟩ rfl)

/-- With no press the button's level is taken, and that is all. -/
theorem exec_button_quiet (htimer : s.sleep.button.timer = some e)
    (h : s.sleep.button.line = false ∨ s.sleep.button.level = true) :
    exec .powerButtonDebounceExpiry s = .next
      { s with now := (s.reach e).now, sleep := { s.sleep with button := s.sleep.button.settle } } :=
  (exec_button s e hs htimer).trans
    (takeEvent_set hs (buttonSettle_quiet (s.setNow (s.reach e).now) h) ⟨rfl, rfl⟩ rfl)

include hq

/-- A settled PEN_IN leaves the pen of the session that begins or has ended. -/
theorem exec_penIn_settles (htimer : s.pen.penIn.timer = some e) :
    ∃ t, exec .penInDebounceExpiry s = .next t ∧ t.now = (s.reach e).now ∧
      t.pen.penIn = { line := s.pen.penIn.line, level := s.pen.penIn.line, timer := none } ∧
      t.pen.identity = 0 ∧ t.pen.soc = 0 ∧ t.pen.temperature = 0 ∧ t.pen.retries = 0 ∧ t.allot.demand.pen = 0 ∧
      (s.pen.penIn.line = true →
        t.pen.state = .identifying ∧
          t.pen.response = (if s.pen.response.isSome then s.pen.response else some ((s.reach e).after 20))) ∧
      (s.pen.penIn.line = false →
        t.pen.state = .absent ∧ t.pen.response = none ∧ t.pen.poll = none ∧ t.pen.coilPower = 0 ∧
          (t.faultEntry .penUnresponsive).active = false ∧ (t.faultEntry .penBattery).active = false ∧
          s.tableRefreshed s.pen.identity s.pen.soc t.now t.pen.table) := by
  rw [exec_penIn s e hs htimer]
  have hafter : (s.reach e).after 20 = (s.setNow (s.reach e).now).after 20 := by
    rw [← reach_frame]
  rw [hafter]
  generalize (s.reach e).now = now
  obtain ⟨t, hnext, hunits, hdemand, hfaults, hstate⟩ := penIn_settles s now hs hq
  simp only [State.keptUnits, Prod.mk.injEq] at hunits
  obtain ⟨hnow, -, -, -, -, -, ⟨hpenIn, hidentity, hsoc, htemperature, hretries, hresponse, hpoll, -, htable⟩, -⟩ := hunits
  cases hline : s.pen.penIn.line with
  | true =>
    have hpen : (s.setNow now).penSettled.pen = ((s.setNow now).updPen fun u => { u with penIn := u.penIn.settle }).begunPen :=
      if_pos hline
    rw [hpen] at hpenIn hidentity hsoc htemperature hretries hresponse hstate
    refine ⟨t, hnext, hnow, hpenIn.trans ?_, hidentity, hsoc, htemperature, hretries, hdemand,
      fun _ => ⟨(hstate rfl).1, hresponse⟩, (fun e => by cases e)⟩
    rw [← hline]
    rfl
  | false =>
    have hpen : (s.setNow now).penSettled.pen = ((s.setNow now).updPen fun u => { u with penIn := u.penIn.settle }).endedPen :=
      if_neg (by
        show ¬ s.pen.penIn.line = true
        rw [hline]
        decide)
    have hsettings : (s.setNow now).penSettled.settings = s.settings.withoutPenFaults :=
      if_neg (by
        show ¬ s.pen.penIn.line = true
        rw [hline]
        decide)
    rw [hpen] at hpenIn hidentity hsoc htemperature hretries hresponse hstate hpoll htable
    rw [hsettings] at hfaults
    obtain ⟨habsent, hcoil⟩ := hstate rfl
    simp only [SettingsUnit.atRest, Prod.mk.injEq] at hfaults
    obtain ⟨-, -, -, -, hunresponsive, hbattery, -⟩ := hfaults
    refine ⟨t, hnext, hnow, hpenIn.trans ?_, hidentity, hsoc, htemperature, hretries, hdemand, (fun e => by cases e),
      fun _ => ⟨habsent, hresponse, hpoll, hcoil rfl, ?_, ?_, ?_⟩⟩
    · rw [← hline]
      rfl
    · refine (congrArg FaultEntry.active hunresponsive).trans ?_
      unfold SettingsUnit.withoutPenFaults SettingsUnit.withFault
      simp only [FaultKind.index]
      exact (congrArg FaultEntry.active (by simp)).trans (deactivated_inactive s.settings.faults[5])
    · refine (congrArg FaultEntry.active hbattery).trans ?_
      exact (congrArg FaultEntry.active (withFault_entry _ .penBattery _)).trans (deactivated_inactive _)
    · rw [htable, hnow]
      exact refreshedTable_spec ((s.setNow now).updPen fun u => { u with penIn := u.penIn.settle, response := none, poll := none })

end

/-- Settles O43: the five changes and the four expiries, each up to what its wake event or its session brings. -/
theorem debouncedLines : Obligations.DebouncedLines := by
  unfold Obligations.DebouncedLines
  refine ⟨fun s level hs => ?_, fun s e hs hq => ⟨fun htimer => ?_, fun htimer => exec_foldBack hs htimer, fun htimer => ?_,
    fun htimer => ?_⟩⟩
  · have hchanges := exec_lineChanges s level hs
    simp only [changed_eq] at hchanges
    exact hchanges
  · obtain ⟨t, hnext, hnow, hlid, hwakes⟩ := exec_lidClosed_settles s e hs hq htimer
    refine ⟨t, hnext, hnow, hlid, fun hquiet => ?_, hwakes⟩
    cases hnext.symm.trans (exec_lidClosed_quiet s e hs htimer hquiet)
    rfl
  · obtain ⟨t, hnext, hnow, hpenIn, hidentity, hsoc, htemperature, hretries, hdemand, hbegun, hended⟩ :=
      exec_penIn_settles hs hq htimer
    refine ⟨t, hnext, hnow, hpenIn, hidentity, hsoc, htemperature, hretries, hdemand, hbegun, hended, fun hhost hn => ?_⟩
    obtain ⟨t', hnext', hsleep⟩ := penIn_wakes s (s.reach e).now hs hhost hn
    cases ((exec_penIn s e hs htimer).symm.trans hnext).symm.trans hnext'
    rw [hnow]
    exact hsleep
  · obtain ⟨t, hnext, hnow, hbutton⟩ := button_settles s (s.reach e).now hs hq
    refine ⟨t, (exec_button s e hs htimer).trans hnext, hnow, hbutton, fun hhost hline hlevel => ?_, fun hquiet => ?_,
      fun hhost hn hline hlevel => ?_⟩
    · obtain ⟨t', hnext', -, hsleep⟩ := button_active (now := (s.reach e).now) hs hline hlevel hhost
      cases hnext.symm.trans hnext'
      rw [hsleep, hnow]
      exact ⟨rfl, rfl, rfl⟩
    · cases ((exec_button s e hs htimer).trans hnext).symm.trans (exec_button_quiet hs htimer hquiet)
      rfl
    · obtain ⟨t', hnext', hsleep⟩ := button_wakes (now := (s.reach e).now) hs hline hlevel hhost hn
      cases hnext.symm.trans hnext'
      rw [hnow, hbutton]
      exact hsleep

end Sys2Proof.Machine
end

section
/-! CALIBRATE_HINGE (R77 to R82). -/

namespace Sys2Proof.Machine

set_option Elab.async false

/-! ## A unit that finishes -/

/-- A unit that finishes the request it serves, whatever waits to be handed on. -/
theorem finishUnit_finished (s : State) (u : ServingUnit) (n : Fin 32) (code : ResultCode) (detail : Nat) (words : List Word)
    (hserving : s.servingSlot u = some n) (hstate : s.slotState n = .taken false) :
    s.finishUnit u code detail words = (s.finishedSlot u n code detail words).setTasks (s.tasks ++ [.considerQueue]) := by
  rw [finishUnit_serving s u n code detail words hserving hstate]
  simp only [State.finishedSlot, State.handLast, State.setServing, State.setSlot, State.latch, State.writeResult,
    State.setMem, State.updDispatch, State.updPort, State.setTasks]

/-- What a finished request shows, and what finishing leaves alone. -/
structure Finished (s : State) (u : ServingUnit) (n : Fin 32) (code : ResultCode) (detail : Nat) (words : List Word)
    (t : State) : Prop where
  answered : t.answered n code detail
  shown : ∀ i : Fin 4, ∀ h : i.val < words.length, t.resultWord n i = (words[i.val]'h).toNat
  idle : t.servingSlot u = none
  angle : t.angle = s.angle

theorem finishUnit_shows (s : State) (u : ServingUnit) (n : Fin 32) (code : ResultCode) (detail : Nat) (words : List Word)
    (hserving : s.servingSlot u = some n) (hstate : s.slotState n = .taken false) (hm : MemoryCanonical s)
    (hd : detail < 65536) : Finished s u n code detail words (s.finishUnit u code detail words) := by
  obtain ⟨hanswered, hshown⟩ := finishedSlot_answered s u n code detail words hm hd
  rw [finishUnit_finished s u n code detail words hserving hstate]
  exact ⟨hanswered, hshown, by simp [State.servingSlot, State.setTasks, State.finishedSlot], rfl⟩

/-! ## The request -/

/-- A collection begun (R77), with nothing left to hand on. -/
def State.collecting (s : State) : State :=
  { s with angle := { s.angle with calibration := some { run := 0, sum := 0, sets := 0 } }, tasks := [] }

theorem collecting_carried (s : State) (n : Fin 32) (htasks : s.tasks = [.considerQueue]) (hqueue : s.dispatch.queue = []) :
    Carried 1 (s.serve n .calibrateHinge) s.collecting :=
  Carried.front_eq (s := s.serve n .calibrateHinge) htasks (considerQueue_idle s.collecting hqueue)

/-- What a state in which CALIBRATE_HINGE is taken makes of its collection. -/
theorem collecting_taken {s v : State} {n : Fin 32} (hs : s.sound) (hqueue : s.dispatch.queue = [])
    (hmem : s.slotOnly v n)
    (hdispatch : v.dispatch =
      { slots := s.dispatch.slots.set n (.taken false), queue := []
        serving := s.dispatch.serving.set ServingUnit.angle.index (some n) })
    (hv : v = { s with mem := v.mem, dispatch := v.dispatch, tasks := v.tasks }) :
    let t := v.collecting.closeBoard s
    t.slotState n = .taken false ∧ t.servingSlot .angle = some n ∧
      t.dispatch = { s.dispatch with
                     slots := s.dispatch.slots.set n (.taken false)
                     serving := s.dispatch.serving.set ServingUnit.angle.index (some n) } ∧
      t.angle = { s.angle with calibration := some { run := 0, sum := 0, sets := 0 } } ∧ s.slotOnly t n ∧
      t = { s with mem := t.mem, dispatch := t.dispatch, port := t.port, angle := t.angle } ∧
      PortUnit.sameButBoard s.port t.port := by
  have hport : v.port = s.port := by
    rw [hv]
  have hangle : v.angle = s.angle := by
    rw [hv]
  have hboard : v.collecting.boardWords = s.boardWords := by
    rw [hv]
    rfl
  have hsame : v.collecting.closeBoard s = v.collecting :=
    closeBoard_same _ s ((congrArg PortUnit.boardTouched hport).trans hs.1.2) hboard
  rw [hsame]
  refine ⟨?_, ?_, ?_, ?_, hmem, ?_, ?_⟩
  · simp [State.slotState, State.collecting, hdispatch]
  · simp [State.servingSlot, State.collecting, hdispatch]
  · show v.dispatch = _
    rw [hdispatch, ← hqueue]
  · show ({ v.angle with calibration := _ } : AngleUnit) = _
    rw [hangle]
  · have hframe (m : Memory) (d : Dispatcher) (ts : List Task) :
        State.collecting { s with mem := m, dispatch := d, tasks := ts } =
          { s with mem := m, dispatch := d
                   angle := { s.angle with calibration := some { run := 0, sum := 0, sets := 0 } } } := by
      unfold State.collecting
      rw [← hs.1.1]
    refine (congrArg State.collecting hv).trans ((hframe _ _ _).trans ?_)
    show _ = { s with mem := v.mem, dispatch := v.dispatch, port := v.port
                      angle := { v.angle with calibration := some { run := 0, sum := 0, sets := 0 } } }
    rw [hport, hangle]
  · show v.port = { s.port with updateCount := v.port.updateCount, boardTime := v.port.boardTime }
    rw [hport]

theorem calibrateHinge_taken (s : State) (n : Fin 32) (tag : Half) (hs : s.sound) (h : s.takesAtOnce n .angle) :
    ∃ t, exec (.calibrateHinge n tag) s = .next t ∧ t.slotState n = .taken false ∧ t.servingSlot .angle = some n ∧
      t.dispatch = { s.dispatch with
                     slots := s.dispatch.slots.set n (.taken false)
                     serving := s.dispatch.serving.set ServingUnit.angle.index (some n) } ∧
      t.angle = { s.angle with calibration := some { run := 0, sum := 0, sets := 0 } } ∧ s.slotOnly t n ∧
      t = { s with mem := t.mem, dispatch := t.dispatch, port := t.port, angle := t.angle } ∧
      PortUnit.sameButBoard s.port t.port :=
  ⟨_, exec_request (r := .calibrateHinge) (k := 1) (tag := tag) (ps := []) hs h (collecting_carried _ n rfl rfl) rfl,
    collecting_taken hs h.2.2.2.1 (taken_get_ne s hs.2 n .calibrateHinge tag [] (by simp)) (by simp only [State.taken, Request.servedBy])
      (by simp only [State.taken])⟩

/-! ## The end of a collection -/

theorem correctionFor_eq (mean : Int) (h : -512 ≤ mean) :
    correctionFor mean = if mean = -512 then 511 else -mean := by
  unfold correctionFor
  split <;> omega

/-- A collection whose mean is within range sets the correction (R78). -/
theorem completeCalibration_ok (s : State) (sum : Int) (h : -512 ≤ (sum + 16) / 32 ∧ (sum + 16) / 32 ≤ 512) :
    s.completeCalibration sum =
      State.finishUnit
        { s with angle := { s.angle with calibration := none, correction := correctionFor ((sum + 16) / 32) } }
        .angle .ok 0 [wordOfInt (correctionFor ((sum + 16) / 32)), wordOfInt sum, wordOfInt s.angle.correction] := if_pos h

/-- A collection whose mean is out of range is refused NOT_CLOSED (R78). -/
theorem completeCalibration_refused (s : State) (sum : Int) (h : ¬ (-512 ≤ (sum + 16) / 32 ∧ (sum + 16) / 32 ≤ 512)) :
    s.completeCalibration sum =
      State.finishUnit { s with angle := { s.angle with calibration := none } } .angle .badParameter 3
        [0, wordOfInt sum, wordOfInt s.angle.correction] := if_neg h

theorem calibration_completes (s : State) (n : Fin 32) (sum : Int) (hm : MemoryCanonical s) (hserving : s.servingSlot .angle = some n)
    (hstate : s.slotState n = .taken false) :
    let mean := (sum + 16) / 32
    let t := s.completeCalibration sum
    t.angle.calibration = none ∧ t.servingSlot .angle = none ∧
      (-512 ≤ mean → mean ≤ 512 →
        t.angle.correction = (if mean = -512 then 511 else -mean) ∧ t.answered n .ok 0 ∧
        t.resultWord n 0 = (BitVec.ofInt 32 t.angle.correction).toNat ∧
        t.resultWord n 1 = (BitVec.ofInt 32 sum).toNat ∧
        t.resultWord n 2 = (BitVec.ofInt 32 s.angle.correction).toNat) ∧
      (mean < -512 ∨ 512 < mean →
        t.angle.correction = s.angle.correction ∧ t.answered n .badParameter 3 ∧
        t.resultWord n 1 = (BitVec.ofInt 32 sum).toNat ∧
        t.resultWord n 2 = (BitVec.ofInt 32 s.angle.correction).toNat) := by
  intro mean t
  by_cases h : -512 ≤ (sum + 16) / 32 ∧ (sum + 16) / 32 ≤ 512
  · have hshows := finishUnit_shows
      { s with angle := { s.angle with calibration := none, correction := correctionFor ((sum + 16) / 32) } }
      .angle n .ok 0 [wordOfInt (correctionFor ((sum + 16) / 32)), wordOfInt sum, wordOfInt s.angle.correction]
      hserving hstate hm (by decide)
    rw [← completeCalibration_ok s sum h] at hshows
    obtain ⟨hanswered, hshown, hidle, hangle⟩ := hshows
    have hcorrection : t.angle.correction = correctionFor mean := congrArg AngleUnit.correction hangle
    refine ⟨congrArg AngleUnit.calibration hangle, hidle, fun _ _ => ⟨?_, hanswered, ?_, hshown 1 (by simp), hshown 2 (by simp)⟩,
      fun hout => by omega⟩
    · rw [hcorrection, correctionFor_eq mean h.1]
    · rw [hcorrection]
      exact hshown 0 (by simp)
  · have hshows := finishUnit_shows { s with angle := { s.angle with calibration := none } } .angle n .badParameter 3
      [0, wordOfInt sum, wordOfInt s.angle.correction] hserving hstate hm (by decide)
    rw [← completeCalibration_refused s sum h] at hshows
    obtain ⟨hanswered, hshown, hidle, hangle⟩ := hshows
    have hcorrection := congrArg AngleUnit.correction hangle
    exact ⟨congrArg AngleUnit.calibration hangle, hidle, fun hlow hhigh => absurd ⟨hlow, hhigh⟩ h,
      fun _ => ⟨hcorrection, hanswered, hshown 1 (by simp), hshown 2 (by simp)⟩⟩

/-! ## A set in a collection -/

/-- The collection after a set: its run, its sum and its sets (R77). -/
def State.collected (s : State) (run : Nat) (sum : Int) (sets : Nat) : State :=
  { s with angle := { s.angle with calibration := some { run := run, sum := sum, sets := sets } } }

section
variable (s : State) (c : Calibration) (r : AngleResult) (hc : s.angle.calibration = some c)
include hc

theorem calibrateSet_unavailable (hq : s.angle.quality = .unavailable) :
    s.calibrateSet r = (s.collected c.run c.sum (c.sets + 1)).failCalibration (if r.loss = .base then 1 else 2) := by
  unfold State.calibrateSet
  rw [hc]
  simp only [hq]
  cases hloss : r.loss <;> rfl

theorem calibrateSet_good (hq : s.angle.quality = .good) :
    s.calibrateSet r =
      if c.run + 1 = 32 then
        (s.collected (c.run + 1) (c.sum + uncorrected r.difference s.angle.correction) (c.sets + 1)).completeCalibration
          (c.sum + uncorrected r.difference s.angle.correction)
      else if c.sets + 1 = 200 then
        (s.collected (c.run + 1) (c.sum + uncorrected r.difference s.angle.correction) (c.sets + 1)).failCalibration 2
      else s.collected (c.run + 1) (c.sum + uncorrected r.difference s.angle.correction) (c.sets + 1) := by
  unfold State.calibrateSet
  rw [hc]
  simp only [hq]
  rfl

theorem calibrateSet_held (hq : s.angle.quality = .held ∨ s.angle.quality = .hall) :
    s.calibrateSet r =
      if c.sets + 1 = 200 then (s.collected 0 0 (c.sets + 1)).failCalibration 2 else s.collected 0 0 (c.sets + 1) := by
  unfold State.calibrateSet
  rw [hc]
  rcases hq with hq | hq <;> simp only [hq] <;> rfl

end

/-- What the collection held is gone once it completes. -/
theorem collected_complete (s : State) (run sets : Nat) (sum total : Int) :
    (s.collected run sum sets).completeCalibration total = s.completeCalibration total := rfl

/-! ## A collection that fails -/

/-- What a collection that ends FAILED leaves (R80). -/
theorem failCalibration_ends (s : State) (c : Calibration) (n : Fin 32) (detail : Nat) (hm : MemoryCanonical s)
    (hc : s.angle.calibration = some c) (hserving : s.servingSlot .angle = some n) (hstate : s.slotState n = .taken false)
    (hd : detail < 65536) (hrun : c.run < 2 ^ 32) (hsets : c.sets < 2 ^ 32) :
    let t := s.failCalibration detail
    t.answered n .failed detail ∧ t.resultWord n 0 = c.run ∧ t.resultWord n 1 = c.sets ∧ t.angle.calibration = none ∧
      t.angle.correction = s.angle.correction ∧ t.servingSlot .angle = none := by
  have heq : s.failCalibration detail =
      State.finishUnit { s with angle := { s.angle with calibration := none } } .angle .failed detail [word c.run, word c.sets] := by
    unfold State.failCalibration
    rw [hc]
    rfl
  obtain ⟨hanswered, hshown, hidle, hangle⟩ := finishUnit_shows { s with angle := { s.angle with calibration := none } } .angle n
    .failed detail [word c.run, word c.sets] hserving hstate hm hd
  rw [← heq] at hanswered hshown hidle hangle
  have hcorrection := congrArg AngleUnit.correction hangle
  exact ⟨hanswered, (hshown 0 (by simp)).trans (word_toNat _ hrun), (hshown 1 (by simp)).trans (word_toNat _ hsets),
    congrArg AngleUnit.calibration hangle, hcorrection, hidle⟩

/-- Settles O32: the request is taken without an answer, and each end of the collection finishes it. -/
theorem calibrateHinge : Obligations.CalibrateHinge := by
  unfold Obligations.CalibrateHinge
  refine ⟨calibrateHinge_taken, calibration_completes, fun s c r hc => ?_, fun s c n detail hm hc hserving hstate hd hrun hsets => ?_⟩
  · refine ⟨fun hq => ⟨fun h => ?_, fun h hsets => ?_, fun h hsets => ?_⟩, fun hq => calibrateSet_held s c r hc hq,
      fun hq => calibrateSet_unavailable s c r hc hq⟩
    · rw [calibrateSet_good s c r hc hq, if_pos h, collected_complete]
      rfl
    · rw [calibrateSet_good s c r hc hq, if_neg h, if_neg hsets]
      rfl
    · rw [calibrateSet_good s c r hc hq, if_neg h, if_pos hsets]
      rfl
  · refine ⟨failCalibration_ends s c n detail hm hc hserving hstate hd hrun hsets, ?_, fun hpower => ?_⟩
    · exact failCalibration_ends
        (s.updAngle fun u => { u with quality := .unavailable, hasValue := false, holdCount := 0 }) c n 1 hm hc hserving hstate
        (by decide) hrun hsets
    · rw [show s.anglePower = s.failCalibration 2 from if_pos hpower]
      exact failCalibration_ends s c n 2 hm hc hserving hstate (by decide) hrun hsets

end Sys2Proof.Machine
end

section
/-! PEN_ACCEPT and PEN_FORGET (R158 to R160). -/

namespace Sys2Proof.Machine

set_option Elab.async false

variable {q : Bool} {L M : BitVec 10} {s t u v w e : State} {ρ : Aspect}

/-! ## The paired-pen table changed, and the request answered -/

theorem word_ofToNat (w : Word) : word w.toNat = w := by simp [word]

/-- A unit that finishes leaves the pen unit and the allotments alone. -/
theorem finishUnit_pen (s : State) (u : ServingUnit) (code : ResultCode) (detail : Nat) (words : List Word) :
    (s.finishUnit u code detail words).pen = s.pen ∧ (s.finishUnit u code detail words).allot = s.allot := by
  unfold State.finishUnit
  cases s.servingSlot u with
  | none => exact ⟨rfl, rfl⟩
  | some n =>
    dsimp only
    unfold State.finishSlot
    split <;> exact ⟨rfl, rfl⟩

theorem setTable_pen (s : State) (table : Vector PairedPen 4) :
    (s.setTable table).pen = { s.pen with table := table } ∧ (s.setTable table).allot = s.allot ∧ (s.setTable table).now = s.now := by
  unfold State.setTable State.touchWhen
  split <;> exact ⟨rfl, rfl, rfl⟩

/-- A change of the table moves nothing but the board's mark in the port unit. -/
theorem setTable_frame (s : State) (table : Vector PairedPen 4) :
    ∃ x, s.setTable table = { s with pen := { s.pen with table := table }, port := { s.port with boardTouched := x } } := by
  unfold State.setTable State.touchWhen
  split <;> exact ⟨_, rfl⟩

theorem taken_setTable (s : State) (n : Fin 32) (r : Request) (tag : Half) (ps : List Word) (table : Vector PairedPen 4) :
    (s.taken n r tag ps).setTable table = (s.setTable table).taken n r tag ps := by
  have hpen : (s.taken n r tag ps).pen = s.pen := by simp only [State.taken]
  unfold State.setTable State.touchWhen
  rw [hpen, taken_updPen]
  split
  · rw [taken_touchBoard]
  · rfl

/-- The entry the session's pen has in a table. -/
def PenUnit.seatedIn (u : PenUnit) (table : Vector PairedPen 4) : Option (Fin 4) :=
  if u.identity = 0 then none else findPen table u.identity

theorem capDemand_eq (s : State) :
    s.capDemand =
      if s.pen.seatedIn s.pen.table = none ∧ 300 < s.allot.demand.pen then s.hand [.penDemand 300] else s := rfl

/-- The table changed and the request finished. -/
def State.tabled (s : State) (table : Vector PairedPen 4) (code : ResultCode) (detail : Nat) (words : List Word) : State :=
  (s.setTable table).finishUnit .pen code detail words

theorem tabled_pen (s : State) (table : Vector PairedPen 4) (code : ResultCode) (detail : Nat) (words : List Word) :
    (s.tabled table code detail words).pen = { s.pen with table := table } ∧
      (s.tabled table code detail words).allot = s.allot := by
  obtain ⟨hpen, hallot⟩ := finishUnit_pen (s.setTable table) .pen code detail words
  obtain ⟨htable, hsame, -⟩ := setTable_pen s table
  exact ⟨hpen.trans htable, hallot.trans hsame⟩

/-- The cap after a change of the table (R158). -/
theorem tabled_capDemand (s : State) (table : Vector PairedPen 4) (code : ResultCode) (detail : Nat) (words : List Word) :
    (s.tabled table code detail words).capDemand =
      if s.pen.seatedIn table = none ∧ 300 < s.allot.demand.pen then
        (s.tabled table code detail words).hand [.penDemand 300]
      else s.tabled table code detail words := by
  obtain ⟨hpen, hallot⟩ := tabled_pen s table code detail words
  rw [capDemand_eq, hpen, hallot]
  rfl

section
variable {n : Fin 32} {r : Request} {tag : Half} {ps : List Word} {table : Vector PairedPen 4} {code : ResultCode}
  {detail : Nat} {words : List Word} (hs : s.sound) (h : s.takesAtOnce n r.servedBy) (hr : r.servedBy = .pen)
include hs h hr

/-- A request of the table answered with its change alone. -/
theorem exec_tabled (hserve : (s.taken n r tag ps).serve n r = (s.taken n r tag ps).tabled table code detail words)
    (hd : detail < 65536) (hp : ps.length ≤ 8 := by simp) (hw : words.length ≤ 4 := by simp) :
    ∃ t, takeEvent s (fun u => u.makeRequest n r tag ps) = .next t ∧
      State.slotAnswered { s with pen := { s.pen with table := table } } t n code detail ∧ t.pen.table = table ∧
      ∀ i : Fin 4, ∀ h : i.val < words.length, t.resultWord n i = (words[i.val]'h).toNat := by
  obtain ⟨x, hx⟩ := setTable_frame s table
  have hserved : (s.taken n r tag ps).serve n r = ((s.setTable table).taken n r tag ps).finishUnit r.servedBy code detail words := by
    rw [hserve, State.tabled, taken_setTable, hr]
  obtain ⟨hnext, hanswered, hshown⟩ := exec_answeredFrom hs h hserved hd (by rw [hx]) (by rw [hx]) (by rw [hx])
    ⟨x, by rw [hx]⟩ hp hw
  have hsame : ({ s.setTable table with port := s.port } : State) = { s with pen := { s.pen with table := table } } := by
    rw [hx]
  rw [hsame] at hanswered
  refine ⟨_, hnext, hanswered, ?_, hshown⟩
  obtain ⟨-, -, -, -, -, hframe, -⟩ := hanswered
  rw [hframe]

/-- A request of the table whose change caps the seated pen's demand. -/
theorem exec_capped
    (hserve : (s.taken n r tag ps).serve n r = ((s.taken n r tag ps).tabled table code detail words).hand [.penDemand 300])
    (hp : ps.length ≤ 8 := by simp) :
    ∃ t, takeEvent s (fun u => u.makeRequest n r tag ps) = .next t ∧ t.pen.table = table ∧ t.allot.demand.pen = 300 := by
  have hfinished : (s.taken n r tag ps).tabled table code detail words =
      (((s.setTable table).taken n r tag ps).finishedSlot r.servedBy n code detail words).setTasks
        [.considerQueue, .considerQueue] := by
    rw [State.tabled, taken_setTable, ← hr]
    exact finishUnit_finished _ _ n _ _ _ (taken_servingSlot _ n r tag ps) (taken_slotState _ n r tag ps)
  obtain ⟨hpen, -⟩ := tabled_pen (s.taken n r tag ps) table code detail words
  have hqueue : ((s.taken n r tag ps).tabled table code detail words).dispatch.queue = [] := by
    rw [hfinished]
    simp only [State.setTasks, State.finishedSlot, State.taken]
  have htasks : ((s.taken n r tag ps).tabled table code detail words).tasks = [.considerQueue, .considerQueue] := by
    rw [hfinished]
    rfl
  generalize (s.taken n r tag ps).tabled table code detail words = x at *
  obtain ⟨t, hnext, hends⟩ := request_ends (k := 1) (u := (x.setTasks x.tasks).penDemand 300) hs h (by
    rw [hserve]
    exact Carried.penDemand rfl) hp
  have htail := ends_penTail hends (by rw [htasks]; rfl) hqueue
  have hunits := htail.units
  simp only [State.keptUnits, Prod.mk.injEq] at hunits
  obtain ⟨-, -, -, -, -, -, ⟨-, -, -, -, -, -, -, -, htable⟩, -⟩ := hunits
  exact ⟨t, hnext, htable.trans (by rw [hpen]), htail.demand⟩

end

/-! ## The entries -/

theorem occupied_le (table : Vector PairedPen 4) : occupied table ≤ 4 :=
  (List.length_filter_le _ _).trans (by simp)

theorem word_occupied (table : Vector PairedPen 4) : (word (occupied table)).toNat = occupied table :=
  word_toNat _ (Nat.lt_of_le_of_lt (occupied_le table) (by decide))

theorem word_index (i : Fin 4) : (word i.val).toNat = i.val := word_toNat _ (by omega)

theorem occupied_full (table : Vector PairedPen 4) (h : ∀ j : Fin 4, table[j].identity ≠ 0) : occupied table = 4 := by
  unfold occupied
  rw [List.filter_eq_self.mpr]
  · simp
  · intro e he
    obtain ⟨j, hj, rfl⟩ := List.mem_iff_getElem.mp he
    have hj' : j < 4 := by simpa using hj
    simpa using h ⟨j, hj'⟩

/-- The index of greatest age, the lowest among equals. -/
def oldestOf (age : Fin 4 → Nat) : Fin 4 :=
  let pick (i j : Fin 4) : Fin 4 := if age i < age j then j else i
  pick (pick (pick 0 1) 2) 3

theorem oldestOf_eq (age : Fin 4 → Nat) (i : Fin 4) (hall : ∀ j, age j ≤ age i) (hfirst : ∀ j < i, age j < age i) :
    oldestOf age = i := by
  rw [Fin.forall_fin_succ, Fin.forall_fin_succ, Fin.forall_fin_succ, Fin.forall_fin_succ] at hall hfirst
  unfold oldestOf
  fin_cases i <;> simp at hall hfirst ⊢ <;> grind

/-- The entry of greatest age, the lowest among equals (R159). -/
theorem oldestPen_eq (now : PartTime) (table : Vector PairedPen 4) (i : Fin 4)
    (hall : ∀ j : Fin 4, elapsed now table[j].lastSeen ≤ elapsed now table[i].lastSeen)
    (hfirst : ∀ j < i, elapsed now table[j].lastSeen < elapsed now table[i].lastSeen) : oldestPen now table = i :=
  oldestOf_eq (fun k => elapsed now table[k].lastSeen) i hall hfirst

/-- An identity in another place than its own is in no place. -/
theorem seatedIn_set_none (u : PenUnit) (table : Vector PairedPen 4) (i : Fin 4) (e : PairedPen)
    (he : e.identity ≠ u.identity) (h : ∀ j ≠ i, table[j].identity ≠ u.identity) : u.seatedIn (table.set i e) = none := by
  unfold PenUnit.seatedIn
  split
  · rfl
  · rw [findPen_none_iff]
    intro j
    by_cases hj : j = i
    · subst hj
      simpa using he
    · have hne : i.val ≠ j.val := fun hval => hj (Fin.ext hval.symm)
      have hget : (table.set i e)[j] = table[j] := by simp [Vector.getElem_set, hne]
      rw [hget]
      exact h j hj

/-! ## PEN_ACCEPT -/

theorem exec_penAccept_request (s : State) (n : Fin 32) (tag : Half) (identity : Word) :
    exec (.penAccept n tag identity) s = takeEvent s fun u => u.makeRequest n .penAccept tag [identity] := by rfl

theorem serve_penAccept (s : State) (hm : MemoryCanonical s) (n : Fin 32) (tag : Half) (identity : Word) :
    (s.taken n .penAccept tag [identity]).serve n .penAccept = (s.taken n .penAccept tag [identity]).acceptPen identity := by
  unfold State.serve
  dsimp only
  rw [taken_param s hm n .penAccept tag [identity] (by simp) 0 (by simp)]
  simp only [List.getElem_cons_zero, word_ofToNat]

/-- The entry PEN_ACCEPT writes for an identity that is new to the table. -/
def PenUnit.freshEntry (u : PenUnit) (identity : Word) (now : PartTime) : PairedPen :=
  { identity := identity, soc := if identity = u.identity then u.soc else 0, lastSeen := now }

/-- The answer to PEN_ACCEPT with a table. -/
def State.accepted (s : State) (table : Vector PairedPen 4) (detail : Nat) (i : Fin 4) (evicted : Word) : State :=
  s.tabled table .ok detail [word i, evicted, word (occupied table)]

theorem finishAccept_eq (s : State) (table : Vector PairedPen 4) (detail : Nat) (i : Fin 4) (evicted : Word) :
    (s.setTable table).finishAccept detail i evicted = s.accepted table detail i evicted := by
  unfold State.finishAccept
  rw [(setTable_pen s table).1]
  rfl

section
variable (s : State) {identity : Word} (hidentity : identity ≠ 0)
include hidentity

theorem acceptPen_found (i : Fin 4) (h : findPen s.pen.table identity = some i) :
    s.acceptPen identity =
      s.accepted (s.pen.table.set i
        { s.pen.freshEntry identity s.now with soc := if identity = s.pen.identity then s.pen.soc else s.pen.table[i].soc }) 1 i 0 := by
  obtain ⟨hi, -⟩ := (findPen_some_iff _ _ _).mp h
  unfold State.acceptPen
  rw [if_neg hidentity, h]
  dsimp only
  rw [State.setEntry, finishAccept_eq, hi]
  rfl

theorem acceptPen_empty (i : Fin 4) (h : findPen s.pen.table identity = none) (hempty : findPen s.pen.table 0 = some i) :
    s.acceptPen identity = s.accepted (s.pen.table.set i (s.pen.freshEntry identity s.now)) 0 i 0 := by
  unfold State.acceptPen
  rw [if_neg hidentity, h]
  dsimp only
  rw [hempty]
  exact finishAccept_eq s _ 0 i 0

theorem acceptPen_evicting (i : Fin 4) (h : findPen s.pen.table identity = none) (hfull : findPen s.pen.table 0 = none)
    (hi : i = oldestPen s.now s.pen.table) :
    s.acceptPen identity =
      if s.pen.table[i].identity = s.pen.identity then
        (s.accepted (s.pen.table.set i (s.pen.freshEntry identity s.now)) 2 i s.pen.table[i].identity).capDemand
      else s.accepted (s.pen.table.set i (s.pen.freshEntry identity s.now)) 2 i s.pen.table[i].identity := by
  have hwritten : (s.writeEntry i identity).finishAccept 2 i s.pen.table[i].identity =
      s.accepted (s.pen.table.set i (s.pen.freshEntry identity s.now)) 2 i s.pen.table[i].identity := finishAccept_eq s _ 2 i _
  have hpen : (s.accepted (s.pen.table.set i (s.pen.freshEntry identity s.now)) 2 i s.pen.table[i].identity).pen.identity =
      s.pen.identity := by
    unfold State.accepted
    rw [(tabled_pen s _ _ _ _).1]
  unfold State.acceptPen
  rw [if_neg hidentity, h]
  dsimp only
  rw [hfull]
  dsimp only
  subst hi
  rw [hwritten, hpen]

end

/-! ## PEN_FORGET -/

theorem exec_penForget_request (s : State) (n : Fin 32) (tag : Half) (selector identity : Word) :
    exec (.penForget n tag selector identity) s =
      takeEvent s fun u => u.makeRequest n .penForget tag [selector, identity] := by rfl

theorem serve_penForget (s : State) (hm : MemoryCanonical s) (n : Fin 32) (tag : Half) (selector identity : Word) :
    (s.taken n .penForget tag [selector, identity]).serve n .penForget =
      (s.taken n .penForget tag [selector, identity]).forgetPen selector.toNat identity := by
  unfold State.serve
  dsimp only
  rw [taken_param s hm n .penForget tag [selector, identity] (by simp) 0 (by simp),
    taken_param s hm n .penForget tag [selector, identity] (by simp) 1 (by simp)]
  simp only [List.getElem_cons_zero, List.getElem_cons_succ, word_ofToNat]

theorem forgetPen_bad (s : State) (selector : Nat) (identity : Word) (h : 1 < selector) :
    s.forgetPen selector identity = s.finishUnit .pen .badParameter 0 [] := if_pos h

theorem forgetPen_unnamed (s : State) : s.forgetPen 0 0 = s.finishUnit .pen .badParameter 1 [] := rfl

/-- Every entry emptied. -/
theorem forgetPen_all (s : State) (identity : Word) :
    s.forgetPen 1 identity =
      if s.sessionEntry.isSome then
        (s.tabled (Vector.replicate 4 emptyPen) .ok 0 [word (occupied s.pen.table)]).capDemand
      else s.tabled (Vector.replicate 4 emptyPen) .ok 0 [word (occupied s.pen.table)] := rfl

theorem forgetPen_missing (s : State) {identity : Word} (hidentity : identity ≠ 0)
    (h : findPen s.pen.table identity = none) : s.forgetPen 0 identity = s.finishUnit .pen .ok 1 [0] := by
  unfold State.forgetPen
  rw [if_neg (by decide)]
  dsimp only
  rw [if_neg (by decide), if_neg hidentity, h]

/-- One entry emptied. -/
theorem forgetPen_found (s : State) {identity : Word} (hidentity : identity ≠ 0) (i : Fin 4)
    (h : findPen s.pen.table identity = some i) :
    s.forgetPen 0 identity =
      if s.sessionEntry.isSome then (s.tabled (s.pen.table.set i emptyPen) .ok 0 [1]).capDemand
      else s.tabled (s.pen.table.set i emptyPen) .ok 0 [1] := by
  unfold State.forgetPen
  rw [if_neg (by decide)]
  dsimp only
  rw [if_neg (by decide), if_neg hidentity, h]
  rfl

/-! ## The two requests -/

section
variable {n : Fin 32} {tag : Half} (hs : s.sound) (h : s.takesAtOnce n .pen)
include hs h

/-- PEN_ACCEPT answered with a table. -/
theorem exec_accepted {identity evicted : Word} {table : Vector PairedPen 4} {detail : Nat} {i : Fin 4}
    (hserve : ∀ v : State, v.pen = s.pen → v.now = s.now → v.allot = s.allot →
      v.acceptPen identity = v.accepted table detail i evicted) (hd : detail < 65536 := by decide) :
    ∃ t, exec (.penAccept n tag identity) s = .next t ∧
      State.slotAnswered { s with pen := { s.pen with table := table } } t n .ok detail ∧ t.pen.table = table ∧
      t.resultWord n 0 = i.val ∧ t.resultWord n 1 = evicted.toNat ∧ t.resultWord n 2 = occupied table := by
  have hv : (s.taken n .penAccept tag [identity]).acceptPen identity =
      (s.taken n .penAccept tag [identity]).accepted table detail i evicted :=
    hserve _ (by simp only [State.taken]) (by simp only [State.taken]) (by simp only [State.taken])
  obtain ⟨t, hnext, hanswered, htable, hshown⟩ := exec_tabled (r := .penAccept) hs h rfl
    ((serve_penAccept s hs.2 n tag identity).trans hv) hd
  exact ⟨t, hnext, hanswered, htable, (hshown 0 (by simp)).trans (word_index i), hshown 1 (by simp),
    (hshown 2 (by simp)).trans (word_occupied table)⟩

/-- PEN_ACCEPT of a pen that is new to a full table: the entry of greatest age is evicted, and a demand that loses its entry
is capped. -/
theorem exec_evicting {identity : Word} (hidentity : identity ≠ 0)
    (hnone : ∀ j : Fin 4, s.pen.table[j].identity ≠ identity ∧ s.pen.table[j].identity ≠ 0) (i : Fin 4)
    (hi : i = oldestPen s.now s.pen.table) :
    ∃ t, exec (.penAccept n tag identity) s = .next t ∧
      t.pen.table = s.pen.table.set i (s.pen.freshEntry identity s.now) ∧
      (s.pen.table[i].identity ≠ s.pen.identity ∨ s.allot.demand.pen ≤ 300 →
        State.slotAnswered
          { s with pen := { s.pen with table := s.pen.table.set i (s.pen.freshEntry identity s.now) } } t n .ok 2 ∧
          t.resultWord n 0 = i.val ∧ t.resultWord n 1 = s.pen.table[i].identity.toNat ∧ t.resultWord n 2 = 4) ∧
      (s.pen.table[i].identity = s.pen.identity → (∀ j ≠ i, s.pen.table[j].identity ≠ s.pen.identity) →
        300 < s.allot.demand.pen → t.allot.demand.pen = 300) := by
  have hnew : findPen s.pen.table identity = none := (findPen_none_iff _ _).mpr fun j => (hnone j).1
  have hfull : findPen s.pen.table 0 = none := (findPen_none_iff _ _).mpr fun j => (hnone j).2
  have hserve (v : State) (hpen : v.pen = s.pen) (hnow : v.now = s.now) : v.acceptPen identity =
      if s.pen.table[i].identity = s.pen.identity then
        (v.accepted (s.pen.table.set i (s.pen.freshEntry identity s.now)) 2 i s.pen.table[i].identity).capDemand
      else v.accepted (s.pen.table.set i (s.pen.freshEntry identity s.now)) 2 i s.pen.table[i].identity := by
    rw [← hpen] at hnew hfull hi ⊢
    rw [← hnow] at hi ⊢
    exact acceptPen_evicting v hidentity i hnew hfull hi
  have hfresh : (s.pen.freshEntry identity s.now).identity = identity := rfl
  have hoccupied : occupied (s.pen.table.set i (s.pen.freshEntry identity s.now)) = 4 := by
    refine occupied_full _ fun j => ?_
    by_cases hj : i.val = j.val
    · simpa [Vector.getElem_set, hj, hfresh] using hidentity
    · simpa [Vector.getElem_set, hj] using (hnone j).2
  generalize htable : s.pen.table.set i (s.pen.freshEntry identity s.now) = table at hoccupied ⊢
  by_cases hcap : s.pen.table[i].identity = s.pen.identity ∧ s.pen.seatedIn table = none ∧ 300 < s.allot.demand.pen
  · obtain ⟨hseated, hout, hdemand⟩ := hcap
    obtain ⟨t, hnext, ht, hcapped⟩ := exec_capped (r := .penAccept) (tag := tag) (ps := [identity]) (table := table) (code := .ok)
      (detail := 2) (words := [word i, s.pen.table[i].identity, word (occupied table)]) hs h rfl (by
        have hpen : (s.taken n .penAccept tag [identity]).pen = s.pen := by simp only [State.taken]
        have hnow : (s.taken n .penAccept tag [identity]).now = s.now := by simp only [State.taken]
        have hallot : (s.taken n .penAccept tag [identity]).allot = s.allot := by simp only [State.taken]
        rw [serve_penAccept s hs.2 n tag identity, hserve _ hpen hnow, if_pos hseated, htable, State.accepted,
          tabled_capDemand, hpen, hallot, if_pos ⟨hout, hdemand⟩])
    exact ⟨t, hnext, ht, fun hor => by rcases hor with hne | hle <;> [exact absurd hseated hne; omega], fun _ _ _ => hcapped⟩
  · obtain ⟨t, hnext, hanswered, ht, h0, h1, h2⟩ := exec_accepted (tag := tag) (identity := identity) (table := table) (detail := 2)
      (i := i) (evicted := s.pen.table[i].identity) hs h fun v hpen hnow hallot => by
        rw [hserve v hpen hnow, htable]
        split
        · next hseated =>
          unfold State.accepted
          rw [tabled_capDemand, hpen, hallot, if_neg fun hout => hcap ⟨hseated, hout⟩]
        · rfl
    refine ⟨t, hnext, ht, fun _ => ⟨hanswered, h0, h1, h2.trans hoccupied⟩, fun hseated hothers hdemand => ?_⟩
    refine absurd ⟨hseated, ?_, hdemand⟩ hcap
    rw [← htable]
    exact seatedIn_set_none s.pen s.pen.table i _ (fun e => (hnone i).1 (hseated.trans e.symm)) hothers

/-- PEN_FORGET that empties entries: the table, and a demand that loses its entry. -/
theorem exec_forgetting {selector identity shown : Word} {table : Vector PairedPen 4}
    (hserve : ∀ v : State, v.pen = s.pen →
      v.forgetPen selector.toNat identity =
        if s.sessionEntry.isSome then (v.tabled table .ok 0 [shown]).capDemand else v.tabled table .ok 0 [shown]) :
    ∃ t, exec (.penForget n tag selector identity) s = .next t ∧ t.pen.table = table ∧
      (s.allot.demand.pen ≤ 300 →
        State.slotAnswered { s with pen := { s.pen with table := table } } t n .ok 0 ∧ t.resultWord n 0 = shown.toNat) ∧
      (s.sessionEntry.isSome → s.pen.seatedIn table = none → 300 < s.allot.demand.pen → t.allot.demand.pen = 300) := by
  have hpen : (s.taken n .penForget tag [selector, identity]).pen = s.pen := by simp only [State.taken]
  have hallot : (s.taken n .penForget tag [selector, identity]).allot = s.allot := by simp only [State.taken]
  have htaken := (serve_penForget s hs.2 n tag selector identity).trans (hserve _ hpen)
  rw [tabled_capDemand, hpen, hallot] at htaken
  by_cases hcap : s.sessionEntry.isSome ∧ s.pen.seatedIn table = none ∧ 300 < s.allot.demand.pen
  · obtain ⟨hseated, hout⟩ := hcap
    rw [if_pos hseated, if_pos hout] at htaken
    obtain ⟨t, hnext, ht, hcapped⟩ := exec_capped (r := .penForget) hs h rfl htaken
    exact ⟨t, hnext, ht, fun hle => by omega, fun _ _ _ => hcapped⟩
  · have hstill : (s.taken n .penForget tag [selector, identity]).serve n .penForget =
        (s.taken n .penForget tag [selector, identity]).tabled table .ok 0 [shown] := by
      rw [htaken]
      split
      · next hseated => exact if_neg fun hout => hcap ⟨hseated, hout⟩
      · rfl
    obtain ⟨t, hnext, hanswered, ht, hshown⟩ := exec_tabled (r := .penForget) hs h rfl hstill (by decide)
    exact ⟨t, hnext, ht, fun _ => ⟨hanswered, hshown 0 (by simp)⟩, fun hseated hout hdemand => absurd ⟨hseated, hout, hdemand⟩ hcap⟩

end

end Sys2Proof.Machine
end

section
/-! The paired-pen table's requests together (R158 to R160). -/

namespace Sys2Proof.Machine

set_option Elab.async false

variable {s : State} {n : Fin 32} {tag : Half}

theorem sessionEntry_found {i : Fin 4} (hne : s.pen.identity ≠ 0) (hi : s.pen.table[i].identity = s.pen.identity) :
    s.sessionEntry.isSome = true := by
  unfold State.sessionEntry
  rw [if_neg hne]
  cases hfind : findPen s.pen.table s.pen.identity with
  | some j => rfl
  | none => exact absurd hi ((findPen_none_iff _ _).mp hfind i)

/-- A session's pen is in no emptied table. -/
theorem seatedIn_emptied (u : PenUnit) : u.seatedIn (Vector.replicate 4 emptyPen) = none := by
  unfold PenUnit.seatedIn
  split
  · rfl
  · next hne =>
    rw [findPen_none_iff]
    intro j
    simpa [emptyPen] using Ne.symm hne

section
variable (hs : s.sound) (h : s.takesAtOnce n .pen)
include hs h

/-- PEN_ACCEPT by what the table holds (R159). -/
theorem penAccept_cases (identity : Word) :
    let session := identity = s.pen.identity
    let age (i : Fin 4) : Nat := elapsed s.now s.pen.table[i].lastSeen
    let fresh : PairedPen := { identity := identity, soc := if session then s.pen.soc else 0, lastSeen := s.now }
    ∃ t, exec (.penAccept n tag identity) s = .next t ∧
      (identity = 0 → s.slotAnswered t n .badParameter 0) ∧
      (identity ≠ 0 → ∀ i : Fin 4, s.pen.table[i].identity = identity → (∀ j < i, s.pen.table[j].identity ≠ identity) →
        State.slotAnswered
          { s with pen := { s.pen with
                            table := s.pen.table.set i
                              { fresh with soc := if session then s.pen.soc else s.pen.table[i].soc } } } t n .ok 1 ∧
          t.resultWord n 0 = i.val ∧ t.resultWord n 1 = 0 ∧ t.resultWord n 2 = occupied t.pen.table) ∧
      (identity ≠ 0 → (∀ j : Fin 4, s.pen.table[j].identity ≠ identity) →
        ∀ i : Fin 4, s.pen.table[i].identity = 0 → (∀ j < i, s.pen.table[j].identity ≠ 0) →
        State.slotAnswered { s with pen := { s.pen with table := s.pen.table.set i fresh } } t n .ok 0 ∧
          t.resultWord n 0 = i.val ∧ t.resultWord n 1 = 0 ∧ t.resultWord n 2 = occupied t.pen.table) ∧
      (identity ≠ 0 → (∀ j : Fin 4, s.pen.table[j].identity ≠ identity ∧ s.pen.table[j].identity ≠ 0) →
        ∀ i : Fin 4, (∀ j, age j ≤ age i) → (∀ j < i, age j < age i) →
        t.pen.table = s.pen.table.set i fresh ∧
        (s.pen.table[i].identity ≠ s.pen.identity ∨ s.allot.demand.pen ≤ 300 →
          State.slotAnswered { s with pen := { s.pen with table := s.pen.table.set i fresh } } t n .ok 2 ∧
            t.resultWord n 0 = i.val ∧ t.resultWord n 1 = s.pen.table[i].identity.toNat ∧ t.resultWord n 2 = 4) ∧
        (s.pen.table[i].identity = s.pen.identity → (∀ j ≠ i, s.pen.table[j].identity ≠ s.pen.identity) →
          300 < s.allot.demand.pen → t.allot.demand.pen = 300)) := by
  intro session age fresh
  by_cases hzero : identity = 0
  · obtain ⟨hnext, hanswered, -⟩ := exec_answeredFrom hs h
      ((serve_penAccept s hs.2 n tag identity).trans (if_pos hzero)) (by decide)
    exact ⟨_, (exec_penAccept_request s n tag identity).trans hnext, fun _ => hanswered, fun e => absurd hzero e,
      fun e => absurd hzero e, fun e => absurd hzero e⟩
  cases hfind : findPen s.pen.table identity with
  | some i =>
    have hfound := (findPen_some_iff _ _ _).mp hfind
    obtain ⟨t, hnext, hanswered, htable, h0, h1, h2⟩ := exec_accepted (tag := tag) (identity := identity) (detail := 1) (i := i)
      (evicted := 0) hs h
      (table := s.pen.table.set i
        { s.pen.freshEntry identity s.now with soc := if identity = s.pen.identity then s.pen.soc else s.pen.table[i].soc })
      fun v hpen hnow _ => by
        rw [← hpen] at hfind ⊢
        rw [← hnow]
        exact acceptPen_found v hzero i hfind
    refine ⟨t, hnext, fun e => absurd e hzero, fun _ j hj hfirst => ?_, fun _ hnone => absurd hfound.1 (hnone i),
      fun _ hnone => absurd hfound.1 (hnone i).1⟩
    obtain rfl : i = j := Option.some.inj (hfind.symm.trans ((findPen_some_iff _ _ _).mpr ⟨hj, hfirst⟩))
    exact ⟨hanswered, h0, h1, by rw [h2, htable]⟩
  | none =>
    have hnew := (findPen_none_iff _ _).mp hfind
    cases hempty : findPen s.pen.table 0 with
    | some i =>
      have hfree := (findPen_some_iff _ _ _).mp hempty
      obtain ⟨t, hnext, hanswered, htable, h0, h1, h2⟩ := exec_accepted (tag := tag) (identity := identity) (detail := 0) (i := i)
        (evicted := 0) hs h (table := s.pen.table.set i (s.pen.freshEntry identity s.now)) fun v hpen hnow _ => by
          rw [← hpen] at hfind hempty ⊢
          rw [← hnow]
          exact acceptPen_empty v hzero i hfind hempty
      refine ⟨t, hnext, fun e => absurd e hzero, fun _ j hj => absurd hj (hnew j), fun _ _ j hj hfirst => ?_,
        fun _ hnone => absurd hfree.1 (hnone i).2⟩
      obtain rfl : i = j := Option.some.inj (hempty.symm.trans ((findPen_some_iff _ _ _).mpr ⟨hj, hfirst⟩))
      exact ⟨hanswered, h0, h1, by rw [h2, htable]⟩
    | none =>
      have hfull := (findPen_none_iff _ _).mp hempty
      obtain ⟨t, hnext, htable, hanswered, hcapped⟩ := exec_evicting (tag := tag) hs h hzero (fun j => ⟨hnew j, hfull j⟩) _ rfl
      refine ⟨t, hnext, fun e => absurd e hzero, fun _ j hj => absurd hj (hnew j), fun _ _ j hj => absurd hj (hfull j),
        fun _ _ i hall hfirst => ?_⟩
      obtain rfl := oldestPen_eq s.now s.pen.table i hall hfirst
      exact ⟨htable, hanswered, hcapped⟩

/-- PEN_FORGET by its words and by what the table holds (R160). -/
theorem penForget_cases (selector identity : Word) :
    let none4 : PairedPen := { identity := 0, soc := 0, lastSeen := 0 }
    ∃ t, exec (.penForget n tag selector identity) s = .next t ∧
      (1 < selector.toNat → s.slotAnswered t n .badParameter 0) ∧
      (selector = 0 → identity = 0 → s.slotAnswered t n .badParameter 1) ∧
      (selector = 0 → identity ≠ 0 → (∀ j : Fin 4, s.pen.table[j].identity ≠ identity) →
        s.slotAnswered t n .ok 1 ∧ t.resultWord n 0 = 0) ∧
      (selector = 1 → t.pen.table = Vector.replicate 4 none4 ∧
        (s.allot.demand.pen ≤ 300 →
          State.slotAnswered { s with pen := { s.pen with table := Vector.replicate 4 none4 } } t n .ok 0 ∧
            t.resultWord n 0 = occupied s.pen.table) ∧
        (s.pen.identity ≠ 0 → (∃ i : Fin 4, s.pen.table[i].identity = s.pen.identity) → 300 < s.allot.demand.pen →
          t.allot.demand.pen = 300)) ∧
      (selector = 0 → identity ≠ 0 → ∀ i : Fin 4, s.pen.table[i].identity = identity →
        (∀ j < i, s.pen.table[j].identity ≠ identity) →
        t.pen.table = s.pen.table.set i none4 ∧
        (s.allot.demand.pen ≤ 300 →
          State.slotAnswered { s with pen := { s.pen with table := s.pen.table.set i none4 } } t n .ok 0 ∧
            t.resultWord n 0 = 1) ∧
        (identity = s.pen.identity → (∀ j ≠ i, s.pen.table[j].identity ≠ identity) → 300 < s.allot.demand.pen →
          t.allot.demand.pen = 300)) := by
  intro none4
  have hserved := serve_penForget s hs.2 n tag selector identity
  by_cases hbad : 1 < selector.toNat
  · obtain ⟨hnext, hanswered, -⟩ := exec_answeredFrom hs h (hserved.trans (forgetPen_bad _ _ _ hbad)) (by decide)
    have hone (e : selector = 1) : False := by simp [e] at hbad
    have hzero (e : selector = 0) : False := by simp [e] at hbad
    exact ⟨_, (exec_penForget_request s n tag selector identity).trans hnext, fun _ => hanswered, fun e => (hzero e).elim,
      fun e => (hzero e).elim, fun e => (hone e).elim, fun e => (hzero e).elim⟩
  obtain rfl | rfl : selector = 1 ∨ selector = 0 := by
    rcases Nat.lt_or_ge 0 selector.toNat with hpos | hzero
    · exact .inl (BitVec.eq_of_toNat_eq (by simp; omega))
    · exact .inr (BitVec.eq_of_toNat_eq (by simp; omega))
  · obtain ⟨t, hnext, htable, hanswered, hcapped⟩ := exec_forgetting (tag := tag) (selector := 1) (identity := identity)
      (shown := word (occupied s.pen.table)) (table := Vector.replicate 4 emptyPen) hs h fun v hpen => by
        unfold State.sessionEntry
        rw [← hpen]
        exact forgetPen_all v identity
    refine ⟨t, hnext, fun e => absurd e hbad, fun e => absurd e (by decide), fun e => absurd e (by decide),
      fun _ => ⟨htable, fun hle => ?_, fun hne ⟨i, hi⟩ hdemand => ?_⟩, fun e => absurd e (by decide)⟩
    · obtain ⟨hall, hshown⟩ := hanswered hle
      exact ⟨hall, hshown.trans (word_occupied _)⟩
    · exact hcapped (sessionEntry_found hne hi) (seatedIn_emptied s.pen) hdemand
  · by_cases hzero : identity = 0
    · subst hzero
      obtain ⟨hnext, hanswered, -⟩ := exec_answeredFrom hs h (hserved.trans (forgetPen_unnamed _)) (by decide)
      exact ⟨_, (exec_penForget_request s n tag 0 0).trans hnext, fun e => absurd e hbad, fun _ _ => hanswered,
        fun _ e => absurd rfl e, fun e => absurd e (by decide), fun _ e => absurd rfl e⟩
    cases hfind : findPen s.pen.table identity with
    | none =>
      have hpen : (s.taken n .penForget tag [0, identity]).pen = s.pen := by simp only [State.taken]
      obtain ⟨hnext, hanswered, hshown⟩ := exec_answeredFrom hs h
        (hserved.trans (forgetPen_missing _ hzero (by rw [hpen]; exact hfind))) (by decide)
      exact ⟨_, (exec_penForget_request s n tag 0 identity).trans hnext, fun e => absurd e hbad, fun _ e => absurd e hzero,
        fun _ _ _ => ⟨hanswered, hshown 0 (by simp)⟩, fun e => absurd e (by decide),
        fun _ _ i hi => absurd hi ((findPen_none_iff _ _).mp hfind i)⟩
    | some i =>
      obtain ⟨t, hnext, htable, hanswered, hcapped⟩ := exec_forgetting (tag := tag) (selector := 0) (identity := identity)
        (shown := 1) (table := s.pen.table.set i emptyPen) hs h fun v hpen => by
          unfold State.sessionEntry
          rw [← hpen] at hfind ⊢
          exact forgetPen_found v hzero i hfind
      refine ⟨t, hnext, fun e => absurd e hbad, fun _ e => absurd e hzero,
        fun _ _ hnone => absurd ((findPen_some_iff _ _ _).mp hfind).1 (hnone i), fun e => absurd e (by decide),
        fun _ _ j hj hfirst => ?_⟩
      obtain rfl : i = j := Option.some.inj (hfind.symm.trans ((findPen_some_iff _ _ _).mpr ⟨hj, hfirst⟩))
      refine ⟨htable, hanswered, fun hsession hothers hdemand => ?_⟩
      have hne : s.pen.identity ≠ 0 := hsession ▸ hzero
      exact hcapped (sessionEntry_found hne (hj.trans hsession))
        (seatedIn_set_none s.pen s.pen.table i _ (Ne.symm hne) (hsession ▸ hothers)) hdemand

end

/-- Settles O37: each request by the entry it finds. -/
theorem penTable : Obligations.PenTable := by
  unfold Obligations.PenTable
  exact ⟨fun _ _ _ identity hs h => penAccept_cases hs h identity,
    fun _ _ _ selector identity hs h => penForget_cases hs h selector identity⟩

end Sys2Proof.Machine
end

section
/-! Causes latched before the hand-ons of an event, and the exchange with the pen (R148 to R154). -/

namespace Sys2Proof.Machine

set_option Elab.async false

variable {q : Bool} {L M : BitVec 10} {s t u v w e : State} {ρ : Aspect}

/-! ## A cause latched before the hand-ons -/

/-- A cause that an event latches before its hand-ons stays latched. -/
theorem takeEvent_latched {f : State → State} (hs : s.betweenEvents) (hnext : takeEvent s f = .next t)
    (hfits : (f s).tasks.all Task.fits = true) {i : Nat} (hi : (f s).port.attnLatch.getLsbD i = true) :
    t.port.attnLatch.getLsbD i = true := by
  obtain ⟨t', hnext', m, -, rfl⟩ := takeEvent_ends (f := f) hs (.refl _)
  obtain rfl := Host.Outcome.next.inj (hnext.symm.trans hnext')
  have hmoves := ((Moves.refl .served ((f s).setTasks [])).setTasks (f s).tasks (fun _ => hfits) fun h => by
    rcases h with h | h <;> cases h).runTasks (carries_served _) rfl m
  obtain ⟨-, hlatch⟩ := hmoves.leaves trivial
  have hsame : ((f s).setTasks []).setTasks (f s).tasks = f s := rfl
  rw [hsame] at hlatch
  rw [closeBoard_frame]
  show (runTasks m (f s)).port.attnLatch.getLsbD i = true
  have hbit := congrArg (fun b => b.getLsbD i) hlatch
  simp only [BitVec.getLsbD_and] at hbit
  have hset : ((f s).setTasks []).port.attnLatch.getLsbD i = true := hi
  rw [hset, Bool.true_and] at hbit
  exact hbit

theorem Drift.keeps (h : Drift q L s t) {i : Nat} (hi : s.port.attnLatch.getLsbD i = true) : t.port.attnLatch.getLsbD i = true := by
  have hbit := congrArg (fun b => b.getLsbD i) h.latch
  simpa [hi] using hbit

/-- A fault reported active that was not latches FAULT (R33). -/
theorem reportActive_latched (s : State) (k : FaultKind) (h : (s.faultEntry k).active = false) :
    (s.reportActive k).port.attnLatch.getLsbD Cause.fault.bit = true := by
  unfold State.reportActive
  dsimp only
  rw [h]
  exact (Becomes.offerNotice (State.latch _ .fault) _ _ _ _ _).drift.keeps (latched_bit _ _)

/-! ## A fault of the pen -/

/-- From s to t a fault is reported active (R33). -/
def State.faultReported (s t : State) (k : FaultKind) : Prop :=
  (t.faultEntry k).active = true ∧
    ((s.faultEntry k).active = true → t.faultEntry k = s.faultEntry k) ∧
    ((s.faultEntry k).active = false → (s.faultEntry k).count ≤ 255 →
      (t.faultEntry k).count = min 255 ((s.faultEntry k).count + 1) ∧ t.port.attnLatch.getLsbD Cause.fault.bit = true)

theorem faultReported_of {k : FaultKind} {now : PartTime} (hentry : t.faultEntry k = (s.faultEntry k).activated now)
    (hlatch : (s.faultEntry k).active = false → t.port.attnLatch.getLsbD Cause.fault.bit = true) : s.faultReported t k := by
  refine ⟨?_, fun hactive => ?_, fun hinactive hcount => ⟨?_, hlatch hinactive⟩⟩
  · rw [hentry, activated_active]
  · rw [hentry]
    exact if_pos hactive
  · rw [hentry, FaultEntry.activated, if_neg (by rw [hinactive]; decide)]
    show bump 255 _ = _
    unfold bump
    split <;> omega

/-! ## A failed exchange (R149) -/

section
variable (s)

/-- The pen unit with another QUERY on its way. -/
def State.triedPen : PenUnit := { s.pen with retries := s.pen.retries + 1, response := some (s.now + 20) }

theorem failExchange_tried (h : s.pen.retries < 3) : s.failExchange = { s with pen := s.triedPen } := by
  unfold State.failExchange
  rw [if_pos h]
  rfl

/-- The pen unit after the fourth failure in a row. -/
def State.failedPen : PenUnit :=
  PenUnit.powered { s.pen with response := none, retries := 0, poll := none, state := .fault } 0

/-- The fourth failure up to its fault report. -/
def State.failing : State :=
  (State.setPenState { s with pen := { s.pen with response := none, retries := 0, poll := none } } .fault 3).setCoilPower 0

theorem failExchange_failing (h : ¬ s.pen.retries < 3) :
    s.failExchange = (s.failing.reportActive .penUnresponsive).hand [.penDemand 0] := if_neg h

theorem Becomes.failing : Becomes false 0 s.failing { s with pen := s.failedPen } :=
  (setPenState_frame _ .fault 3).blind (blind_setCoilPower 0)

theorem Becomes.failExchange (h : ¬ s.pen.retries < 3) :
    Becomes false 0 s.failExchange
      (State.hand { s with pen := s.failedPen, settings := s.settings.withFault .penUnresponsive (FaultEntry.activated · s.now) }
        [.penDemand 0]) := by
  rw [failExchange_failing s h]
  exact ((Becomes.failing s).apply (op := fun s => s.reportActive .penUnresponsive)
    (g := fun s => { s with settings := s.settings.withFault .penUnresponsive (FaultEntry.activated · s.now) })
    fun w => .reportActive w _).hand _

theorem failExchange_latched (h : ¬ s.pen.retries < 3) (hinactive : (s.faultEntry .penUnresponsive).active = false) :
    s.failExchange.port.attnLatch.getLsbD Cause.fault.bit = true := by
  rw [failExchange_failing s h]
  refine reportActive_latched s.failing .penUnresponsive ?_
  rw [(Becomes.failing s).frame]
  exact hinactive

end

/-- From s to t the pen is given up as unresponsive (R149). -/
def State.unanswered (s t : State) : Prop :=
  t.pen.state = .fault ∧ t.pen.response = none ∧ t.pen.retries = 0 ∧ t.pen.poll = none ∧ t.pen.coilPower = 0 ∧
    t.pen.identity = s.pen.identity ∧ t.pen.table = s.pen.table ∧ t.allot.demand.pen = 0 ∧
    s.faultReported t .penUnresponsive

/-- The fault entries that the hand-ons of other units leave alone. -/
theorem faultEntry_atRest {a b : State} (h : a.settings.atRest = b.settings.atRest) :
    a.faultEntry .penUnresponsive = b.faultEntry .penUnresponsive ∧ a.faultEntry .penBattery = b.faultEntry .penBattery ∧
      a.faultEntry .baseSupply = b.faultEntry .baseSupply := by
  simp only [SettingsUnit.atRest, Prod.mk.injEq] at h
  obtain ⟨-, -, hsupply, -, hunresponsive, hbattery, -⟩ := h
  exact ⟨hunresponsive, hbattery, hsupply⟩

/-- An event that ends in the fourth failure in a row, from the state w in which the exchange fails. -/
theorem exchange_fails {f : State → State} (hs : s.betweenEvents) (hq : s.dispatch.queue = [])
    (hf : f s = w.failExchange) (hretries : ¬ w.pen.retries < 3)
    (hw : w.pen.identity = s.pen.identity ∧ w.pen.table = s.pen.table ∧ w.settings = s.settings ∧ w.dispatch = s.dispatch ∧
      w.tasks = s.tasks := by exact ⟨rfl, rfl, rfl, rfl, rfl⟩) :
    ∃ t, takeEvent s f = .next t ∧ t.now = w.now ∧ s.unanswered t := by
  obtain ⟨hidentity, htable, hsettings, hdispatch, htasks⟩ := hw
  have hentry (k : FaultKind) : w.faultEntry k = s.faultEntry k := by
    unfold State.faultEntry
    rw [hsettings]
  have hbecomes := Becomes.failExchange w hretries
  rw [← hf] at hbecomes
  obtain ⟨t, hnext, htail⟩ := takeEvent_penTail (rest := w.tasks) hs hbecomes rfl (by rw [htasks, hs.1]; rfl)
    ((congrArg Dispatcher.queue hdispatch).trans hq)
  obtain ⟨hunits, hdemand, hfaults, hstate⟩ := htail
  obtain ⟨hfault, hcoil⟩ := hstate rfl
  simp only [State.keptUnits, Prod.mk.injEq] at hunits
  obtain ⟨hnow, -, -, -, -, -, ⟨-, hid, -, -, hre, hresponse, hpoll, -, htab⟩, -⟩ := hunits
  refine ⟨t, hnext, hnow, hfault, hresponse, hre, hpoll, hcoil rfl, hid.trans hidentity, htab.trans htable, hdemand,
    faultReported_of (now := w.now) ?_ fun hinactive => ?_⟩
  · rw [← hentry]
    exact (faultEntry_atRest (a := t) hfaults).1.trans (withFault_entry _ _ _)
  · refine takeEvent_latched hs hnext ?_ ?_
    · rw [hbecomes.frame]
      show (Task.penDemand 0 :: w.tasks).all Task.fits = true
      rw [htasks, hs.1]
      rfl
    · rw [hf]
      exact failExchange_latched w hretries ((congrArg FaultEntry.active (hentry _)).trans hinactive)

end Sys2Proof.Machine
end

section
/-! A valid REPORT (R148, R150 to R154). -/

namespace Sys2Proof.Machine

set_option Elab.async false

variable {q : Bool} {L M : BitVec 10} {s t u v w e : State} {ρ : Aspect}

/-! ## The record -/

section
variable (s) (r : Sys2Proof.PenReport)

/-- The state with a REPORT's values taken, before its entry of the table is brought up to date. -/
def State.reportTaken : State :=
  { s with pen := { s.pen with response := none, retries := 0, identity := r.identity, soc := r.soc.toNat
                               temperature := r.temperature.toInt } }

/-- The pen unit with a REPORT recorded (R150). -/
def State.recordedPen : PenUnit := { (s.reportTaken r).pen with table := (s.reportTaken r).refreshedTable }

theorem Becomes.recordReport :
    Becomes false 0 (State.recordReport { s with pen := { s.pen with response := none, retries := 0 } } r)
      { s with pen := s.recordedPen r } := by
  have hswapped : Becomes false 0
      (if s.pen.identity ≠ 0 ∧ s.pen.identity ≠ r.identity then
        (State.latch { s with pen := { s.pen with response := none, retries := 0, identity := r.identity } } .pen).offerNotice .pen 7
          s.pen.state.code s.pen.state.code r.identity.toNat
      else { s with pen := { s.pen with response := none, retries := 0, identity := r.identity } })
      { s with pen := { s.pen with response := none, retries := 0, identity := r.identity } } := by
    split
    · exact (Becomes.latch _ _).unsaid.join (.offerNotice _ _ _ _ _ _)
    · exact .refl _ _
  exact (hswapped.blind (blind_updPen fun u => { u with soc := r.soc.toNat, temperature := r.temperature.toInt })).apply
    (op := State.refreshEntry) (g := fun s => { s with pen := { s.pen with table := s.refreshedTable } })
    fun w => .refreshEntry (q := false) w

theorem takeReport_eq (hresponse : s.pen.response ≠ none) (hvalid : reportValid r = true) :
    s.takeReport r =
      (State.recordReport { s with pen := { s.pen with response := none, retries := 0 } } r).decideReport r := by
  unfold State.takeReport
  cases hr : s.pen.response with
  | none => exact absurd hr hresponse
  | some e => exact if_pos hvalid

theorem takeReport_failed (hresponse : s.pen.response ≠ none) (hvalid : reportValid r = false) :
    s.takeReport r = State.failExchange { s with pen := { s.pen with response := none } } := by
  unfold State.takeReport
  cases hr : s.pen.response with
  | none => exact absurd hr hresponse
  | some e =>
    dsimp only
    rw [if_neg (by rw [hvalid]; decide)]
    rfl

theorem reportValid_named (hvalid : reportValid r = true) : r.identity ≠ 0 := by
  simp only [reportValid, Bool.and_eq_true, bne_iff_ne] at hvalid
  exact hvalid.1.2

/-- A pen stands in the refreshed table where it stood in the table. -/
theorem seatedIn_refreshed (hidentity : r.identity ≠ 0) :
    ((s.recordedPen r).seatedIn (s.recordedPen r).table).isSome =
      decide (∃ i : Fin 4, s.pen.table[i].identity = r.identity) := by
  have hspec := refreshedTable_spec (s.reportTaken r)
  obtain ⟨hnone, hsome⟩ := hspec
  unfold PenUnit.seatedIn
  have hid : (s.recordedPen r).identity = r.identity := rfl
  have htable : (s.recordedPen r).table = (s.reportTaken r).refreshedTable := rfl
  rw [hid, htable, if_neg hidentity]
  cases hfind : findPen s.pen.table r.identity with
  | none =>
    have hout := (findPen_none_iff _ _).mp hfind
    rw [hnone (.inr hout)]
    show (findPen s.pen.table r.identity).isSome = _
    rw [hfind]
    exact (decide_eq_false fun ⟨i, hi⟩ => hout i hi).symm
  | some i =>
    obtain ⟨hi, hfirst⟩ := (findPen_some_iff _ _ _).mp hfind
    rw [hsome i hidentity hi hfirst, decide_eq_true ⟨i, hi⟩]
    have hseated : findPen (s.pen.table.set i { identity := r.identity, soc := r.soc.toNat, lastSeen := s.now }) r.identity ≠ none := by
      rw [Ne, findPen_none_iff]
      exact fun h => h i (by simp)
    exact Option.isSome_iff_ne_none.mpr hseated

end

/-! ## The rows of R150 -/

section
variable (s) (r : Sys2Proof.PenReport)

/-- A battery fault up to its report (row 1). -/
def State.batteryFailing : State := (s.updPen fun u => { u with poll := none }).setPenState .fault 4

theorem decideReport_battery (h : r.flags.getLsbD 0 = true) :
    s.decideReport r = (s.batteryFailing.reportActive .penBattery).hand [.penDemand 0] := if_pos h

theorem Becomes.batteryFailing : Becomes false 0 s.batteryFailing { s with pen := { s.pen with poll := none, state := .fault } } :=
  setPenState_frame _ .fault 4

theorem Becomes.battery (h : r.flags.getLsbD 0 = true) :
    Becomes false 0 (s.decideReport r)
      (State.hand { s with pen := { s.pen with poll := none, state := .fault }
                           settings := s.settings.withFault .penBattery (FaultEntry.activated · s.now) } [.penDemand 0]) := by
  rw [decideReport_battery s r h]
  exact ((Becomes.batteryFailing s).apply (op := fun s => s.reportActive .penBattery)
    (g := fun s => { s with settings := s.settings.withFault .penBattery (FaultEntry.activated · s.now) })
    fun w => .reportActive w _).hand _

/-- Rows 2 to 6: a state without a demand. -/
theorem Becomes.restReport (h : r.flags.getLsbD 0 = false) {after : PenState} (hrest : s.restState r = some after) :
    Becomes false 0 (s.decideReport r)
      (State.hand { s with pen := { s.pen with poll := s.start (pollInterval after), state := after } } [.penDemand 0]) := by
  unfold State.decideReport batteryFault
  rw [h, hrest]
  exact (setPenState_frame (s.startPoll (pollInterval after)) after 1).hand _

/-- Row 7 up to the answer to its demand. -/
theorem decideReport_charging (h : r.flags.getLsbD 0 = false) (hrest : s.restState r = none) :
    s.decideReport r =
      State.hand { s with pen := { s.pen with poll := s.start 1000, deciding := true } }
        [.penDemand (demandFor r.soc.toNat s.settings.active.penMaximum s.sessionEntry.isSome), .penDecide] := by
  unfold State.decideReport batteryFault
  rw [h, hrest]
  rfl

/-- Whether a REPORT's temperature is out of the band of the pen's state (R151). -/
theorem outsideBand_iff (t : Int) :
    outsideBand (s.pen.state == .pausedTemp) t = true ↔
      if s.pen.state = .pausedTemp then t < 3 ∨ 42 < t else t < 0 ∨ 45 < t := by
  unfold outsideBand
  by_cases h : s.pen.state = .pausedTemp <;> simp [h]

theorem restState_held (h : s.pen.mode = .hold) : s.restState r = some .held := if_pos h

theorem chargeMode_hold_or (m : ChargeMode) : m = .hold ∨ m = .normal := by cases m <;> simp

section
variable (hmode : s.pen.mode = .normal)
include hmode

theorem restState_paused (h : outsideBand (s.pen.state == .pausedTemp) r.temperature.toInt = true) :
    s.restState r = some .pausedTemp := by
  unfold State.restState
  dsimp only
  rw [if_neg (by rw [hmode]; decide), if_pos h]

variable (hband : outsideBand (s.pen.state == .pausedTemp) r.temperature.toInt = false)
include hband

theorem restState_topped
    (h : r.flags.getLsbD 1 = false ∨ s.settings.active.penTarget ≤ r.soc.toNat ∨
      s.pen.state = .topped ∧ s.settings.active.penTopUp < r.soc.toNat) : s.restState r = some .topped := by
  unfold State.restState chargeAllowed
  dsimp only
  rw [if_neg (by rw [hmode]; decide), if_neg (by rw [hband]; decide)]
  rcases h with h | h | h
  · rw [h]
    rfl
  · by_cases hcharge : (!r.flags.getLsbD 1) = true
    · rw [if_pos hcharge]
    · rw [if_neg hcharge, if_pos h]
      exact ite_self _
  · by_cases hcharge : (!r.flags.getLsbD 1) = true
    · rw [if_pos hcharge]
    · rw [if_neg hcharge, if_pos h]

theorem restState_none (hcharge : r.flags.getLsbD 1 = true) (htarget : r.soc.toNat < s.settings.active.penTarget)
    (htop : ¬ (s.pen.state = .topped ∧ s.settings.active.penTopUp < r.soc.toNat)) : s.restState r = none := by
  unfold State.restState chargeAllowed
  dsimp only
  rw [if_neg (by rw [hmode]; decide), if_neg (by rw [hband]; decide), if_neg (by rw [hcharge]; decide), if_neg htop,
    if_neg (by omega)]

end

end

/-! ## Row 7: a demand, and the decision by its answer -/

theorem penDemand_restless (s : State) (d : Nat) : restless (s.penDemand d).tasks = restless s.tasks := by
  unfold State.penDemand
  dsimp only
  split
  · exact restless_cons (x := .penGrant) rfl
  · rw [(Becomes.recompute (q := false) _).frame]
    unfold State.withNoise State.recomputed State.hand State.setTasks
    dsimp only
    rw [restless_append, restless_append, restless_nil (grantTasks_restful _ _), restless_nil (by rfl)]
    exact restless_cons (x := .penGrant) rfl

/-- An event that states a demand and decides by its answer, whatever the demand brings. -/
theorem takeEvent_deciding {f : State → State} {d : Nat} (hs : s.betweenEvents) (hf : Becomes q L (f s) v)
    (hv : v.tasks = [.penDemand d, .penDecide]) (hq : v.dispatch.queue = []) :
    ∃ t, takeEvent s f = .next t ∧ t.keptUnits = v.keptUnits ∧ t.allot.demand.pen = d ∧
      t.settings.atRest = v.settings.atRest := by
  have htasks : (f s).tasks = .penDemand d :: [.penDecide] := by
    rw [hf.frame]
    exact hv
  have hframe : ((f s).setTasks [.penDecide]).keptUnits = v.keptUnits := by
    rw [hf.frame]
    rfl
  have hsettings : (f s).settings = v.settings := by
    rw [hf.frame]
    rfl
  have hqueue : (f s).dispatch.queue = [] := by
    rw [hf.frame]
    exact hq
  obtain ⟨t, hnext, hends⟩ := takeEvent_ends hs (Carried.penDemand htasks)
  obtain ⟨-, hdispatch, hsame⟩ := penDemand_pen ((f s).setTasks [.penDecide]) d
  have hdemand := penDemand_demand ((f s).setTasks [.penDecide]) d
  have hunits := keptUnits_penDemand ((f s).setTasks [.penDecide]) d
  have hrestless : restless (((f s).setTasks [.penDecide]).penDemand d).tasks = [.penDecide] :=
    (penDemand_restless _ d).trans rfl
  have hcalm : (((f s).setTasks [.penDecide]).penDemand d).tasks.all Task.calm = true := by
    rw [List.all_eq_true]
    intro x hx
    cases hrestful : x.restful with
    | true => exact calm_of_restful hrestful
    | false =>
      have hmem : x ∈ restless (((f s).setTasks [.penDecide]).penDemand d).tasks :=
        List.mem_filter.mpr ⟨hx, by rw [hrestful]; rfl⟩
      rw [hrestless, List.mem_singleton] at hmem
      rw [hmem]
      rfl
  generalize ((f s).setTasks [.penDecide]).penDemand d = x at *
  have hxqueue : x.dispatch.queue = [] := (congrArg Dispatcher.queue hdispatch).trans hqueue
  refine ⟨t, hnext, (hends.keptUnits hcalm hxqueue).trans (hunits.trans hframe), ?_⟩
  obtain ⟨m, -, rfl⟩ := hends
  obtain ⟨hrun, hfaults⟩ := rests_runDeciding m x hrestless hxqueue
  rw [closeBoard_frame]
  exact ⟨hrun.trans (congrArg Allotments.pen hdemand),
    hfaults.trans (congrArg SettingsUnit.atRest (hsame.trans hsettings))⟩

end Sys2Proof.Machine
end

section
/-! Recomputations that only raise or only lower grants (R166, R167), and the exchange with the pen together. -/

namespace Sys2Proof.Machine

set_option Elab.async false

variable {q : Bool} {L M : BitVec 10} {s t u v w e : State} {ρ : Aspect}

/-! ## Grants that only rise, and grants that only fall -/

theorem allotments_eq_iff (a b : Allotments) :
    a = b ↔ a.coil = b.coil ∧ a.base = b.base ∧ a.pen = b.pen ∧ a.backlight = b.backlight := by
  cases a
  cases b
  simp only [Allotments.mk.injEq]

theorem raised_increasesOf (g t : Allotments) (h : lowered g t = g) : raised g (increasesOf g t) = t := by
  simp only [lowered, allotments_eq_iff] at h
  obtain ⟨hcoil, hbase, hpen, hbacklight⟩ := h
  unfold raised increasesOf increaseOf
  simp only [allotments_eq_iff]
  refine ⟨?_, ?_, ?_, ?_⟩ <;> split <;> simp only [Option.getD] <;> omega

theorem increasesOf_fallen (g t : Allotments) (h : lowered g t = t) : increasesOf g t = noIncreases := by
  simp only [lowered, allotments_eq_iff] at h
  obtain ⟨hcoil, hbase, hpen, hbacklight⟩ := h
  unfold increasesOf increaseOf noIncreases
  rw [if_neg (by omega), if_neg (by omega), if_neg (by omega), if_neg (by omega)]

theorem underVoltageAfter_same (on low : Bool) (timer started : Timer) : underVoltageAfter on on low timer started = timer := by
  cases on <;> rfl

section
variable (s)

/-- The grants that the budget and the demands select. -/
def State.target : Allotments := targets s.allot.budget s.allot.demand

theorem grantTasks_same (g : Allotments) : grantTasks g g = [] := by simp [grantTasks]

/-- Nothing is awaited after a recomputation that lowers nothing. -/
theorem awaitingAfter_raised (g t : Allotments) (off : Bool) (deadline : PartTime) (h : lowered g t = g) :
    awaitingAfter [] g t off deadline = [] := by
  simp only [lowered, allotments_eq_iff] at h
  obtain ⟨-, -, hpen, hbacklight⟩ := h
  unfold awaitingAfter
  dsimp only
  rw [if_neg (by omega), if_neg (by omega)]

/-- A recomputation that lowers nothing makes every rise pending. -/
theorem recomputed_rising (h : lowered s.allot.grant s.target = s.allot.grant) (hawaiting : s.allot.awaiting = []) :
    s.recomputed =
      State.hand { s with allot := { s.allot with increases := increasesOf s.allot.grant s.target } } [.settleIncreases, .coilAnswer] := by
  have hon : s.vbaseWith s.allot.grant = s.vbaseOn := rfl
  unfold State.recomputed State.recomputedAllot State.granted
  rw [← State.target, h, grantTasks_same, hawaiting, awaitingAfter_raised _ _ _ _ h, hon, underVoltageAfter_same, ← hawaiting]
  rfl

/-- A recomputation that lowers nothing, with its rises put in force. -/
theorem Leads.recomputeRising (h : lowered s.allot.grant s.target = s.allot.grant) (hawaiting : s.allot.awaiting = []) :
    Leads q 0 1 s.recomputed
      (State.hand { s with allot := s.granted s.target noIncreases } (grantTasks s.allot.grant s.target ++ [.coilAnswer, .coilAnswer])) := by
  rw [recomputed_rising s h hawaiting]
  refine Leads.front (x := .settleIncreases) (rest := .coilAnswer :: s.tasks) rfl fun a => ?_
  have hsettle := Becomes.settleIncreases (q := q)
    (State.withNoise (State.setTasks { s with allot := { s.allot with increases := increasesOf s.allot.grant s.target } }
      (.coilAnswer :: s.tasks)) a) hawaiting
  have hraised : raised s.allot.grant (increasesOf s.allot.grant s.target) = s.target := raised_increasesOf _ _ h
  unfold State.settled State.granted at hsettle
  dsimp only [State.withNoise, State.setTasks] at hsettle
  rw [hraised] at hsettle
  refine (congrArg (Becomes q 0 _) ?_).mp hsettle
  unfold State.hand State.setTasks State.withNoise State.granted
  dsimp only
  rw [List.append_assoc, List.append_assoc]
  rfl

/-- A recomputation that raises nothing puts its grants in force. -/
theorem recomputed_falling (h : lowered s.allot.grant s.target = s.target) :
    s.recomputed =
      State.hand
        { s with allot := { s.granted s.target noIncreases with
                            awaiting := awaitingAfter s.allot.awaiting s.allot.grant s.target
                              (s.vbaseOn && !s.vbaseWith s.target) (s.after 100) } }
        (grantTasks s.allot.grant s.target ++ [.settleIncreases, .coilAnswer]) := by
  unfold State.recomputed State.recomputedAllot
  rw [← State.target, h, increasesOf_fallen _ _ h]

end

/-! ## A PEN demand alone, with a pen that decides (R150, row 7) -/

theorem targets_pen (budget d : Nat) : targets budget ⟨0, 0, d, 0⟩ = ⟨0, 0, penTarget budget ⟨0, 0, d, 0⟩, 0⟩ := by
  simp [targets, coilTarget, baseTarget, backlightTarget]

theorem Leads.coilAnswerIdle {rest : List Task} (h : s.tasks = .coilAnswer :: rest) (hcoil : s.allot.demand.coil ≠ 1200) :
    Leads q 0 1 s (s.setTasks rest) := .exact h fun a => coilAnswer_undemanded ((s.setTasks rest).withNoise a) hcoil

/-- Hand-ons of the PEN grant to a pen that decides. -/
theorem Leads.penGrantsDeciding {ts rest : List Task} (h : s.tasks = ts ++ rest) (hts : ts = [] ∨ ts = [.penGrant])
    (hdeciding : s.pen.deciding = true) : ∃ k ≤ 1, Leads q 0 k s (s.setTasks rest) := by
  rcases hts with rfl | rfl
  · exact ⟨0, by decide, by rw [show s.setTasks rest = s by rw [← show s.tasks = rest from h]; rfl]; exact .refl q s⟩
  · exact ⟨1, le_rfl, .exact h fun a => if_pos hdeciding⟩

theorem grantTasks_pen (a b : Nat) : grantTasks ⟨0, 0, a, 0⟩ ⟨0, 0, b, 0⟩ = [] ∨ grantTasks ⟨0, 0, a, 0⟩ ⟨0, 0, b, 0⟩ = [.penGrant] := by
  by_cases h : a = b <;> simp [grantTasks, h]

/-- The PEN demand of a pen that decides, with no other claim: the grants follow it in the same event. -/
theorem Leads.penDemandAlone {d p : Nat} {rest : List Task} (h : s.tasks = .penDemand d :: rest) (hdeciding : s.pen.deciding = true)
    (hdemand : s.allot.demand = ⟨0, 0, p, 0⟩) (hgrants : GrantsWithinTargets s) (hawaiting : s.allot.awaiting = [])
    (hinc : s.allot.increases = noIncreases) :
    ∃ k ≤ 8, ∃ A : AllotUnit, Leads false 0 k s { s with allot := A, tasks := rest } ∧ A.budget = s.allot.budget ∧
      A.demand = ⟨0, 0, d, 0⟩ ∧ A.grant = targets s.allot.budget ⟨0, 0, d, 0⟩ := by
  obtain ⟨-, hraised, -⟩ := hgrants
  rw [hinc, hdemand] at hraised
  by_cases hd : p = d
  · subst hd
    have hheld := Leads.penDemandHeld h (by rw [hdemand])
    rw [show s.grantedPen = s.pen from if_pos hdeciding] at hheld
    exact ⟨2, by decide, s.allot, hheld, rfl, hdemand, hraised⟩
  have hne : s.allot.demand.pen ≠ d := by
    rw [hdemand]
    exact hd
  obtain ⟨w, hw⟩ : ∃ w : State, w = { s with allot := { s.allot with demand := ⟨0, 0, d, 0⟩ }, tasks := .penGrant :: rest } := ⟨_, rfl⟩
  have hwdemand : w.allot.demand = ⟨0, 0, d, 0⟩ := by rw [hw]
  have hwbudget : w.allot.budget = s.allot.budget := by rw [hw]
  have hwgrant : w.allot.grant = ⟨0, 0, penTarget s.allot.budget ⟨0, 0, p, 0⟩, 0⟩ := by
    rw [hw, ← targets_pen]
    exact hraised
  have hwtarget : w.target = ⟨0, 0, penTarget s.allot.budget ⟨0, 0, d, 0⟩, 0⟩ := by
    rw [State.target, hwdemand, hwbudget, targets_pen]
  have hwawaiting : w.allot.awaiting = [] := by
    rw [hw]
    exact hawaiting
  have hwpen : w.pen.deciding = true := by
    rw [hw]
    exact hdeciding
  have hwtasks : w.tasks = .penGrant :: rest := by rw [hw]
  have hframe (A : AllotUnit) (ts : List Task) : ({ w with allot := A, tasks := ts } : State) = { s with allot := A, tasks := ts } := by
    rw [hw]
  have hask : Leads false 0 1 s w.recomputed := by
    refine .front h fun a => ?_
    have hset : doTask (.penDemand d) ((s.setTasks rest).withNoise a) = (w.withNoise a).recompute := by
      refine (if_neg hne).trans (congrArg State.recompute ?_)
      rw [hw]
      show State.setDemand _ _ = _
      unfold State.setDemand State.updAllot
      dsimp only [State.hand, State.setTasks, State.withNoise]
      rw [hdemand]
      rfl
    rw [hset]
    exact .recompute (w.withNoise a)
  rcases Nat.le_total (penTarget s.allot.budget ⟨0, 0, p, 0⟩) (penTarget s.allot.budget ⟨0, 0, d, 0⟩) with hle | hle
  · have hrising : lowered w.allot.grant w.target = w.allot.grant := by
      rw [hwgrant, hwtarget]
      simp [lowered, hle]
    obtain ⟨x, hx⟩ : ∃ x : State, x = { w with allot := w.granted w.target noIncreases } := ⟨_, rfl⟩
    have hraise := Leads.recomputeRising (q := false) w hrising hwawaiting
    rw [← hx] at hraise
    have hxdeciding : x.pen.deciding = true := by
      rw [hx]
      exact hwpen
    have hxcoil : x.allot.demand.coil ≠ 1200 := by
      rw [hx]
      show w.allot.demand.coil ≠ 1200
      simp [hwdemand]
    obtain ⟨k, hk, hgrant⟩ := Leads.penGrantsDeciding (q := false) (s := x.hand (grantTasks w.allot.grant w.target ++ [.coilAnswer, .coilAnswer]))
      (rest := .coilAnswer :: .coilAnswer :: .penGrant :: rest)
      (by
        show (_ ++ _) ++ x.tasks = _ ++ _
        rw [hx, List.append_assoc]
        show _ ++ ([_, _] ++ w.tasks) = _
        rw [hwtasks]
        rfl)
      (by rw [hwgrant, hwtarget]; exact grantTasks_pen _ _) hxdeciding
    have hone : Leads false 0 1 (x.setTasks (.coilAnswer :: .coilAnswer :: .penGrant :: rest))
        (x.setTasks (.coilAnswer :: .penGrant :: rest)) := .coilAnswerIdle rfl hxcoil
    have htwo : Leads false 0 1 (x.setTasks (.coilAnswer :: .penGrant :: rest)) (x.setTasks (.penGrant :: rest)) :=
      .coilAnswerIdle rfl hxcoil
    have hlast : Leads false 0 1 (x.setTasks (.penGrant :: rest)) (x.setTasks rest) := .exact rfl fun a => if_pos hxdeciding
    have hall := (((((hask.next hraise).next hgrant).next hone).next htwo).next hlast)
    refine ⟨1 + 1 + k + 1 + 1 + 1, by omega, w.granted w.target noIncreases, ?_, hwbudget, hwdemand, ?_⟩
    · have hend : x.setTasks rest = { s with allot := w.granted w.target noIncreases, tasks := rest } := by
        rw [hx]
        exact hframe _ _
      rw [hend] at hall
      exact hall
    · show w.target = _
      rw [hwtarget, targets_pen]
  · have hfalling : lowered w.allot.grant w.target = w.target := by
      rw [hwgrant, hwtarget]
      simp [lowered, hle]
    rw [recomputed_falling w hfalling] at hask
    generalize hA : ({ w.granted w.target noIncreases with
      awaiting := awaitingAfter w.allot.awaiting w.allot.grant w.target (w.vbaseOn && !w.vbaseWith w.target) (w.after 100) } : AllotUnit) = A
      at hask
    have hAgrant : A.grant = w.target ∧ A.demand = w.allot.demand ∧ A.budget = w.allot.budget ∧ A.increases = noIncreases := by
      rw [← hA]
      exact ⟨rfl, rfl, rfl, rfl⟩
    obtain ⟨hAgrant, hAdemand, hAbudget, hAinc⟩ := hAgrant
    obtain ⟨x, hx⟩ : ∃ x : State, x = { w with allot := A } := ⟨_, rfl⟩
    rw [← hx] at hask
    have hxdeciding : x.pen.deciding = true := by
      rw [hx]
      exact hwpen
    obtain ⟨k, hk, hgrant⟩ := Leads.penGrantsDeciding (q := false) (s := x.hand (grantTasks w.allot.grant w.target ++ [.settleIncreases, .coilAnswer]))
      (rest := .settleIncreases :: .coilAnswer :: .penGrant :: rest)
      (by
        show (_ ++ _) ++ x.tasks = _ ++ _
        rw [hx, List.append_assoc]
        show _ ++ ([_, _] ++ w.tasks) = _
        rw [hwtasks]
        rfl)
      (by rw [hwgrant, hwtarget]; exact grantTasks_pen _ _) hxdeciding
    obtain ⟨j, hj, hsettle⟩ := Leads.settleUndemanded (q := false)
      (s := x.setTasks (.settleIncreases :: .coilAnswer :: .penGrant :: rest)) (rest := .penGrant :: rest) rfl
      (by rw [hx]; exact hAinc) (by
        rw [hx]
        show A.demand.coil ≠ 1200
        simp [hAdemand, hwdemand])
    have hlast : Leads false 0 1 (x.setTasks (.penGrant :: rest)) (x.setTasks rest) := .exact rfl fun a => if_pos hxdeciding
    have hall := ((hask.next hgrant).next hsettle).next hlast
    refine ⟨1 + k + j + 1, by omega, A, ?_, hAbudget.trans hwbudget, hAdemand.trans hwdemand, ?_⟩
    · have hend : x.setTasks rest = { s with allot := A, tasks := rest } := by
        rw [hx]
        exact hframe _ _
      rw [hend] at hall
      exact hall
    · rw [hAgrant, hwtarget, targets_pen]

end Sys2Proof.Machine
end

section
/-! REPORT and the timers of the exchange together (R148 to R154). -/

namespace Sys2Proof.Machine

set_option Elab.async false

variable {q : Bool} {L M : BitVec 10} {s t u v w e : State} {ρ : Aspect}

section
variable {r : Sys2Proof.PenReport} (hs : s.betweenEvents) (hq : s.dispatch.queue = []) (hresponse : s.pen.response ≠ none)
  (hvalid : reportValid r = true)

/-- What every valid REPORT leaves (R150), with its poll and its demand. -/
structure Reported (s : State) (r : Sys2Proof.PenReport) (poll : Timer) (d : Nat) (t : State) : Prop where
  identity : t.pen.identity = r.identity
  soc : t.pen.soc = r.soc.toNat
  temperature : t.pen.temperature = r.temperature.toInt
  response : t.pen.response = none
  retries : t.pen.retries = 0
  mode : t.pen.mode = s.pen.mode
  table : s.tableRefreshed r.identity r.soc.toNat s.now t.pen.table
  unresponsive : t.faultEntry .penUnresponsive = s.faultEntry .penUnresponsive
  poll : t.pen.poll = poll
  demand : t.allot.demand.pen = d

/-- The kept units of a recorded REPORT, whatever state it decides. -/
theorem reported_of {poll : Timer} {d : Nat} {after : PenState} {deciding : Bool} {x : State}
    (hx : x = { s with pen := { s.recordedPen r with poll := poll, state := after, deciding := deciding }
                       settings := x.settings, tasks := x.tasks })
    (hunits : t.keptUnits = x.keptUnits) (hdemand : t.allot.demand.pen = d)
    (hfault : t.faultEntry .penUnresponsive = s.faultEntry .penUnresponsive) : Reported s r poll d t := by
  have hpen : x.pen = { s.recordedPen r with poll := poll, state := after, deciding := deciding } := by rw [hx]
  simp only [State.keptUnits, Prod.mk.injEq] at hunits
  obtain ⟨-, -, -, -, -, -, ⟨-, hidentity, hsoc, htemperature, hretries, hresponse, hpoll, hmode, htable⟩, -⟩ := hunits
  rw [hpen] at hidentity hsoc htemperature hretries hresponse hpoll hmode htable
  refine ⟨hidentity, hsoc, htemperature, hresponse, hretries, hmode, ?_, hfault, hpoll, hdemand⟩
  rw [htable]
  exact refreshedTable_spec (s.reportTaken r)

include hs hq hresponse hvalid

/-- Row 1 of R150. -/
theorem report_battery (hflag : r.flags.getLsbD 0 = true) :
    ∃ t, exec (.report r) s = .next t ∧ Reported s r none 0 t ∧ t.pen.state = .fault ∧ s.faultReported t .penBattery := by
  obtain ⟨x, hx⟩ : ∃ x, x = State.recordReport { s with pen := { s.pen with response := none, retries := 0 } } r := ⟨_, rfl⟩
  have hrecorded : Becomes false 0 x { s with pen := s.recordedPen r } := hx ▸ Becomes.recordReport s r
  have htake : s.takeReport r = x.decideReport r := by
    rw [hx]
    exact takeReport_eq s r hresponse hvalid
  have hbecomes : Becomes false 0 (s.takeReport r)
      (State.hand { s with pen := { s.recordedPen r with poll := none, state := .fault }
                           settings := s.settings.withFault .penBattery (FaultEntry.activated · s.now) } [.penDemand 0]) := by
    rw [htake]
    exact hrecorded.apply (op := fun s => s.decideReport r)
      (g := fun s => State.hand { s with pen := { s.pen with poll := none, state := .fault }
                                         settings := s.settings.withFault .penBattery (FaultEntry.activated · s.now) } [.penDemand 0])
      fun w => .battery w r hflag
  obtain ⟨t, hnext, hunits, hdemand, hfaults, hstate⟩ := takeEvent_penTail (f := fun u => u.takeReport r) (rest := s.tasks) hs hbecomes rfl
    (by rw [hs.1]; rfl) hq
  obtain ⟨hunresponsive, hbattery, -⟩ := faultEntry_atRest (a := t) hfaults
  refine ⟨t, hnext, reported_of (after := .fault) (deciding := s.pen.deciding) rfl hunits hdemand (hunresponsive.trans ?_), (hstate rfl).1,
    faultReported_of (now := s.now) (hbattery.trans (withFault_entry _ _ _)) fun hinactive => ?_⟩
  · unfold State.faultEntry State.hand State.setTasks SettingsUnit.withFault
    simp only [FaultKind.index]
    simp
  · refine takeEvent_latched hs hnext ?_ ?_
    · rw [hbecomes.frame]
      show (Task.penDemand 0 :: s.tasks).all Task.fits = true
      rw [hs.1]
      rfl
    · rw [htake, decideReport_battery x r hflag]
      refine reportActive_latched x.batteryFailing .penBattery ?_
      rw [(Becomes.batteryFailing x).frame, hrecorded.frame]
      exact hinactive

/-- Rows 2 to 6 of R150. -/
theorem report_rests (hflag : r.flags.getLsbD 0 = false) {after : PenState} (hafter : after.charges = false)
    (hrest : State.restState { s with pen := s.recordedPen r } r = some after) :
    ∃ t, exec (.report r) s = .next t ∧ Reported s r (some (s.after (pollInterval after))) 0 t ∧ t.pen.state = after ∧
      t.faultEntry .penBattery = s.faultEntry .penBattery := by
  have hbecomes : Becomes false 0 (s.takeReport r)
      (State.hand { s with pen := { s.recordedPen r with poll := s.start (pollInterval after), state := after } } [.penDemand 0]) := by
    obtain ⟨x, hx⟩ : ∃ x, x = State.recordReport { s with pen := { s.pen with response := none, retries := 0 } } r := ⟨_, rfl⟩
    have hrecorded : Becomes false 0 x { s with pen := s.recordedPen r } := hx ▸ Becomes.recordReport s r
    rw [takeReport_eq s r hresponse hvalid, ← hx]
    have hxrest : x.restState r = some after := by
      rw [hrecorded.frame]
      exact hrest
    have hdecided := Becomes.restReport x r hflag hxrest
    have hblind : Becomes false 0
        (State.hand { x with pen := { x.pen with poll := x.start (pollInterval after), state := after } } [.penDemand 0])
        (State.hand { s with pen := { s.recordedPen r with poll := s.start (pollInterval after), state := after } } [.penDemand 0]) :=
      hrecorded.blind (f := fun w => State.hand { w with pen := { w.pen with poll := w.start (pollInterval after), state := after } }
        [.penDemand 0]) ⟨fun _ _ => rfl, fun _ => ⟨rfl, rfl, rfl⟩⟩
    exact hblind.then hdecided
  obtain ⟨t, hnext, hunits, hdemand, hfaults, hstate⟩ := takeEvent_penTail (f := fun u => u.takeReport r) (rest := s.tasks) hs hbecomes rfl
    (by rw [hs.1]; rfl) hq
  obtain ⟨hunresponsive, hbattery, -⟩ := faultEntry_atRest (a := t) hfaults
  exact ⟨t, hnext, reported_of (after := after) (deciding := s.pen.deciding) rfl hunits hdemand hunresponsive, (hstate hafter).1, hbattery⟩

/-- Row 7 of R150: the demand, and with no other claim the grants and the state that follow from it. -/
theorem report_charges (hflag : r.flags.getLsbD 0 = false)
    (hrest : State.restState { s with pen := s.recordedPen r } r = none) :
    ∃ t, exec (.report r) s = .next t ∧ Reported s r (some (s.after 1000)) (s.demandRule r.soc.toNat r.identity) t ∧
      t.faultEntry .penBattery = s.faultEntry .penBattery ∧
      (s.allot.demand = ⟨0, 0, s.allot.demand.pen, 0⟩ → GrantsWithinTargets s → s.allot.awaiting = [] →
        s.allot.increases = noIncreases →
        t.allot.grant = targets s.allot.budget t.allot.demand ∧
          t.pen.state = (if 150 ≤ t.allot.grant.pen then .charging else .deferred) ∧
          t.pen.coilPower = t.allot.grant.pen) := by
  have hd : demandFor r.soc.toNat s.settings.active.penMaximum (State.sessionEntry { s with pen := s.recordedPen r }).isSome =
      s.demandRule r.soc.toNat r.identity := by
    have hseated : (State.sessionEntry { s with pen := s.recordedPen r }).isSome =
        decide (∃ i : Fin 4, s.pen.table[i].identity = r.identity) := seatedIn_refreshed s r (reportValid_named r hvalid)
    rw [hseated]
    unfold demandFor State.demandRule
    dsimp only
    by_cases hpaired : ∃ i : Fin 4, s.pen.table[i].identity = r.identity
    · rw [decide_eq_true hpaired, if_pos rfl, if_pos hpaired]
    · rw [decide_eq_false hpaired, if_neg (by decide), if_neg hpaired]
  obtain ⟨p, hp⟩ : ∃ p : PenUnit, p = { s.recordedPen r with poll := s.start 1000, deciding := true } := ⟨_, rfl⟩
  have hbecomes : Becomes false 0 (s.takeReport r)
      { s with pen := p, tasks := [.penDemand (s.demandRule r.soc.toNat r.identity), .penDecide] } := by
    obtain ⟨x, hx⟩ : ∃ x, x = State.recordReport { s with pen := { s.pen with response := none, retries := 0 } } r := ⟨_, rfl⟩
    have hrecorded : Becomes false 0 x { s with pen := s.recordedPen r } := hx ▸ Becomes.recordReport s r
    rw [takeReport_eq s r hresponse hvalid, ← hx]
    have hxrest : x.restState r = none := by
      rw [hrecorded.frame]
      exact hrest
    rw [decideReport_charging x r hflag hxrest]
    have hblind := hrecorded.blind (f := fun w => State.hand { w with pen := { w.pen with poll := w.start 1000, deciding := true } }
      [.penDemand (demandFor r.soc.toNat w.settings.active.penMaximum w.sessionEntry.isSome), .penDecide])
      ⟨fun _ _ => rfl, fun _ => ⟨rfl, rfl, rfl⟩⟩
    refine (congrArg (Becomes false 0 _) ?_).mp hblind
    unfold State.hand State.setTasks
    dsimp only
    rw [hd, hs.1, hp]
    rfl
  obtain ⟨t, hnext, hunits, hdemand, hfaults⟩ := takeEvent_deciding (f := fun u => u.takeReport r) hs hbecomes rfl hq
  obtain ⟨hunresponsive, hbattery, -⟩ := faultEntry_atRest (a := t) hfaults
  have hreported : Reported s r (some (s.after 1000)) (s.demandRule r.soc.toNat r.identity) t :=
    reported_of (after := s.pen.state) (deciding := true) (by rw [hp]; rfl) hunits hdemand hunresponsive
  refine ⟨t, hnext, hreported, hbattery, fun hclaims hgrants hawaiting hinc => ?_⟩
  obtain ⟨k, hk, A, hlead, hbudget, hAdemand, hgrant⟩ := Leads.penDemandAlone
    (s := { s with pen := p, tasks := [.penDemand (s.demandRule r.soc.toNat r.identity), .penDecide] }) rfl
    (by rw [hp]) hclaims hgrants hawaiting hinc
  obtain ⟨y, hy⟩ : ∃ y : State, y = { s with pen := p, allot := A, tasks := [.penDecide] } := ⟨_, rfl⟩
  have hdecide : Leads false 0 1 y
      { y with pen := PenUnit.powered { p with deciding := false, state := if 150 ≤ A.grant.pen then .charging else .deferred }
                        (usableGrant A.grant.pen), tasks := [] } := by
    rw [hy]
    exact .front (x := .penDecide) (rest := []) rfl fun a =>
      (setPenState_frame (State.withNoise { s with pen := { p with deciding := false }, allot := A, tasks := [] } a)
        (if 150 ≤ A.grant.pen then .charging else .deferred) 1).blind (blind_setCoilPower (usableGrant A.grant.pen))
  have hlead' : Leads false 0 k { s with pen := p, tasks := [.penDemand (s.demandRule r.soc.toNat r.identity), .penDecide] } y := by
    rw [hy]
    exact hlead
  obtain ⟨t', hnext', hframe, -⟩ := takeEvent_leads (f := fun u => u.takeReport r) hs hbecomes ⟨rfl, rfl, rfl⟩ (hlead'.next hdecide) rfl (by omega)
  have hnext'' : exec (.report r) s = .next t' := hnext'
  obtain rfl := Host.Outcome.next.inj (hnext.symm.trans hnext'')
  have hallot : t.allot = A := (congrArg State.allot hframe).trans (by rw [hy]; rfl)
  have hpen : t.pen = PenUnit.powered { p with deciding := false, state := if 150 ≤ A.grant.pen then .charging else .deferred }
      (usableGrant A.grant.pen) := congrArg State.pen hframe
  have hgrants : A.grant = targets s.allot.budget A.demand := by rw [hAdemand]; exact hgrant
  rw [hallot, hpen]
  refine ⟨hgrants, rfl, ?_⟩
  show usableGrant A.grant.pen = A.grant.pen
  rw [hgrant, targets_pen]
  unfold usableGrant penTarget
  dsimp only
  split <;> rfl

end

/-- Settles O53: an exchange answered by the row of R150 that the REPORT meets, or failed. -/
theorem penExchange : Obligations.PenExchange := by
  unfold Obligations.PenExchange
  intro s hs hq tooHot tried reported unanswered
  refine ⟨fun r hnone => takeEvent_self s _ hs ?_, fun r hresponse hvalid => ?_, fun r hresponse hvalid hretries => ?_,
    fun r hresponse hvalid hretries => ?_, fun e htimer => ⟨fun hretries => ?_, fun hretries => ?_⟩, fun e htimer => ?_⟩
  · unfold State.takeReport
    rw [hnone]
  · have hmode (m : ChargeMode) (h : s.pen.mode = m) : (s.recordedPen r).mode = m := h
    have hhot : outsideBand (s.pen.state == .pausedTemp) r.temperature.toInt = true ↔ tooHot r.temperature.toInt :=
      outsideBand_iff s r.temperature.toInt
    cases hflag : r.flags.getLsbD 0 with
    | true =>
      obtain ⟨t, hnext, ⟨h1, h2, h3, h4, h5, h6, h7, h8, h9, h10⟩, hstate, hreported⟩ := report_battery hs hq hresponse hvalid hflag
      exact ⟨t, hnext, h1, h2, h3, h4, h5, h6, h7, h8, (fun e => by cases e), fun _ => ⟨hstate, h9, h10, hreported⟩,
        (fun e => by cases e), (fun e => by cases e), (fun e => by cases e), (fun e => by cases e)⟩
    | false =>
      rcases chargeMode_hold_or s.pen.mode with hhold | hnormal
      · obtain ⟨t, hnext, ⟨h1, h2, h3, h4, h5, h6, h7, h8, h9, h10⟩, hstate, hbattery⟩ := report_rests (after := .held) hs hq hresponse
          hvalid hflag rfl (restState_held _ r hhold)
        have hno (e : s.pen.mode = .normal) : False := by rw [hhold] at e; cases e
        exact ⟨t, hnext, h1, h2, h3, h4, h5, h6, h7, h8, fun _ => hbattery, (fun e => by cases e), fun _ _ => ⟨hstate, h9, h10⟩,
          fun _ e => (hno e).elim, fun _ e => (hno e).elim, fun _ e => (hno e).elim⟩
      have hno (e : s.pen.mode = .hold) : False := by rw [hnormal] at e; cases e
      by_cases hout : tooHot r.temperature.toInt
      · obtain ⟨t, hnext, ⟨h1, h2, h3, h4, h5, h6, h7, h8, h9, h10⟩, hstate, hbattery⟩ := report_rests (after := .pausedTemp) hs hq
          hresponse hvalid hflag rfl (restState_paused _ r hnormal (hhot.mpr hout))
        exact ⟨t, hnext, h1, h2, h3, h4, h5, h6, h7, h8, fun _ => hbattery, (fun e => by cases e), fun _ e => (hno e).elim,
          fun _ _ _ => ⟨hstate, h9, h10⟩, fun _ _ e => absurd hout e, fun _ _ e => absurd hout e⟩
      have hband : outsideBand (s.pen.state == .pausedTemp) r.temperature.toInt = false := by
        rw [← Bool.not_eq_true]
        exact fun e => hout (hhot.mp e)
      by_cases htop : r.flags.getLsbD 1 = false ∨ s.settings.active.penTarget ≤ r.soc.toNat ∨
          s.pen.state = .topped ∧ s.settings.active.penTopUp < r.soc.toNat
      · obtain ⟨t, hnext, ⟨h1, h2, h3, h4, h5, h6, h7, h8, h9, h10⟩, hstate, hbattery⟩ := report_rests (after := .topped) hs hq
          hresponse hvalid hflag rfl (restState_topped _ r hnormal hband htop)
        refine ⟨t, hnext, h1, h2, h3, h4, h5, h6, h7, h8, fun _ => hbattery, (fun e => by cases e), fun _ e => (hno e).elim,
          fun _ _ e => absurd e hout, fun _ _ _ _ => ⟨hstate, h9, h10⟩, fun _ _ _ hcharge htarget hnot => ?_⟩
        rcases htop with h | h | h
        · rw [hcharge] at h
          cases h
        · omega
        · exact absurd h hnot
      · have hparts : r.flags.getLsbD 1 = true ∧ r.soc.toNat < s.settings.active.penTarget ∧
            ¬ (s.pen.state = .topped ∧ s.settings.active.penTopUp < r.soc.toNat) := by
          rw [not_or, not_or, Bool.not_eq_false, Nat.not_le] at htop
          exact htop
        obtain ⟨hcharge, htarget, hnot⟩ := hparts
        obtain ⟨t, hnext, ⟨h1, h2, h3, h4, h5, h6, h7, h8, h9, h10⟩, hbattery, hgrants⟩ := report_charges hs hq hresponse hvalid hflag
          (restState_none _ r hnormal hband hcharge htarget hnot)
        exact ⟨t, hnext, h1, h2, h3, h4, h5, h6, h7, h8, fun _ => hbattery, (fun e => by cases e), fun _ e => (hno e).elim,
          fun _ _ e => absurd e hout, fun _ _ _ e => absurd e htop,
          fun _ _ _ _ _ _ => ⟨h9, h10, fun ha hb hc _ hd => hgrants ha hb hc hd⟩⟩
  · exact takeEvent_set hs ((takeReport_failed s r hresponse hvalid).trans (failExchange_tried _ hretries)) ⟨rfl, rfl⟩ rfl
  · exact exchange_fails hs hq (takeReport_failed s r hresponse hvalid) (Nat.not_lt.mpr hretries)
  · refine (takeEvent_expiry hs (x := fun s => s.pen.response) (g := State.responseExpired) htimer).trans ?_
    exact takeEvent_set (f := fun u => (u.setNow (s.reach e).now).responseExpired) hs
      (failExchange_tried (State.updPen (s.setNow (s.reach e).now) fun u => { u with response := none }) hretries) ⟨rfl, rfl⟩ rfl
  · obtain ⟨t, hnext, hnow, hunanswered⟩ := exchange_fails (f := fun u => (u.setNow (s.reach e).now).responseExpired)
      (w := State.updPen (s.setNow (s.reach e).now) fun u => { u with response := none }) hs hq rfl (Nat.not_lt.mpr hretries)
    exact ⟨t, (takeEvent_expiry hs (x := fun s => s.pen.response) (g := State.responseExpired) htimer).trans hnext, hnow, hunanswered⟩
  · refine (takeEvent_expiry hs (x := fun s => s.pen.poll) (g := State.pollExpired) htimer).trans ?_
    exact takeEvent_set (f := fun u => (u.setNow (s.reach e).now).pollExpired) hs (beginExchange_eq _) ⟨rfl, rfl⟩ rfl

end Sys2Proof.Machine
end

section
/-! States up to the sleep unit's idle timer, advice and grace, and to what notices leave; hand-ons followed up to that. With no
input and no slot waiting, a run of the hand-ons that change no more is carried at once. -/

namespace Sys2Proof.Machine

set_option Elab.async false

variable {q : Bool} {L M : BitVec 10} {s t u v w e : State}

/-! ## States alike -/

/-- The same sleep unit but for the idle timer, the advice and the grace timer. -/
def SleepUnit.alike (τ σ : SleepUnit) : Prop :=
  τ = { σ with idle := τ.idle, idleShown := τ.idleShown, advice := τ.advice, grace := τ.grace }

theorem SleepUnit.alike.refl (σ : SleepUnit) : σ.alike σ := rfl

theorem SleepUnit.alike.trans {ρ τ σ : SleepUnit} (h : ρ.alike τ) (h' : τ.alike σ) : ρ.alike σ := by
  unfold SleepUnit.alike at h h' ⊢
  rw [h'] at h
  exact h

/-- The same but for that and for what notices leave. -/
def Like (s v : State) : Prop := ∃ τ a, SleepUnit.alike τ s.sleep ∧ v = State.withNoise { s with sleep := τ } a

theorem Like.refl (s : State) : Like s s := ⟨s.sleep, s, rfl, rfl⟩

theorem Like.frame (h : Like s v) : v = State.withNoise { s with sleep := v.sleep } v := by
  obtain ⟨τ, a, -, rfl⟩ := h
  rfl

theorem Like.sleep (h : Like s v) : v.sleep.alike s.sleep := by
  obtain ⟨τ, a, hτ, rfl⟩ := h
  exact hτ

theorem Like.of (hsleep : v.sleep.alike s.sleep) (hframe : v = State.withNoise { s with sleep := v.sleep } v) : Like s v :=
  ⟨v.sleep, v, hsleep, hframe⟩

theorem Like.trans (h : Like s t) (h' : Like t u) : Like s u := by
  obtain ⟨τ, a, hτ, rfl⟩ := h
  obtain ⟨ρ, b, hρ, rfl⟩ := h'
  exact ⟨ρ, b, hρ.trans hτ, rfl⟩

theorem Like.host (h : Like s v) : v.sleep.host = s.sleep.host := by
  obtain ⟨τ, a, hτ, rfl⟩ := h
  have hframe : τ = { s.sleep with idle := τ.idle, idleShown := τ.idleShown, advice := τ.advice, grace := τ.grace } := hτ
  have hhost := congrArg SleepUnit.host hframe
  exact hhost

/-- Whatever is alike at the start, at most k hand-ons lead to what is alike at the end. -/
def Goes (L : BitVec 10) (k : Nat) (s t : State) : Prop :=
  ∀ v, Like s v → ∃ j ≤ k, ∃ w, Carried j v w ∧ Like t w ∧ Drift false L v w

theorem Goes.refl (s : State) : Goes 0 0 s s := fun v hv => ⟨0, Nat.le_refl 0, v, .refl v, hv, .refl false v⟩

theorem Goes.trans {j k : Nat} (h : Goes L j s t) (h' : Goes M k t u) : Goes (L ||| M) (j + k) s u := by
  intro v hv
  obtain ⟨i, hi, w, hc, hw, hdrift⟩ := h v hv
  obtain ⟨i', hi', x, hc', hx, hdrift'⟩ := h' w hw
  exact ⟨i + i', Nat.add_le_add hi hi', x, hc.trans hc', hx, hdrift.trans hdrift'⟩

theorem Goes.next {j k : Nat} (h : Goes L j s t) (h' : Goes 0 k t u) : Goes L (j + k) s u := by
  have := h.trans h'
  rwa [show L ||| (0 : BitVec 10) = L by simp] at this

theorem Goes.late {j k : Nat} (h : Goes 0 j s t) (h' : Goes L k t u) : Goes L (j + k) s u := by
  have := h.trans h'
  rwa [show (0 : BitVec 10) ||| L = L by simp] at this

theorem Goes.mono {j k : Nat} (h : Goes L j s t) (hk : j ≤ k) : Goes L k s t := by
  intro v hv
  obtain ⟨i, hi, rest⟩ := h v hv
  exact ⟨i, hi.trans hk, rest⟩

theorem Goes.unsaid {k : Nat} (h : Goes L k s t) : Goes 0 k s t := by
  intro v hv
  obtain ⟨i, hi, w, hc, hw, hdrift⟩ := h v hv
  refine ⟨i, hi, w, hc, hw, Drift.weaken (M := L) ?_⟩
  rwa [show (0 : BitVec 10) ||| L = L by simp]

/-- The front hand-on carried. -/
theorem Goes.front {x : Task} {rest : List Task} (h : s.tasks = x :: rest)
    (hx : ∀ v, Like (s.setTasks rest) v → ∃ τ, SleepUnit.alike τ t.sleep ∧
      Becomes false L (doTask x v) (State.withNoise { t with sleep := τ } v)) : Goes L 1 s t := by
  intro v hv
  have hset : Like (s.setTasks rest) (v.setTasks rest) := by
    obtain ⟨τ, a, hτ, rfl⟩ := hv
    exact ⟨τ, a, hτ, rfl⟩
  have htasks : v.tasks = x :: rest := by
    rw [hv.frame]
    exact h
  obtain ⟨τ, hτ, hbecomes⟩ := hx _ hset
  refine ⟨1, Nat.le_refl 1, _, .front htasks, ?_, hbecomes.drift.congr ⟨rfl, rfl, rfl⟩ ⟨rfl, rfl, rfl⟩⟩
  exact ⟨τ, _, hτ, hbecomes.frame⟩

/-- Hand-ons that leave the sleep unit alone. -/
theorem Goes.of_leads {k : Nat} (h : ∀ τ, SleepUnit.alike τ s.sleep → Leads false L k { s with sleep := τ } { t with sleep := τ })
    (hsleep : t.sleep = s.sleep := by rfl) : Goes L k s t := by
  intro v hv
  obtain ⟨τ, a, hτ, rfl⟩ := hv
  obtain ⟨b, hb, hbecomes⟩ := h τ hτ a
  refine ⟨k, Nat.le_refl k, b, hb, ⟨τ, b, by rwa [hsleep], hbecomes.renoised⟩, hbecomes.drift.congr ⟨rfl, rfl, rfl⟩ ⟨rfl, rfl, rfl⟩⟩

/-- An event that does f and carries its hand-ons so, with what drifts after f. -/
theorem takeEvent_goesFrom {k : Nat} {f : State → State} (hs : s.betweenEvents) (hf : Like u (f s)) (h : Goes M k u t)
    (ht : t.tasks = []) (hk : k ≤ 100 := by decide) :
    ∃ e, takeEvent s f = .next e ∧ Like t e ∧ Drift false M (f s) e := by
  obtain ⟨j, hj, w, hc, hw, hdrift⟩ := h (f s) hf
  have htasks : w.tasks = [] := by
    rw [hw.frame]
    exact ht
  have hclose := Becomes.closeBoard (q := false) w s
  refine ⟨w.closeBoard s, takeEvent_carried hs hc htasks (hj.trans hk), hw.trans ⟨w.sleep, _, .refl _, hclose.frame⟩, ?_⟩
  have := hdrift.trans hclose.drift
  rwa [show M ||| (0 : BitVec 10) = M by simp] at this

/-- An event that does f and carries its hand-ons so. -/
theorem takeEvent_goes {k : Nat} {f : State → State} (hs : s.betweenEvents) (hf : Becomes false L (f s) u)
    (hu : u.mem = s.mem ∧ u.port = s.port ∧ u.journal = s.journal := by exact ⟨rfl, rfl, rfl⟩)
    (h : Goes M k u t) (ht : t.tasks = []) (hk : k ≤ 100 := by decide) :
    ∃ e, takeEvent s f = .next e ∧ Like t e ∧ Drift false (L ||| M) s e := by
  obtain ⟨e, hnext, hlike, hdrift⟩ := takeEvent_goesFrom hs ⟨u.sleep, f s, .refl _, hf.frame⟩ h ht hk
  exact ⟨e, hnext, hlike, (hf.drift.congr ⟨hu.1.symm, hu.2.1.symm, hu.2.2.symm⟩ ⟨rfl, rfl, rfl⟩).trans hdrift⟩

/-! ## The quiet part -/

/-- No slot waits and no input does. -/
structure Calm (s : State) : Prop where
  queue : s.dispatch.queue = []
  receive : s.link.receiveQueue = []
  owed : s.link.owed = []
  pressed : s.link.pressed = []
  buttons : s.link.buttons = 0

theorem Calm.of (hqueue : s.dispatch.queue = []) (hinput : s.noInputWaits) : Calm s := by
  obtain ⟨hreceive, howed, hpressed, hbuttons⟩ := hinput
  exact ⟨hqueue, hreceive, howed, hpressed, hbuttons⟩

theorem Calm.congr (h : Calm s) (hdispatch : t.dispatch.queue = s.dispatch.queue)
    (hlink : t.link.receiveQueue = s.link.receiveQueue ∧ t.link.owed = s.link.owed ∧ t.link.pressed = s.link.pressed ∧
      t.link.buttons = s.link.buttons) : Calm t := by
  obtain ⟨hqueue, hreceive, howed, hpressed, hbuttons⟩ := h
  obtain ⟨lreceive, lowed, lpressed, lbuttons⟩ := hlink
  exact ⟨hdispatch.trans hqueue, lreceive.trans hreceive, lowed.trans howed, lpressed.trans hpressed, lbuttons.trans hbuttons⟩

theorem Calm.like (h : Calm s) (hv : Like s v) : Calm v := by
  obtain ⟨τ, a, -, rfl⟩ := hv
  exact h.congr rfl ⟨rfl, rfl, rfl, rfl⟩

/-- Closing halves that hold nothing changes nothing. -/
theorem closeHalves_empty (u : LinkUnit) (keyboard pointer : Bool) (hpressed : u.pressed = []) (hbuttons : u.buttons = 0) :
    u.closeHalves keyboard pointer = u := by
  unfold LinkUnit.closeHalves
  dsimp only
  have hkeys : (if keyboard then { u with owed := u.owed ++ u.pressed.map Owed.key, pressed := [] } else u) = u := by
    split
    · rw [hpressed, List.map_nil, List.append_nil, ← hpressed]
    · rfl
  rw [hkeys, if_neg]
  rw [hbuttons]
  simp

theorem Calm.inputs (h : Calm s) : s.noInputWaits := ⟨h.receive, h.owed, h.pressed, h.buttons⟩

theorem followGate_still (s : State) (h : s.noInputWaits) : s.followGate = s.hand [.serveReceiveQueue] := by
  obtain ⟨-, -, hpressed, hbuttons⟩ := h
  unfold State.followGate State.updLink
  dsimp only
  rw [closeHalves_empty _ _ _ hpressed hbuttons]

theorem followGate_quiet (s : State) (h : Calm s) : s.followGate = s.hand [.serveReceiveQueue] := followGate_still s h.inputs

theorem closeGate_still (s : State) (h : s.noInputWaits) : s.closeGate = s := by
  obtain ⟨-, -, hpressed, hbuttons⟩ := h
  unfold State.closeGate State.updLink
  dsimp only
  rw [closeHalves_empty _ _ _ hpressed hbuttons]

theorem serveReceiveQueue_still (s : State) (h : s.noInputWaits) : s.serveReceiveQueue = s := serveReceiveQueue_idle s h.1 h.2.1

theorem serveReceiveQueue_quiet (s : State) (h : Calm s) : s.serveReceiveQueue = s :=
  serveReceiveQueue_still s h.inputs

theorem wakeEvent_on (s : State) (w : WakeSource) (h : s.sleep.host = .on) : s.wakeEvent w = s :=
  wakeEvent_idle s w (.inl ((hostOn_iff s).mpr h))

theorem activeSleep_alike (s : State) : s.activeSleep.alike s.sleep := by
  unfold State.activeSleep
  split <;> rfl

/-- How many hand-ons one of the kind brings, itself counted; 0 for any other. Wake events are of it with the host ON. -/
def Task.minorWeight (on : Bool) : Task → Nat
  | .activity => 1
  | .considerQueue => 1
  | .serveReceiveQueue => 1
  | .reportPosture _ _ => 1
  | .coilAnswer => 0
  | .wakeEvent _ => if on then 1 else 0
  | .linkAttach => 2
  | .sleepAttach before after => if on || before != .detached && after != .detached then 3 else 0
  | _ => 0

/-- Of the kind. -/
def Task.minor (on : Bool) (x : Task) : Bool := decide (0 < x.minorWeight on)

def minorWeights (on : Bool) (ts : List Task) : Nat := (ts.map (Task.minorWeight on)).sum

theorem minorWeights_append (on : Bool) (as bs : List Task) :
    minorWeights on (as ++ bs) = minorWeights on as + minorWeights on bs := by
  simp [minorWeights]

theorem Goes.same {x : Task} {rest ts : List Task} (h : s.tasks = x :: rest)
    (hx : ∀ v, Like (s.setTasks rest) v → doTask x v = v.hand ts) : Goes 0 1 s (s.setTasks (ts ++ rest)) :=
  .front h fun v hv => by
    refine ⟨v.sleep, hv.sleep, .of_eq ((hx v hv).trans ?_)⟩
    obtain ⟨τ, a, -, rfl⟩ := hv
    rfl

theorem Goes.still {x : Task} {rest : List Task} (h : s.tasks = x :: rest)
    (hx : ∀ v, Like (s.setTasks rest) v → doTask x v = v) : Goes 0 1 s (s.setTasks rest) :=
  .same (ts := []) h fun v hv => (hx v hv).trans rfl

theorem Goes.activity {rest : List Task} (h : s.tasks = .activity :: rest) : Goes 0 1 s (s.setTasks rest) :=
  .front h fun v hv => by
    refine ⟨v.activeSleep, (activeSleep_alike v).trans hv.sleep, ?_⟩
    have hactivity := Becomes.activity v
    obtain ⟨τ, a, -, rfl⟩ := hv
    exact hactivity

/-- One such hand-on, with those it brings. -/
theorem minor_front {x : Task} {rest : List Task} (h : s.tasks = x :: rest) (hx : x.minor (s.sleep.host == .on) = true)
    (hc : Calm s) :
    ∃ ts, minorWeights (s.sleep.host == .on) ts < x.minorWeight (s.sleep.host == .on) ∧
      (∀ y ∈ ts, y.minor (s.sleep.host == .on) = true) ∧ Goes 0 1 s (s.setTasks (ts ++ rest)) := by
  have hcalm : Calm (s.setTasks rest) := hc.congr rfl ⟨rfl, rfl, rfl, rfl⟩
  have hidle (hsame : ∀ v, Like (s.setTasks rest) v → doTask x v = v) (hweight : x.minorWeight (s.sleep.host == .on) = 1) :
      ∃ ts, minorWeights (s.sleep.host == .on) ts < x.minorWeight (s.sleep.host == .on) ∧
        (∀ y ∈ ts, y.minor (s.sleep.host == .on) = true) ∧ Goes 0 1 s (s.setTasks (ts ++ rest)) :=
    ⟨[], by rw [hweight]; exact Nat.zero_lt_one, by simp, .still h hsame⟩
  cases x with
  | activity => exact ⟨[], by simp [minorWeights, Task.minorWeight], by simp, .activity h⟩
  | considerQueue => exact hidle (fun v hv => considerQueue_idle v (hcalm.like hv).queue) rfl
  | serveReceiveQueue => exact hidle (fun v hv => serveReceiveQueue_quiet v (hcalm.like hv)) rfl
  | wakeEvent w =>
    by_cases hon : s.sleep.host = .on
    · exact hidle (fun v hv => wakeEvent_on v w (hv.host.trans hon)) (by simp [Task.minorWeight, hon])
    · simp [Task.minor, Task.minorWeight, hon] at hx
  | reportPosture before cause =>
    refine ⟨[], by simp [minorWeights, Task.minorWeight], by simp, .front h fun v hv => ⟨v.sleep, hv.sleep, ?_⟩⟩
    have hreport := (Becomes.reportPosture v before cause).unsaid
    conv at hreport => arg 4; rw [hv.frame]
    exact hreport
  | linkAttach =>
    exact ⟨[.serveReceiveQueue], by simp [minorWeights, Task.minorWeight], by simp [Task.minor, Task.minorWeight],
      .same h fun v hv => followGate_quiet v (hcalm.like hv)⟩
  | sleepAttach before after =>
    by_cases hedge : before = .detached ∨ after = .detached
    · have hon : s.sleep.host = .on := by
        by_contra hoff
        rcases hedge with rfl | rfl <;> simp [Task.minor, Task.minorWeight, hoff] at hx
      refine ⟨[.activity, .wakeEvent .attachChange], by simp [minorWeights, Task.minorWeight, hon],
        by simp [Task.minor, Task.minorWeight, hon], .same h fun v hv => ?_⟩
      show v.hand _ = _
      rw [if_pos hedge]
    · refine ⟨[.activity], ?_, by simp [Task.minor, Task.minorWeight], .same h fun v hv => ?_⟩
      · rw [not_or] at hedge
        simp [minorWeights, Task.minorWeight, hedge]
      · show v.hand _ = _
        rw [if_neg hedge]
  | _ => simp [Task.minor, Task.minorWeight] at hx

/-- A run of such hand-ons in front of others. -/
theorem Goes.minors {ts rest : List Task} (h : s.tasks = ts ++ rest) (hts : ∀ y ∈ ts, y.minor (s.sleep.host == .on) = true)
    (hc : Calm s) : Goes 0 (minorWeights (s.sleep.host == .on) ts) s (s.setTasks rest) := by
  obtain ⟨n, hn⟩ : ∃ n, minorWeights (s.sleep.host == .on) ts = n := ⟨_, rfl⟩
  rw [hn]
  induction n using Nat.strong_induction_on generalizing ts s with
  | _ n ih =>
    cases ts with
    | nil =>
      have hsame : s.setTasks rest = s := by
        rw [← show s.tasks = rest from h]
        rfl
      rw [hsame]
      exact (Goes.refl s).mono (Nat.zero_le n)
    | cons x ts =>
      obtain ⟨us, hlt, hus, hgoes⟩ := minor_front (rest := ts ++ rest) h (hts x (by simp)) hc
      have hweight : 1 + minorWeights (s.sleep.host == .on) (us ++ ts) ≤ n := by
        rw [minorWeights_append, ← hn]
        show _ ≤ x.minorWeight _ + minorWeights _ ts
        omega
      have hrest := ih (minorWeights (s.sleep.host == .on) (us ++ ts)) (by omega) (s := s.setTasks (us ++ (ts ++ rest))) (ts := us ++ ts)
        (List.append_assoc us ts rest).symm (fun y hy => by
          rcases List.mem_append.mp hy with hy | hy
          · exact hus y hy
          · exact hts y (by simp [hy])) (hc.congr rfl ⟨rfl, rfl, rfl, rfl⟩) rfl
      exact (hgoes.next hrest).mono hweight

end Sys2Proof.Machine
end

section
/-! What a posture commit hands on (R92, R102), and the timers of the posture unit (R91, R94, R100). -/

namespace Sys2Proof.Machine

set_option Elab.async false

variable {q : Bool} {L M : BitVec 10} {s t u v w e : State}

/-! ## The flags published -/

def State.published (s : State) : LinkUnit :=
  { s.link with keyboardFlag := s.keyboardAllowed, touchpadFlag := s.touchpadAllowed }

theorem publishFlags_quiet (s : State) (h : Calm s) :
    s.publishFlags = State.hand { s with link := s.published } [.serveReceiveQueue] :=
  followGate_quiet { s with link := s.published } (h.congr rfl ⟨rfl, rfl, rfl, rfl⟩)

theorem Goes.publishFlags {rest : List Task} (h : s.tasks = .publishFlags :: rest) (hc : Calm s) :
    Goes 0 2 s { s with link := s.published, tasks := rest } := by
  have hpublish : Goes 0 1 s { s with link := s.published, tasks := .serveReceiveQueue :: rest } :=
    .front h fun v hv => by
      have hquiet := publishFlags_quiet v ((hc.congr (t := s.setTasks rest) rfl ⟨rfl, rfl, rfl, rfl⟩).like hv)
      obtain ⟨τ, a, hτ, rfl⟩ := hv
      exact ⟨τ, hτ, .of_eq hquiet⟩
  exact hpublish.next (.still rfl fun v hv => serveReceiveQueue_quiet v
    ((hc.congr (t := { s with link := s.published, tasks := rest }) rfl ⟨rfl, rfl, rfl, rfl⟩).like hv))

/-! ## The grace timer -/

theorem Becomes.startGrace (s : State) :
    ∃ σ, SleepUnit.alike σ s.sleep ∧ Becomes false 0 s.startGrace { s with sleep := σ } := by
  unfold State.startGrace
  split
  · refine ⟨_, ?_, (Becomes.graceExpired s).unsaid⟩
    rfl
  · refine ⟨_, ?_, .refl false _⟩
    rfl

theorem Becomes.graceCommit (s : State) (before : Posture) :
    ∃ σ, SleepUnit.alike σ s.sleep ∧ Becomes false 0 (s.graceCommit before) { s with sleep := σ } := by
  unfold State.graceCommit
  dsimp only
  split
  · split
    · exact Becomes.startGrace s
    · exact ⟨s.sleep, rfl, .refl false s⟩
  · split
    · split
      · refine ⟨_, ?_, (Becomes.advise _ _ _).unsaid⟩
        rfl
      · refine ⟨_, ?_, .refl false _⟩
        rfl
    · exact ⟨s.sleep, rfl, .refl false s⟩

/-- What a posture commit hands on from the sleep unit. -/
def State.sleepActs (s : State) (before : Posture) : List Task :=
  .activity :: (if before = .closed ∧ s.posture.posture ≠ .closed then [.wakeEvent .lidOpen] else []) ++ [.wakeEvent .postureChange]

theorem Goes.sleepCommit {before : Posture} {rest : List Task} (h : s.tasks = .sleepCommit before :: rest) (hc : Calm s)
    (hon : s.sleep.host = .on) : Goes 0 4 s (s.setTasks rest) := by
  have hcommit : Goes 0 1 s (s.setTasks (s.sleepActs before ++ rest)) :=
    .front h fun v hv => by
      obtain ⟨σ, hσ, hgrace⟩ := Becomes.graceCommit v before
      refine ⟨σ, hσ.trans hv.sleep, ?_⟩
      obtain ⟨τ, a, -, rfl⟩ := hv
      exact hgrace.hand (s.sleepActs before)
  have hminor : Goes 0 (minorWeights (s.sleep.host == .on) (s.sleepActs before)) (s.setTasks (s.sleepActs before ++ rest))
      (s.setTasks rest) :=
    .minors rfl (fun y hy => by
      simp only [State.sleepActs, List.cons_append, List.mem_cons, List.mem_append, List.not_mem_nil, or_false] at hy
      rcases hy with rfl | hy | rfl
      · rfl
      · split at hy
        · simp only [List.mem_singleton] at hy
          simp [hy, Task.minor, Task.minorWeight, State.setTasks, hon]
        · simp at hy
      · simp [Task.minor, Task.minorWeight, State.setTasks, hon]) (hc.congr rfl ⟨rfl, rfl, rfl, rfl⟩)
  refine (hcommit.next hminor).mono ?_
  unfold State.sleepActs
  split <;> simp [minorWeights, Task.minorWeight, hon]

/-! ## Rotation gated (R102) -/

/-- What R102 makes of the posture unit. -/
def State.gatedPosture (s : State) : PostureUnit :=
  if s.rotationAllowed then s.posture.lock.elim s.comparedPosture s.orientedTo else s.orientedTo .landscape

def State.gateActs (s : State) : List Task :=
  if s.rotationAllowed then s.posture.lock.elim s.comparedActs s.turning else s.turning .landscape

theorem Becomes.gateRotation (s : State) :
    Becomes false 0 s.gateRotation (State.hand { s with posture := s.gatedPosture } s.gateActs) := by
  unfold State.gateRotation State.gatedPosture State.gateActs
  by_cases hallowed : s.rotationAllowed
  · simp only [if_pos hallowed]
    cases s.posture.lock with
    | none => exact .compareOrientation s
    | some o => exact .turn s o 3
  · simp only [if_neg hallowed]
    exact .turn s .landscape 1

theorem gateActs_cases (s : State) : s.gateActs = [] ∨ s.gateActs = [.activity] := by
  unfold State.gateActs
  split
  · cases s.posture.lock with
    | none => exact comparedActs_cases s
    | some o => exact turning_cases s o
  · exact turning_cases s _

theorem Goes.acts {acts rest : List Task} (h : s.tasks = acts ++ rest) (hacts : acts = [] ∨ acts = [.activity]) :
    Goes 0 1 s (s.setTasks rest) := by
  rcases hacts with rfl | rfl
  · rw [show s.setTasks rest = s by rw [← show s.tasks = rest from h]; rfl]
    exact (Goes.refl s).mono (Nat.zero_le 1)
  · exact .activity h

theorem Goes.gateRotation {rest : List Task} (h : s.tasks = .gateRotation :: rest) :
    Goes 0 2 s { s with posture := s.gatedPosture, tasks := rest } := by
  have hgate : Goes 0 1 s { s with posture := s.gatedPosture, tasks := s.gateActs ++ rest } :=
    .front h fun v hv => by
      have hbecomes := Becomes.gateRotation v
      obtain ⟨τ, a, hτ, rfl⟩ := hv
      exact ⟨τ, hτ, hbecomes⟩
  exact hgate.next (.acts (s := { s with posture := s.gatedPosture, tasks := s.gateActs ++ rest }) rfl (gateActs_cases s))

/-- What gating moves is the orientation alone. -/
theorem gatedPosture_frame (s : State) :
    s.gatedPosture = { s.posture with
      oriented := s.gatedPosture.oriented, orientationCandidate := s.gatedPosture.orientationCandidate
      orientationDwell := s.gatedPosture.orientationDwell } := by
  have hcompared : s.comparedPosture = { s.posture with
      oriented := s.comparedPosture.oriented, orientationCandidate := s.comparedPosture.orientationCandidate
      orientationDwell := s.comparedPosture.orientationDwell } := by
    unfold State.comparedPosture
    repeat' split
    all_goals rfl
  unfold State.gatedPosture
  split
  · cases s.posture.lock with
    | none => exact hcompared
    | some o => rfl
  · rfl

theorem gatedPosture_barred (s : State) (h : s.rotationAllowed = false) : s.gatedPosture.oriented = .landscape := by
  unfold State.gatedPosture
  rw [if_neg (by rw [h]; decide)]
  rfl

theorem gatedPosture_locked (s : State) {o : Orientation} (h : s.rotationAllowed = true) (hlock : s.posture.lock = some o) :
    s.gatedPosture.oriented = o := by
  unfold State.gatedPosture
  rw [if_pos h, hlock]
  rfl

/-! ## The commit -/

/-- What a posture commit hands on (R92). -/
def commitTasks (before : Posture) (cause : Nat) : List Task :=
  [.publishFlags, .sleepCommit before, .reportPosture before cause, .gateRotation]

/-- A state after what its posture commit hands on. -/
def State.committed (s : State) (rest : List Task) : State :=
  { s with link := s.published, posture := s.gatedPosture, tasks := rest }

theorem Goes.reportPosture {before : Posture} {cause : Nat} {rest : List Task} (h : s.tasks = .reportPosture before cause :: rest) :
    Goes Cause.posture.mask 1 s (s.setTasks rest) :=
  .front h fun v hv => by
    have hreport := Becomes.reportPosture v before cause
    obtain ⟨τ, a, hτ, rfl⟩ := hv
    exact ⟨τ, hτ, hreport⟩

theorem Goes.commit {before : Posture} {cause : Nat} {rest : List Task} (h : s.tasks = commitTasks before cause ++ rest)
    (hc : Calm s) (hon : s.sleep.host = .on) : Goes Cause.posture.mask 9 s (s.committed rest) := by
  have hpublish := Goes.publishFlags (rest := .sleepCommit before :: .reportPosture before cause :: .gateRotation :: rest) h hc
  have hsleep := Goes.sleepCommit (before := before) (rest := .reportPosture before cause :: .gateRotation :: rest)
    (s := { s with link := s.published, tasks := .sleepCommit before :: .reportPosture before cause :: .gateRotation :: rest }) rfl
    (hc.congr rfl ⟨rfl, rfl, rfl, rfl⟩) hon
  have hreport := Goes.reportPosture (before := before) (cause := cause) (rest := .gateRotation :: rest)
    (s := { s with link := s.published, tasks := .reportPosture before cause :: .gateRotation :: rest }) rfl
  have hgate := Goes.gateRotation (rest := rest) (s := { s with link := s.published, tasks := .gateRotation :: rest }) rfl
  exact ((hpublish.next hsleep).late hreport).next hgate

/-- The posture unit as a commit leaves it before its hand-ons. -/
def State.postureCommitted (s : State) (p : Posture) (band : Option Nat) : PostureUnit :=
  { s.posture with posture := p, band := band, candidate := none, dwell := none }

/-- An event that is a posture commit. -/
theorem takeEvent_commit {f : State → State} {p : Posture} {band : Option Nat} {cause : Nat} (hs : s.betweenEvents)
    (hf : f s = w.commitPosture p band cause)
    (hw : w.mem = s.mem ∧ w.port = s.port ∧ w.journal = s.journal := by exact ⟨rfl, rfl, rfl⟩) (htasks : w.tasks = [])
    (hc : Calm w) (hon : w.sleep.host = .on) :
    ∃ e, takeEvent s f = .next e ∧ Like (State.committed { w with posture := w.postureCommitted p band } []) e ∧
      e.port.attnLatch.getLsbD Cause.posture.bit = true := by
  have hcommit := Becomes.commitPosture (q := false) w p band cause
  rw [← hf] at hcommit
  have htail := Goes.commit (before := w.posture.posture) (cause := cause) (rest := [])
    (s := State.hand { w with posture := w.postureCommitted p band } (commitTasks w.posture.posture cause))
    (by show _ ++ w.tasks = _; rw [htasks]) (hc.congr rfl ⟨rfl, rfl, rfl, rfl⟩) hon
  obtain ⟨e, hnext, hlike, hdrift⟩ := takeEvent_goes hs hcommit hw htail rfl
  refine ⟨e, hnext, hlike, hdrift.latched _ ?_⟩
  decide

/-! ## The timers -/

theorem dwellExpired_band (s : State) {i : Nat} {b : Band} (hcandidate : s.posture.candidate = some i)
    (hb : s.settings.table[i]? = some b) : s.dwellExpired = s.commitPosture b.posture (some i) 0 := by
  unfold State.dwellExpired
  rw [hcandidate]
  dsimp only
  rw [hb]

/-- The flags of a committed band posture are the band's. -/
theorem postureFlag_band (s : State) {i : Nat} {b : Band} (hband : s.posture.band = some i) (hb : s.settings.table[i]? = some b)
    (hdetached : s.posture.posture ≠ .detached) (hunknown : s.posture.posture ≠ .unknown) (d u : Bool) (flag : Band → Bool) :
    s.postureFlag d u flag = flag b := by
  have hcommitted := committedBand_eq s hband hb
  unfold State.postureFlag
  rw [hcommitted]
  cases hp : s.posture.posture <;> first | rfl | exact absurd hp hdetached | exact absurd hp hunknown

/-- Settles O45: the two commits by their hand-ons, the orientation commit alone. -/
theorem postureTimers : Obligations.PostureTimers := by
  unfold Obligations.PostureTimers
  refine ⟨fun s e i b hs hq hhost hinput hdwell hcandidate hb hdetached hunknown => ?_, fun s e hs hq hhost hinput htimer => ?_,
    fun s e hs htimer => ?_⟩
  · have hon := (hostOn_iff s).mp hhost
    obtain ⟨t, hnext, hlike, hlatch⟩ := takeEvent_commit (f := fun u => (u.setNow (s.reach e).now).dwellExpired)
      (w := s.setNow (s.reach e).now) hs (dwellExpired_band _ hcandidate hb) ⟨rfl, rfl, rfl⟩ hs.1
      ((Calm.of hq hinput).congr rfl ⟨rfl, rfl, rfl, rfl⟩) hon
    obtain ⟨w, hw⟩ : ∃ w : State, w =
      { s.setNow (s.reach e).now with posture := (s.setNow (s.reach e).now).postureCommitted b.posture (some i) } := ⟨_, rfl⟩
    rw [← hw] at hlike
    have hflag := postureFlag_band w (i := i) (b := b) (by rw [hw]; rfl) (by rw [hw]; exact hb) (by rw [hw]; exact hdetached)
      (by rw [hw]; exact hunknown)
    have hposture : t.posture = w.gatedPosture := congrArg State.posture hlike.frame
    have hlink : t.link = w.published := congrArg State.link hlike.frame
    have hframe := hposture.trans (gatedPosture_frame w)
    refine ⟨t, (takeEvent_expiry (x := fun s => s.posture.dwell) (g := State.dwellExpired) hs hdwell).trans hnext, ?_, ?_, ?_, ?_,
      ?_, ?_, ?_, hlatch, fun hrotation => ?_, fun o hrotation hlock => ?_⟩
    · rw [congrArg State.now hlike.frame, hw]
      rfl
    · rw [hframe, hw]
      rfl
    · rw [hframe, hw]
      rfl
    · rw [hframe, hw]
      rfl
    · rw [hframe, hw]
      rfl
    · rw [hlink]
      exact hflag false true (·.keyboard)
    · rw [hlink]
      exact hflag false true (·.touchpad)
    · rw [hposture]
      exact gatedPosture_barred w ((hflag true false (·.rotation)).trans hrotation)
    · rw [hposture]
      exact gatedPosture_locked w ((hflag true false (·.rotation)).trans hrotation) (by rw [hw]; exact hlock)
  · have hon := (hostOn_iff s).mp hhost
    obtain ⟨t, hnext, hlike, hlatch⟩ := takeEvent_commit (f := fun u => (u.setNow (s.reach e).now).signalLost)
      (w := (s.setNow (s.reach e).now).measured) hs rfl ⟨rfl, rfl, rfl⟩ hs.1
      ((Calm.of hq hinput).congr rfl ⟨rfl, rfl, rfl, rfl⟩) hon
    obtain ⟨w, hw⟩ : ∃ w : State, w =
      { (s.setNow (s.reach e).now).measured with
        posture := (s.setNow (s.reach e).now).measured.postureCommitted .unknown none } := ⟨_, rfl⟩
    rw [← hw] at hlike
    have hunknown : w.posture.posture = .unknown := by rw [hw]; rfl
    have hflag (d u : Bool) (flag : Band → Bool) : w.postureFlag d u flag = u := by
      unfold State.postureFlag
      rw [hunknown]
    have hposture : t.posture = w.gatedPosture := congrArg State.posture hlike.frame
    have hlink : t.link = w.published := congrArg State.link hlike.frame
    have hframe := hposture.trans (gatedPosture_frame w)
    refine ⟨t, (takeEvent_expiry (x := fun s => s.posture.unavailable) (g := State.signalLost) hs htimer).trans hnext, ?_, ?_, ?_,
      ?_, ?_, ?_, ?_, ?_, ?_, hlatch⟩
    · rw [congrArg State.now hlike.frame, hw]
      rfl
    · rw [hframe, hw]
      rfl
    · rw [hframe, hw]
      rfl
    · rw [hframe, hw]
      rfl
    · rw [hframe, hw]
      rfl
    · rw [hframe, hw]
      rfl
    · rw [hlink]
      exact hflag false true (·.keyboard)
    · rw [hlink]
      exact hflag false true (·.touchpad)
    · rw [hposture]
      exact gatedPosture_barred w (hflag true false (·.rotation))
  · have hexpiry := takeEvent_expiry (x := fun s => s.posture.orientationDwell) (g := State.orientationDwellExpired) hs htimer
    obtain ⟨w, hw⟩ : ∃ w : State, w = s.setNow (s.reach e).now := ⟨_, rfl⟩
    have hsame : ∀ w : State, w.orientedTo w.posture.orientationCandidate =
        { w.posture with oriented := w.posture.orientationCandidate, orientationDwell := none } := fun _ => rfl
    by_cases hturn : s.posture.oriented = s.posture.orientationCandidate
    · obtain ⟨t, hnext, hframe, -⟩ := takeEvent_becomes (q := true) (f := fun u => (u.setNow (s.reach e).now).orientationDwellExpired) hs
        (.of_eq (commitOrientation_same (s.setNow (s.reach e).now) s.posture.orientationCandidate 0 hturn)) ⟨rfl, rfl, rfl⟩ hs.1
      refine ⟨t, hexpiry.trans hnext, ?_, ?_, fun hne => absurd hturn.symm hne, ?_⟩
      · rw [hframe]
        rfl
      · rw [hframe]
        rfl
      · rw [hframe]
        rfl
    · have hcommit := Becomes.commitOrientation (s.setNow (s.reach e).now) s.posture.orientationCandidate 0 hturn
      have hactivity := Leads.activity (rest := s.tasks)
        (s := State.hand { s.setNow (s.reach e).now with posture := (s.setNow (s.reach e).now).orientedTo s.posture.orientationCandidate }
          [.activity]) rfl
      obtain ⟨t, hnext, hframe, hdrift⟩ := takeEvent_leads (f := fun u => (u.setNow (s.reach e).now).orientationDwellExpired) hs hcommit
        ⟨rfl, rfl, rfl⟩ hactivity hs.1
      refine ⟨t, hexpiry.trans hnext, ?_, ?_, fun _ => hdrift.latched _ (by decide), ?_⟩
      · rw [hframe]
        rfl
      · rw [hframe]
        rfl
      · rw [hframe]
        rfl

end Sys2Proof.Machine
end

section
/-! Changes of the link's state with what the attachment unit makes of them (R108 to R115, R128), and the base's claim (R165). -/

namespace Sys2Proof.Machine

set_option Elab.async false

variable {q : Bool} {L M : BitVec 10} {s t u v w e : State}

/-! ## Attachment states -/

/-- A change of attachment state that is not to DETACHED, by one hand-on. -/
theorem Goes.setAttach {x : Task} {after : AttachState} {cause : Nat} {rest : List Task} (h : s.tasks = x :: rest)
    (hx : ∀ v, Like (s.setTasks rest) v → doTask x v = v.setAttach after cause) (hne : after ≠ s.attach.state)
    (hafter : after ≠ .detached) (hon : s.sleep.host = .on ∨ s.attach.state ≠ .detached) (hc : Calm s) :
    Goes Cause.attach.mask 6 s { s with attach := { s.attach with state := after }, tasks := rest } := by
  have hset : Goes Cause.attach.mask 1 s
      { s with attach := { s.attach with state := after }, tasks := attachReaders s.attach.state after ++ rest } :=
    .front h fun v hv => by
      have hbecomes := Becomes.setAttach v after cause (by rw [congrArg State.attach hv.frame]; exact hne)
      rw [← hx v hv] at hbecomes
      obtain ⟨τ, a, hτ, rfl⟩ := hv
      exact ⟨τ, hτ, hbecomes⟩
  have hreaders : attachReaders s.attach.state after = [.linkAttach, .sleepAttach s.attach.state after] := by
    unfold attachReaders
    rw [if_neg hafter]
    rfl
  rw [hreaders] at hset
  have hminor : (Task.sleepAttach s.attach.state after).minorWeight (s.sleep.host == .on) = 3 := by
    rcases hon with hon | hon <;> simp [Task.minorWeight, hon, hafter]
  refine (hset.next (.minors (ts := [.linkAttach, .sleepAttach s.attach.state after]) (rest := rest)
    (s := { s with attach := { s.attach with state := after }
                   tasks := [.linkAttach, .sleepAttach s.attach.state after] ++ rest }) rfl ?_
    (hc.congr rfl ⟨rfl, rfl, rfl, rfl⟩))).mono ?_
  · intro y hy
    simp only [List.mem_cons, List.not_mem_nil, or_false] at hy
    rcases hy with rfl | rfl
    · rfl
    · unfold Task.minor
      rw [hminor]
      rfl
  · show 1 + minorWeights (s.sleep.host == .on) _ ≤ 6
    simp only [minorWeights, List.map_cons, List.map_nil, List.sum_cons, List.sum_nil, hminor]
    exact Nat.le_refl 6

/-- The attachment unit in its resting state (R127). -/
def State.seated (s : State) : AttachUnit := { s.attach with state := s.resting }

theorem resting_present (s : State) (h : s.attach.detect.level = true) : s.resting ≠ .detached := by
  unfold State.resting restingState
  rw [h, if_pos rfl]
  cases s.link.state <;> decide

theorem attachLink_resting (s : State) (h : s.attach.state.inRelease = false) : s.attachLink = s.setAttach s.resting 1 := by
  unfold State.attachLink
  cases hstate : s.attach.state <;> first | rfl | (rw [hstate] at h; cases h)

/-- A change of the link's state at the attachment unit, outside a release. -/
theorem Goes.attachLink {rest : List Task} (h : s.tasks = .attachLink :: rest) (hc : Calm s)
    (hrelease : s.attach.state.inRelease = false) (hdetect : s.attach.detect.level = true)
    (hon : s.sleep.host = .on ∨ s.attach.state ≠ .detached) : Goes 0 6 s { s with attach := s.seated, tasks := rest } := by
  have hresting (v : State) (hv : Like (s.setTasks rest) v) : doTask .attachLink v = v.setAttach s.resting 1 := by
    have hattach : v.attach = s.attach := by
      rw [hv.frame]
      rfl
    have hsame : v.resting = s.resting := by
      rw [hv.frame]
      rfl
    rw [← hsame]
    exact attachLink_resting v (by rw [hattach]; exact hrelease)
  by_cases hsame : s.resting = s.attach.state
  · have hseated : ({ s with attach := s.seated, tasks := rest } : State) = s.setTasks rest := by
      unfold State.seated
      rw [hsame]
      rfl
    rw [hseated]
    refine (Goes.still h fun v hv => ?_).mono (by decide)
    have hattach : s.attach.state = v.attach.state := by
      rw [hv.frame]
      rfl
    rw [hresting v hv, hsame, hattach]
    exact setAttach_same v 1
  · exact (Goes.setAttach h hresting hsame (resting_present s hdetect) hon hc).unsaid

/-! ## Link states -/

/-- The link unit in another state (R108, R115). -/
def State.enteredLink (s : State) (l : LinkState) : LinkUnit :=
  if l.isDown then
    { s.link with state := l, ignoring := s.link.ignoring && l.receiving, timer := none, receiveQueue := [], hold := false
                  discards := [], transmitList := [] }
  else LinkUnit.send s.sensor.period { s.link with state := l, ignoring := s.link.ignoring && l.receiving }

/-- What a change of the link's state hands on. -/
def State.enterActs (s : State) (l : LinkState) : List Task :=
  (if l.isDown && s.link.transmitList.any (fun p => p.sameKind (.light 0)) then [.confirmDecrease .backlight] else []) ++
    [.attachLink, .serveReceiveQueue]

theorem hand_hand (s : State) (ts us : List Task) : (s.hand ts).hand us = s.hand (us ++ ts) := by
  unfold State.hand State.setTasks
  simp only [List.append_assoc]

theorem blind_sendNext : Blind State.sendNext := ⟨fun _ _ => rfl, fun _ => ⟨rfl, rfl, rfl⟩⟩

theorem takeDown_eq (s : State) :
    s.takeDown =
      State.hand
        { s with link := { s.link with timer := none, receiveQueue := [], hold := false, discards := [], transmitList := [] } }
        (if s.link.transmitList.any (fun p => p.sameKind (.light 0)) then [.confirmDecrease .backlight] else []) := by
  unfold State.takeDown
  dsimp only
  split <;> rfl

theorem blind_takeDown : Blind State.takeDown := by
  refine ⟨fun v a => ?_, fun v => ?_⟩
  · rw [takeDown_eq, takeDown_eq]
    rfl
  · rw [takeDown_eq]
    exact ⟨rfl, rfl, rfl⟩

theorem Becomes.enterLink (s : State) (l : LinkState) (cause : Nat) :
    Becomes false 0 (s.enterLink l cause) (State.hand { s with link := s.enteredLink l } (s.enterActs l)) := by
  have htouch := (Becomes.touchBoard (q := false)
    (s.updLink fun u => { u with state := l, ignoring := u.ignoring && l.receiving })).hand [.attachLink, .serveReceiveQueue]
  unfold State.enterLink State.enteredLink State.enterActs
  dsimp only
  cases hdown : l.isDown with
  | true =>
    have hentered := htouch.blind blind_takeDown
    rw [takeDown_eq (State.hand (s.updLink fun u => { u with state := l, ignoring := u.ignoring && l.receiving })
      [.attachLink, .serveReceiveQueue])] at hentered
    have hjoined := hentered.join (Becomes.offerNotice _ .link cause s.link.state.code l.code 0)
    have hacts := hand_hand { s with link := s.enteredLink l } [.attachLink, .serveReceiveQueue]
      (if s.link.transmitList.any (fun p => p.sameKind (.light 0)) then [.confirmDecrease .backlight] else [])
    unfold State.enteredLink at hacts
    rw [hdown, if_pos rfl] at hacts
    simp only [if_true, Bool.true_and]
    rw [← hacts]
    exact hjoined
  | false => exact (htouch.blind blind_sendNext).join (Becomes.offerNotice _ _ _ _ _ _)

theorem enteredLink_state (s : State) (l : LinkState) : (s.enteredLink l).state = l := by
  unfold State.enteredLink
  split
  · rfl
  · rw [send_frame]

theorem enteredLink_still (s : State) (l : LinkState) (h : s.noInputWaits) :
    State.noInputWaits { s with link := s.enteredLink l } := by
  obtain ⟨hreceive, howed, hpressed, hbuttons⟩ := h
  unfold State.enteredLink
  split
  · exact ⟨rfl, howed, hpressed, hbuttons⟩
  · rw [send_frame]
    exact ⟨hreceive, howed, hpressed, hbuttons⟩

theorem enteredLink_inputs (s : State) (l : LinkState) (h : Calm s) : Calm { s with link := s.enteredLink l } :=
  .of h.queue (enteredLink_still s l h.inputs)

theorem confirmDecrease_none (s : State) (c : Awaited) (h : s.allot.awaiting = []) : s.confirmDecrease c = s := by
  unfold State.confirmDecrease
  rw [h]
  rfl

/-- The hand-ons of a change of the link's state, with nothing awaited and no release. -/
theorem Goes.entered {l : LinkState} {rest : List Task} {x : State} (h : s.tasks = x.enterActs l ++ rest) (hc : Calm s)
    (hawaiting : s.allot.awaiting = []) (hrelease : s.attach.state.inRelease = false) (hdetect : s.attach.detect.level = true)
    (hon : s.sleep.host = .on ∨ s.attach.state ≠ .detached) : Goes 0 8 s { s with attach := s.seated, tasks := rest } := by
  have htail : Goes 0 7 (s.setTasks (.attachLink :: .serveReceiveQueue :: rest)) { s with attach := s.seated, tasks := rest } :=
    (Goes.attachLink (s := s.setTasks (.attachLink :: .serveReceiveQueue :: rest)) rfl (hc.congr rfl ⟨rfl, rfl, rfl, rfl⟩)
      hrelease hdetect hon).next
      (.still rfl fun v hv => serveReceiveQueue_quiet v
        ((hc.congr (t := { s with attach := s.seated, tasks := rest }) rfl ⟨rfl, rfl, rfl, rfl⟩).like hv))
  unfold State.enterActs at h
  split at h
  · refine ((Goes.still (rest := .attachLink :: .serveReceiveQueue :: rest) h fun v hv => ?_).next htail)
    exact confirmDecrease_none v _ (by rw [hv.frame]; exact hawaiting)
  · rw [show s = s.setTasks (.attachLink :: .serveReceiveQueue :: rest) by
      rw [← show s.tasks = .attachLink :: .serveReceiveQueue :: rest from h]
      rfl]
    exact htail.mono (by decide)

/-! ## The hold-off (R171) -/

/-- A state with its VBASE held off, or not. -/
def State.heldOff (s : State) (b : Bool) : State :=
  { s with
    link := { s.link with holdOff := b }
    allot := { s.allot with
               underVoltage := underVoltageAfter s.vbaseOn (decide (0 < s.allot.grant.base) && !b) s.allot.voltageLow
                 s.allot.underVoltage (s.start 10) } }

theorem setHoldOff_eq (s : State) (b : Bool) : s.setHoldOff b = s.heldOff b := watchVbase_eq s _

/-! ## The base's claim withdrawn (R165) -/

/-- The link looked to after its grant has changed to nothing. -/
def State.baseActs (s : State) : List Task := if s.allot.grant.base = 0 then [] else [.linkGrant]

theorem recomputed_nothing (hdemand : s.allot.demand = ⟨0, 0, 0, 0⟩) (hpen : s.allot.grant.pen = 0)
    (hbacklight : s.allot.grant.backlight = 0) (hawaiting : s.allot.awaiting = []) :
    s.recomputed =
      State.hand { s with allot := s.granted ⟨0, 0, 0, 0⟩ noIncreases } (s.baseActs ++ [.settleIncreases, .coilAnswer]) := by
  have htarget : targets s.allot.budget s.allot.demand = ⟨0, 0, 0, 0⟩ := by rw [hdemand, targets_nothing]
  have hlowered : lowered s.allot.grant ⟨0, 0, 0, 0⟩ = ⟨0, 0, 0, 0⟩ := by simp [lowered]
  have htasks : grantTasks s.allot.grant ⟨0, 0, 0, 0⟩ = s.baseActs := by
    unfold grantTasks State.baseActs
    rw [hpen, hbacklight]
    by_cases hbase : s.allot.grant.base = 0 <;> simp [hbase]
  have hincreases : increasesOf s.allot.grant ⟨0, 0, 0, 0⟩ = noIncreases := by simp [increasesOf, increaseOf, noIncreases]
  have hlist (off : Bool) (d : PartTime) : awaitingAfter s.allot.awaiting s.allot.grant ⟨0, 0, 0, 0⟩ off d = s.allot.awaiting := by
    simp [awaitingAfter, hpen, hbacklight]
  unfold State.recomputed State.recomputedAllot
  rw [htarget, hlowered, htasks, hincreases, hlist]
  rfl

/-- A link that is down, or on its way up, when its grant has gone. -/
theorem linkGrant_down (s : State) (hgrant : s.allot.grant.base = 0) (hdown : s.link.state.isDown = true) : s.linkGrant = s := by
  unfold State.linkGrant
  rw [if_neg (by rw [hgrant]; decide)]
  cases hstate : s.link.state <;> first | rfl | (rw [hstate] at hdown; cases hdown)

/-- The recomputation that withdraws all. -/
theorem Goes.recomputeNothing {x : Task} {rest : List Task} (h : s.tasks = x :: rest)
    (hx : ∀ v, Like (s.setTasks rest) v → Becomes false 0 (doTask x v) (State.recomputed { v with allot := t.allot }))
    (ht : t = { s with allot := t.allot, tasks := rest }) (hdemand : t.allot.demand = ⟨0, 0, 0, 0⟩)
    (hpen : t.allot.grant.pen = 0) (hbacklight : t.allot.grant.backlight = 0) (hawaiting : t.allot.awaiting = [])
    (hdown : s.link.state.isDown = true) :
    Goes 0 5 s { t with allot := t.granted ⟨0, 0, 0, 0⟩ noIncreases } := by
  obtain ⟨A, hA⟩ : ∃ A, t.allot = A := ⟨_, rfl⟩
  rw [hA] at ht hdemand hpen hbacklight hawaiting
  subst ht
  obtain ⟨B, hB⟩ : ∃ B, B = State.granted { s with allot := A, tasks := rest } ⟨0, 0, 0, 0⟩ noIncreases := ⟨_, rfl⟩
  have hfirst : Goes 0 1 s
      { s with allot := B
               tasks := State.baseActs { s with allot := A, tasks := rest } ++ [.settleIncreases, .coilAnswer] ++ rest } :=
    .front h fun v hv => by
      have hbecomes := hx v hv
      have hnothing := recomputed_nothing (s := { v with allot := A }) hdemand hpen hbacklight hawaiting
      rw [show ({ v with allot := A } : State).recomputed = _ from hnothing] at hbecomes
      obtain ⟨τ, a, hτ, rfl⟩ := hv
      refine ⟨τ, hτ, ?_⟩
      rw [hB]
      exact hbecomes
  have hlink : Goes 0 1
      { s with allot := B
               tasks := State.baseActs { s with allot := A, tasks := rest } ++ [.settleIncreases, .coilAnswer] ++ rest }
      { s with allot := B, tasks := .settleIncreases :: .coilAnswer :: rest } := by
    unfold State.baseActs
    split
    · exact (Goes.refl _).mono (Nat.zero_le 1)
    · refine .still (s := { s with allot := B, tasks := .linkGrant :: .settleIncreases :: .coilAnswer :: rest }) rfl fun v hv => ?_
      refine linkGrant_down v ?_ ?_
      · rw [hv.frame, hB]
        rfl
      · rw [hv.frame]
        exact hdown
  have hsettle : Goes 0 3 { s with allot := B, tasks := .settleIncreases :: .coilAnswer :: rest }
      { s with allot := B, tasks := rest } := by
    rintro v ⟨τ, a, hτ, rfl⟩
    obtain ⟨k, hk, hlead⟩ := Leads.settleUndemanded (q := false) (rest := rest)
      (s := { s with allot := B, sleep := τ, tasks := .settleIncreases :: .coilAnswer :: rest }) rfl (by rw [hB]; rfl) (by
        rw [hB]
        show A.demand.coil ≠ 1200
        rw [hdemand]
        decide)
    obtain ⟨b, hb, hbecomes⟩ := hlead a
    exact ⟨k, hk, b, hb, ⟨τ, b, hτ, hbecomes.renoised⟩, hbecomes.drift.congr ⟨rfl, rfl, rfl⟩ ⟨rfl, rfl, rfl⟩⟩
  subst hB
  exact (hfirst.next hlink).next hsettle

end Sys2Proof.Machine
end

section
/-! The link FAULTED and LOST, alone (R113, R114), and the four timers of the link (R108 to R115). -/

namespace Sys2Proof.Machine

set_option Elab.async false

variable {q : Bool} {L M : BitVec 10} {s t u v w e : State}

/-! ## A link alone -/

/-- A base that is present with the host ON, no release, no claim but its own, and nothing that waits. -/
structure Alone (s : State) : Prop where
  calm : Calm s
  host : s.sleep.host = .on
  detect : s.attach.detect.level = true
  release : s.attach.state.inRelease = false
  coil : s.allot.demand.coil = 0
  only : s.coilAndBaseOnly

theorem Alone.of (h : s.linkAlone) : Alone s := by
  obtain ⟨hinput, honly, hcoil, hdetect, hrelease, hhost, hqueue⟩ := h
  exact ⟨.of hqueue hinput, (hostOn_iff s).mp hhost, hdetect, hrelease, hcoil, honly⟩

theorem Alone.congr (h : Alone s) (hcalm : Calm t) (hrelease : t.attach.state.inRelease = false)
    (hhost : t.sleep = s.sleep := by rfl) (hattach : t.attach.detect = s.attach.detect := by rfl)
    (hallot : t.allot.demand = s.allot.demand ∧ t.allot.grant = s.allot.grant ∧ t.allot.awaiting = s.allot.awaiting := by
      exact ⟨rfl, rfl, rfl⟩) : Alone t := by
  obtain ⟨-, on, present, -, coil, only⟩ := h
  obtain ⟨hdemand, hgrant, hawaiting⟩ := hallot
  refine ⟨hcalm, ?_, ?_, hrelease, ?_, ?_⟩
  · rw [hhost]
    exact on
  · rw [hattach]
    exact present
  · rw [hdemand]
    exact coil
  · unfold State.coilAndBaseOnly
    rw [hdemand, hgrant, hawaiting]
    exact only

/-- The hand-ons of a change of the link's state, at a link alone. -/
theorem Alone.entered {l : LinkState} {rest : List Task} {x : State} (h : Alone s) (htasks : s.tasks = x.enterActs l ++ rest) :
    Goes 0 8 s { s with attach := s.seated, tasks := rest } :=
  .entered htasks h.calm h.only.2.2.2.2 h.release h.detect (.inl h.host)

/-! ## The notice of a change (R115) -/

/-- A notice that is not read stays as it is. -/
theorem Drift.noticeAt (h : Drift q L s t) (hm : MemoryCanonical s) {w : Half} {time : PartTime} {kind : NoticeKind}
    {cause old new arg : Nat} (hunread : s.unread w) (hn : s.noticeAt w time kind cause old new arg) :
    t.noticeAt w time kind cause old new arg := noticeAt_congr (h.records hm w hunread).2 hn

theorem used_room (s : State) (h : 1 ≤ s.room noticeJournal) : s.used noticeJournal < 128 := by
  rw [room_notice] at h
  omega

/-- A notice offered with room stands at the write count it was offered at, not read. -/
theorem offerNotice_stands (s : State) (kind : NoticeKind) (cause old new arg : Nat) (hm : MemoryCanonical s)
    (hgap : s.journal.gap = 0) (hroom : 1 ≤ s.room noticeJournal) (hcause : cause < 256) (hold : old < 256) (hnew : new < 256)
    (harg : arg < 2 ^ 32) :
    (s.offerNotice kind cause old new arg).noticeAt (s.journalOf noticeJournal).writeCount s.now kind cause old new arg ∧
      (s.offerNotice kind cause old new arg).unread (s.journalOf noticeJournal).writeCount := by
  have hused := used_room s hroom
  rw [offerNotice_room s kind cause old new arg hgap hroom]
  refine ⟨(writeNotice_reads s kind cause old new arg hm hused hcause hold hnew harg).1, ?_⟩
  have hjournal : (s.writeNotice kind cause old new arg).journalOf noticeJournal =
      (s.journalOf noticeJournal).advanced noticeJournal := by
    rw [writeNotice_eq s kind cause old new arg hused]
    exact Vector.getElem_set_self _
  unfold State.unread State.used
  rw [hjournal, used_advanced noticeJournal _ hused]
  exact Nat.lt_succ_self _

theorem linkCode_lt (l : LinkState) : l.code < 256 := by cases l <;> decide

/-- The LINK notice of a change stands first of its event's notices (log 1). -/
theorem enterLink_notice (s : State) (l : LinkState) {cause : Nat} (hm : MemoryCanonical s) (hgap : s.journal.gap = 0)
    (hroom : 1 ≤ s.room noticeJournal) (hcause : cause < 256) :
    (s.enterLink l cause).noticeAt (s.journalOf noticeJournal).writeCount s.now .link cause s.link.state.code l.code 0 ∧
      (s.enterLink l cause).unread (s.journalOf noticeJournal).writeCount := by
  have hstands (x : State) (hx : x.mem = s.mem ∧ x.journal = s.journal ∧ x.now = s.now) :
      (x.offerNotice .link cause s.link.state.code l.code 0).noticeAt (s.journalOf noticeJournal).writeCount s.now .link cause
          s.link.state.code l.code 0 ∧
        (x.offerNotice .link cause s.link.state.code l.code 0).unread (s.journalOf noticeJournal).writeCount := by
    obtain ⟨hmem, hjournal, hnow⟩ := hx
    have hcount : x.journalOf noticeJournal = s.journalOf noticeJournal := by
      unfold State.journalOf
      rw [hjournal]
    have hsaid := offerNotice_stands x .link cause s.link.state.code l.code 0 (by unfold MemoryCanonical; rw [hmem]; exact hm)
      (by rw [hjournal]; exact hgap) (by unfold State.room State.used; rw [hcount]; exact hroom) hcause (linkCode_lt _) (linkCode_lt _)
      (by decide)
    rwa [hcount, hnow] at hsaid
  unfold State.enterLink
  dsimp only
  refine hstands _ ?_
  split
  · rw [takeDown_eq]
    exact ⟨rfl, rfl, rfl⟩
  · exact ⟨rfl, rfl, rfl⟩

/-- What is said of the LINK notice of an event in which the link changed from s's state. -/
def State.toldIn (s t : State) (l : LinkState) (cause : Nat) : Prop :=
  MemoryCanonical s → s.journal.gap = 0 → 1 ≤ s.room noticeJournal →
    t.noticeAt (s.journalOf noticeJournal).writeCount s.now .link cause s.link.state.code l.code 0

theorem toldIn_of {l : LinkState} {cause : Nat} (hcause : cause < 256) (hdrift : Drift false L (s.enterLink l cause) t) :
    s.toldIn t l cause := by
  intro hm hgap hroom
  obtain ⟨hnotice, hunread⟩ := enterLink_notice s l hm hgap hroom hcause
  exact hdrift.noticeAt ((Becomes.enterLink s l cause).drift.canonical hm) hunread hnotice

/-! ## FAULTED (R114) -/

/-- A state whose link has entered FAULTED. -/
def State.failedLink (s : State) : State :=
  { State.heldOff { s with link := s.enteredLink .faulted } true with
    settings := s.settings.withFault .baseLink (FaultEntry.activated · s.now) }

theorem Becomes.enterFaulted (s : State) (cause : Nat) :
    Becomes false 0 (s.enterFaulted cause) (State.hand s.failedLink (s.enterActs .faulted ++ [.baseFaultedOff])) := by
  have hentered := Becomes.enterLink (s.hand [.baseFaultedOff]) .faulted cause
  have hheld := hentered.apply (op := fun w => w.setHoldOff true) (g := fun w => w.heldOff true)
    (fun w => .of_eq (setHoldOff_eq w true))
  have hreported := hheld.apply (op := fun w => w.reportActive .baseLink)
    (g := fun w => { w with settings := w.settings.withFault .baseLink (FaultEntry.activated · w.now) })
    (fun w => .reportActive w .baseLink)
  have hacts := hand_hand s.failedLink [.baseFaultedOff] (s.enterActs .faulted)
  rw [← hacts]
  exact hreported

/-- The base is faulted off: its claim is withdrawn. -/
theorem Goes.baseFaultedOff {rest : List Task} (h : s.tasks = .baseFaultedOff :: rest) (ha : Alone s)
    (hdown : s.link.state.isDown = true) :
    ∃ A : AllotUnit, Goes 0 5 s { s with allot := A, tasks := rest } ∧ A.faultedOff = true ∧ A.demand.base = 0 := by
  obtain ⟨hpen, hbacklight, gpen, gbacklight, hawaiting⟩ := ha.only
  have hreview (v : State) (hoff : v.allot.faultedOff = true) :
      v.reviewBase = if v.allot.demand.base = 0 then v else (v.setDemand fun a => { a with base := 0 }).recompute := by
    unfold State.reviewBase
    rw [hoff]
    simp
  by_cases hbase : s.allot.demand.base = 0
  · refine ⟨{ s.allot with faultedOff := true }, Goes.mono (j := 1) (.front h fun v hv => ⟨v.sleep, hv.sleep, .of_eq ?_⟩)
      (by decide), rfl, hbase⟩
    have hidle : doTask .baseFaultedOff v = { v with allot := { v.allot with faultedOff := true } } := by
      refine (hreview { v with allot := { v.allot with faultedOff := true } } rfl).trans (if_pos ?_)
      rw [hv.frame]
      exact hbase
    rw [hidle]
    obtain ⟨τ, a, hτ, rfl⟩ := hv
    rfl
  · obtain ⟨A, hA⟩ : ∃ A, A = { s.allot with faultedOff := true, demand := { s.allot.demand with base := 0 } } := ⟨_, rfl⟩
    refine ⟨_, Goes.recomputeNothing (t := { s with allot := A, tasks := rest }) h (fun v hv => ?_) rfl ?_ ?_ ?_ ?_ hdown, ?_, ?_⟩
    · have hdrop : doTask .baseFaultedOff v = State.recompute { v with allot := A } := by
        refine (hreview { v with allot := { v.allot with faultedOff := true } } rfl).trans ((if_neg ?_).trans ?_)
        · rw [hv.frame]
          exact hbase
        · rw [hA]
          obtain ⟨τ, a, hτ, rfl⟩ := hv
          rfl
      rw [hdrop]
      exact Becomes.recompute _
    · rw [hA]
      show Allotments.mk s.allot.demand.coil 0 s.allot.demand.pen s.allot.demand.backlight = _
      rw [ha.coil, hpen, hbacklight]
    · rw [hA]
      exact gpen
    · rw [hA]
      exact gbacklight
    · rw [hA]
      exact hawaiting
    · show A.faultedOff = true
      rw [hA]
    · show A.demand.base = 0
      rw [hA]

/-- What a link alone leaves of the state when it has FAULTED. -/
structure Failed (s t : State) : Prop where
  now : t.now = s.now
  link : t.link = { s.enteredLink .faulted with holdOff := true }
  fault : (t.faultEntry .baseLink).active = true
  attach : t.attach = { s.attach with state := .degraded }
  faultedOff : t.allot.faultedOff = true
  demand : t.allot.demand.base = 0

theorem resting_degraded (s : State) (hdetect : s.attach.detect.level = true) (hlink : s.link.state = .faulted) :
    s.seated = { s.attach with state := .degraded } := by
  unfold State.seated State.resting
  rw [hdetect, hlink]
  rfl

theorem Like.now (h : Like s v) : v.now = s.now := by
  obtain ⟨τ, a, -, rfl⟩ := h
  rfl

/-- What the entry to FAULTED hands on, at a link alone. -/
theorem Goes.failed {rest : List Task} (ha : Alone s) :
    ∃ t, Goes 0 13 (s.failedLink.setTasks (s.enterActs .faulted ++ .baseFaultedOff :: rest)) t ∧ t.tasks = rest ∧ t.sleep = s.sleep ∧
      Failed s t := by
  have hcalm : Calm (s.failedLink.setTasks (s.enterActs .faulted ++ .baseFaultedOff :: rest)) :=
    (enteredLink_inputs s .faulted ha.calm).congr rfl ⟨rfl, rfl, rfl, rfl⟩
  have halone : Alone (s.failedLink.setTasks (s.enterActs .faulted ++ .baseFaultedOff :: rest)) := ha.congr hcalm ha.release
  have hfault := withFault_entry s.settings .baseLink (FaultEntry.activated · s.now)
  have hlink : s.failedLink.link = { s.enteredLink .faulted with holdOff := true } := rfl
  obtain ⟨x, hx⟩ : ∃ x, x = s.failedLink.setTasks (s.enterActs .faulted ++ .baseFaultedOff :: rest) := ⟨_, rfl⟩
  have hattach : x.seated = { s.attach with state := .degraded } := by
    rw [hx]
    exact resting_degraded _ ha.detect (by
      show (s.enteredLink .faulted).state = .faulted
      exact enteredLink_state s .faulted)
  rw [← hx] at hcalm halone ⊢
  obtain ⟨A, hlast, hoff, hbase⟩ := Goes.baseFaultedOff (rest := rest)
    (s := { x with attach := x.seated, tasks := .baseFaultedOff :: rest }) rfl
    (halone.congr (hcalm.congr rfl ⟨rfl, rfl, rfl, rfl⟩)
      (by
        show x.seated.state.inRelease = false
        rw [hattach]
        rfl))
    (by
      rw [hx]
      show (s.enteredLink .faulted).state.isDown = true
      rw [enteredLink_state]
      rfl)
  refine ⟨_, (halone.entered (l := .faulted) (x := s) (by rw [hx]; rfl)).next hlast, rfl, by rw [hx]; rfl, ?_⟩
  refine ⟨by rw [hx]; rfl, by rw [hx]; exact hlink, ?_, hattach, hoff, hbase⟩
  rw [hx]
  show ((s.settings.withFault .baseLink (FaultEntry.activated · s.now)).faults[FaultKind.baseLink.index]).active = true
  rw [hfault]
  exact activated_active _ _

theorem Failed.like (h : Failed s t) (hv : Like t v) : Failed s v := by
  obtain ⟨hnow, hlink, hfault, hattach, hoff, hdemand⟩ := h
  obtain ⟨τ, a, -, rfl⟩ := hv
  exact ⟨hnow, hlink, hfault, hattach, hoff, hdemand⟩

theorem enteredLink_down (s : State) (l : LinkState) (h : l.isDown = true) :
    s.enteredLink l =
      { s.link with state := l, ignoring := s.link.ignoring && l.receiving, timer := none, receiveQueue := [], hold := false
                    discards := [], transmitList := [] } := if_pos h

theorem enterFaulted_drift (s : State) (cause : Nat) :
    Drift false 0 ((s.hand [.baseFaultedOff]).enterLink .faulted cause) (s.enterFaulted cause) := by
  have hheld := setHoldOff_eq ((s.hand [.baseFaultedOff]).enterLink .faulted cause) true
  have hreport := (Becomes.reportActive (((s.hand [.baseFaultedOff]).enterLink .faulted cause).setHoldOff true) .baseLink).drift
  rw [hheld] at hreport
  unfold State.enterFaulted
  rw [hheld]
  exact hreport.congr ⟨rfl, rfl, rfl⟩ ⟨rfl, rfl, rfl⟩

/-- An event by which a link alone is FAULTED. -/
theorem takeEvent_failed {f : State → State} {cause : Nat} (hs : s.betweenEvents) (hf : f s = w.enterFaulted cause)
    (htasks : w.tasks = []) (ha : Alone w) (hcause : cause < 256 := by decide) :
    ∃ t, takeEvent s f = .next t ∧ Failed w t ∧ w.toldIn t .faulted cause := by
  have hfirst := Becomes.enterFaulted w cause
  obtain ⟨t, hgoes, hdone, -, hfailed⟩ := Goes.failed (rest := []) ha
  have hhand : State.hand w.failedLink (w.enterActs .faulted ++ [.baseFaultedOff]) =
      w.failedLink.setTasks (w.enterActs .faulted ++ .baseFaultedOff :: []) := by
    show w.failedLink.setTasks (_ ++ w.tasks) = _
    rw [htasks, List.append_nil]
  rw [hhand] at hfirst
  obtain ⟨e, hnext, hlike, hdrift⟩ := takeEvent_goesFrom (f := f) hs
    (by rw [hf]; exact ⟨_, _, .refl _, hfirst.frame⟩) hgoes hdone
  rw [hf] at hdrift
  exact ⟨e, hnext, hfailed.like hlike, toldIn_of (s := w.hand [.baseFaultedOff]) hcause ((enterFaulted_drift w cause).trans hdrift)⟩

/-! ## LOST (R113) -/

/-- A state whose link has entered LOST. -/
def State.lostLink (s : State) : State :=
  let held := State.heldOff { s with link := s.enteredLink .lost } true
  { held with link := { held.link with timer := some (.recovery, s.after 50), recoveries := s.link.recoveries + 1 } }

theorem Becomes.enterLost (s : State) (cause : Nat) (h : s.link.recoveries < 3) :
    Becomes false 0 (s.enterLost cause) (State.hand s.lostLink (s.enterActs .lost)) := by
  have hheld := (Becomes.enterLink s .lost cause).apply (op := fun w => w.setHoldOff true) (g := fun w => w.heldOff true)
    (fun w => .of_eq (setHoldOff_eq w true))
  have hlost : s.enterLost cause =
      (((s.enterLink .lost cause).setHoldOff true).setLinkTimer .recovery 50).updLink fun u =>
        { u with recoveries := u.recoveries + 1 } := if_neg (by omega)
  have htimed := hheld.blind (f := fun w => (w.setLinkTimer .recovery 50).updLink fun u => { u with recoveries := u.recoveries + 1 })
    ⟨fun _ _ => rfl, fun _ => ⟨rfl, rfl, rfl⟩⟩
  rw [hlost]
  exact htimed

theorem enterLost_faulted (s : State) (cause : Nat) (h : 3 ≤ s.link.recoveries) : s.enterLost cause = s.enterFaulted 7 := if_pos h

/-- What a link alone leaves of the state when it is LOST. -/
structure Lost (s t : State) : Prop where
  now : t.now = s.now
  link : t.link = { s.enteredLink .lost with
    holdOff := true, timer := some (.recovery, s.now + 50), recoveries := s.link.recoveries + 1 }
  attach : t.attach = { s.attach with state := .seating }

theorem enterLost_drift (s : State) (cause : Nat) (h : s.link.recoveries < 3) :
    Drift false 0 (s.enterLink .lost cause) (s.enterLost cause) := by
  have hlost : s.enterLost cause =
      (((s.enterLink .lost cause).setHoldOff true).setLinkTimer .recovery 50).updLink fun u =>
        { u with recoveries := u.recoveries + 1 } := if_neg (by omega)
  rw [hlost, setHoldOff_eq]
  generalize s.enterLink .lost cause = x
  exact (Drift.refl false x).congr ⟨rfl, rfl, rfl⟩ ⟨rfl, rfl, rfl⟩

/-- An event by which a link alone is LOST. -/
theorem takeEvent_lost {f : State → State} {cause : Nat} (hs : s.betweenEvents) (hf : f s = w.enterLost cause)
    (htasks : w.tasks = []) (ha : Alone w) (hrecoveries : w.link.recoveries < 3) (hcause : cause < 256 := by decide) :
    ∃ t, takeEvent s f = .next t ∧ Lost w t ∧ w.toldIn t .lost cause := by
  have hfirst := Becomes.enterLost w cause hrecoveries
  have hcalm : Calm (State.hand w.lostLink (w.enterActs .lost)) :=
    (enteredLink_inputs w .lost ha.calm).congr rfl ⟨rfl, rfl, rfl, rfl⟩
  have halone : Alone (State.hand w.lostLink (w.enterActs .lost)) := ha.congr hcalm ha.release
  obtain ⟨e, hnext, hlike, hdrift⟩ := takeEvent_goesFrom (f := f) hs (by rw [hf]; exact ⟨_, _, .refl _, hfirst.frame⟩)
    (halone.entered (l := .lost) (x := w) (rest := []) (by show _ ++ w.tasks = _; rw [htasks])) rfl
  rw [hf] at hdrift
  have hattach : (State.hand w.lostLink (w.enterActs .lost)).seated = { w.attach with state := .seating } := by
    unfold State.seated State.resting
    rw [show (State.hand w.lostLink (w.enterActs .lost)).attach.detect.level = true from ha.detect]
    rfl
  have htold : w.toldIn e .lost cause := toldIn_of hcause ((enterLost_drift w cause hrecoveries).trans hdrift)
  refine ⟨e, hnext, ⟨hlike.now, ?_, ?_⟩, htold⟩
  · rw [hlike.frame]
    rfl
  · rw [hlike.frame]
    exact hattach

end Sys2Proof.Machine
end

section
/-! PACKET_DISCARD, the receiver and the transmitter (R105 to R107, R113), and the timers of the link (R108 to R115). -/

namespace Sys2Proof.Machine

set_option Elab.async false

variable {q : Bool} {L M : BitVec 10} {s t u v w e : State}

/-! ## Packets offered (R107) -/

/-- The link unit after the offer of a packet that its state may allow. -/
def LinkUnit.offered (u : LinkUnit) (period : Nat) (p : PartPacket) : LinkUnit :=
  if u.state.allows p then LinkUnit.send period { u with transmitList := offerTo u.transmitList p } else u

theorem offerPacket_other (s : State) (p : PartPacket) (hp : ∀ l, p ≠ .light l) :
    s.offerPacket p = { s with link := s.link.offered s.sensor.period p } := by
  unfold LinkUnit.offered
  cases p with
  | light l => exact absurd rfl (hp l)
  | welcome a b => unfold State.offerPacket; dsimp only; split <;> rfl
  | rate a => unfold State.offerPacket; dsimp only; split <;> rfl
  | quiesce => unfold State.offerPacket; dsimp only; split <;> rfl
  | resume => unfold State.offerPacket; dsimp only; split <;> rfl

theorem offerPacket_light (s : State) (l : Nat) (h : s.link.capBacklight = true) (hopen : s.link.state.allows (.light l) = true) :
    s.offerPacket (.light l) = { s with link := s.link.offered s.sensor.period (.light l) } := by
  unfold State.offerPacket LinkUnit.offered
  dsimp only
  rw [if_pos (by rw [h, hopen]; rfl), if_pos hopen]
  rfl

theorem sameKind_self (p : PartPacket) : p.sameKind p = true := by cases p <;> rfl

theorem offered_free (u : LinkUnit) (period : Nat) (p : PartPacket) (hopen : u.state.allows p = true) (hfree : u.sending = none)
    (hlist : u.transmitList = []) :
    u.offered period p = { u.noteSent (p.atSending period) with sending := some (p.atSending period) } := by
  have hoffer : offerTo u.transmitList p = [p] := by rw [hlist]; rfl
  have hsent : u.offered period p =
      { u.noteSent (p.atSending period) with sending := some (p.atSending period), transmitList := [] } := by
    unfold LinkUnit.offered
    rw [if_pos hopen, hoffer]
    unfold LinkUnit.send
    simp only [hfree, List.find?_cons, hopen, List.filter_cons, sameKind_self]
    cases p <;> rfl
  have hnoted : (u.noteSent (p.atSending period)).transmitList = [] := by
    cases p <;> exact hlist
  rw [hsent, ← hnoted]

/-! ## The timers of the link -/

theorem exec_linkTimer {k : LinkTimerKind} {e : PartTime} {g : State → State} (hs : s.betweenEvents) (h : s.linkTimer k = some e) :
    takeEvent s (fun u => u.atExpiry (u.linkTimer k) g) = takeEvent s fun u => g (u.setNow (s.reach e).now) :=
  takeEvent_expiry (x := fun u => u.linkTimer k) hs h

theorem send_empty (period : Nat) (u : LinkUnit) (h : u.transmitList = []) : LinkUnit.send period u = u := by
  unfold LinkUnit.send
  rw [h]
  split <;> rfl

theorem enteredLink_up (s : State) (l : LinkState) (h : l.isDown = false) :
    s.enteredLink l = LinkUnit.send s.sensor.period { s.link with state := l, ignoring := s.link.ignoring && l.receiving } :=
  if_neg (by rw [h]; decide)

theorem enterActs_up (s : State) (l : LinkState) (h : l.isDown = false) : s.enterActs l = [.attachLink, .serveReceiveQueue] := by
  unfold State.enterActs
  rw [h]
  rfl

/-- A link that comes up while its base is SEATING leaves the base so. -/
theorem attachLink_seating (s : State) (hstate : s.attach.state = .seating) (hdetect : s.attach.detect.level = true)
    (hlink : s.link.state = .powering ∨ s.link.state = .greeting ∨ s.link.state = .lost) : s.attachLink = s := by
  have hresting : s.resting = s.attach.state := by
    unfold State.resting
    rw [hdetect, hstate]
    rcases hlink with hlink | hlink | hlink <;> rw [hlink] <;> rfl
  rw [attachLink_resting s (by rw [hstate]; rfl), hresting]
  exact setAttach_same s 1

/-- The link as the greeting begins (R111). -/
def State.greetingLink (s : State) : LinkUnit :=
  { s.link with state := .greeting, stage := .awaitHello, retries := 0, timer := some (.greeting, s.now + 200) }

theorem Leads.greeting (hreceive : s.link.receiveQueue = []) (howed : s.link.owed = []) (hstate : s.attach.state = .seating)
    (hdetect : s.attach.detect.level = true) {rest : List Task} :
    Leads q 0 2 { s with link := s.greetingLink, tasks := .attachLink :: .serveReceiveQueue :: rest }
      { s with link := s.greetingLink, tasks := rest } :=
  (Leads.idle (s := { s with link := s.greetingLink, tasks := .attachLink :: .serveReceiveQueue :: rest }) rfl fun v hv =>
      attachLink_seating v (by rw [hv]; exact hstate) (by rw [hv]; exact hdetect) (.inr (.inl (by rw [hv]; rfl)))).next
    (Leads.idle (s := { s with link := s.greetingLink, tasks := .serveReceiveQueue :: rest }) rfl fun v hv =>
      serveReceiveQueue_idle v (by rw [hv]; exact hreceive) (by rw [hv]; exact howed))

theorem Becomes.enterGreeting (s : State) (cause : Nat) (hlist : s.link.transmitList = []) :
    Becomes false 0 (s.enterGreeting cause)
      (State.hand { s with link := s.greetingLink } [.attachLink, .serveReceiveQueue]) := by
  have hentered := Becomes.enterLink
    { s with link := { s.link with stage := .awaitHello, retries := 0, timer := some (.greeting, s.after 200) } } .greeting cause
  have hsend := send_empty s.sensor.period { s.greetingLink with ignoring := s.link.ignoring && true } hlist
  have hsame : ({ s.greetingLink with ignoring := s.link.ignoring && true } : LinkUnit) = s.greetingLink := by
    rw [Bool.and_true]
    rfl
  rw [hsame] at hsend
  rw [enteredLink_up _ _ rfl, enterActs_up _ _ rfl] at hentered
  rw [← hsend, ← hsame]
  exact hentered

theorem exec_powerUp (s : State) (e : PartTime) (hs : s.betweenEvents) (htimer : s.linkTimer .powerUp = some e)
    (hreceive : s.link.receiveQueue = []) (howed : s.link.owed = []) (hlist : s.link.transmitList = [])
    (hstate : s.attach.state = .seating) (hdetect : s.attach.detect.level = true) :
    ∃ t, exec .powerUpTimerExpiry s = .next t ∧ t.now = (s.reach e).now ∧
      t.link = { s.link with
                 state := .greeting, stage := .awaitHello, retries := 0, timer := some (.greeting, t.now + 200) } ∧
      t = { s with now := t.now, mem := t.mem, port := t.port, journal := t.journal, link := t.link } := by
  obtain ⟨t, hnext, hframe, -⟩ := takeEvent_leads (f := fun u => (u.setNow (s.reach e).now).enterGreeting 0)
    (t := { s with now := (s.reach e).now, link := (s.setNow (s.reach e).now).greetingLink }) hs
    (Becomes.enterGreeting (s.setNow (s.reach e).now) 0 hlist) ⟨rfl, rfl, rfl⟩
    (Leads.greeting (s := s.setNow (s.reach e).now) (rest := s.tasks) hreceive howed hstate hdetect) hs.1
  have hnow := congrArg State.now hframe
  have hlink := congrArg State.link hframe
  dsimp only [State.withNoise] at hnow hlink
  refine ⟨t, (exec_linkTimer hs htimer).trans hnext, hnow, ?_, ?_⟩
  · rw [hlink, hnow]
    rfl
  · rw [hnow, hlink]
    exact hframe

theorem exec_greetingRetry (s : State) (e : PartTime) (hs : s.betweenEvents) (htimer : s.linkTimer .greeting = some e)
    (hretries : s.link.retries < 3) :
    (s.link.stage = .awaitHello →
      exec .greetingTimerExpiry s = .next
        { s with
          now := (s.reach e).now
          link := { s.link with
                    retries := s.link.retries + 1, timer := some (.greeting, (s.reach e).now + 200) } }) ∧
      (s.link.stage = .awaitAck → s.link.state = .greeting → s.link.sending = none → s.link.transmitList = [] →
        exec .greetingTimerExpiry s = .next
          { s with
            now := (s.reach e).now
            link := { s.link with
                      retries := s.link.retries + 1, timer := some (.greeting, (s.reach e).now + 200)
                      sending := some (.welcome s.sensor.period s.allot.level)
                      lastPeriodSent := s.sensor.period, lastLevelSent := s.allot.level } }) := by
  have hexpiry := exec_linkTimer (g := State.greetingExpired) hs htimer
  obtain ⟨w, hw⟩ : ∃ w : State, w =
      { s with
        now := (s.reach e).now
        link := { s.link with retries := s.link.retries + 1, timer := some (.greeting, (s.reach e).now + 200) } } := ⟨_, rfl⟩
  have hretry : State.greetingExpired (s.setNow (s.reach e).now) = if w.link.stage = .awaitAck then w.offerWelcome else w := by
    rw [hw]
    exact if_pos hretries
  refine ⟨fun hstage => hexpiry.trans (takeEvent_set hs (hretry.trans ((if_neg ?_).trans hw)) ⟨rfl, rfl⟩ rfl),
    fun hstage hstate hfree hlist => hexpiry.trans (takeEvent_set hs (hretry.trans ((if_pos ?_).trans ?_)) ⟨rfl, rfl⟩ rfl)⟩
  · rw [hw]
    show s.link.stage ≠ .awaitAck
    rw [hstage]
    decide
  · rw [hw]
    exact hstage
  · have hopen : w.link.state.allows (.welcome s.sensor.period s.allot.level) = true := by
      rw [hw]
      show s.link.state.allows _ = true
      rw [hstate]
      rfl
    refine (offerPacket_other w _ (by simp)).trans ?_
    rw [offered_free w.link _ _ (by rw [hw] at hopen ⊢; exact hopen) (by rw [hw]; exact hfree) (by rw [hw]; exact hlist), hw]
    rfl

/-- The state of a link alone after a change of its state and what that hands on. -/
def State.entered (s : State) (l : LinkState) : State :=
  { s with link := s.enteredLink l, attach := State.seated { s with link := s.enteredLink l } }

/-- An event that is a change of state of a link alone. -/
theorem takeEvent_enters {f : State → State} {l : LinkState} {cause : Nat} (hs : s.betweenEvents) (hf : f s = w.enterLink l cause)
    (htasks : w.tasks = []) (ha : Alone w) : ∃ t, takeEvent s f = .next t ∧ Like ((w.entered l).setTasks []) t := by
  have hfirst := Becomes.enterLink w l cause
  have halone : Alone (State.hand { w with link := w.enteredLink l } (w.enterActs l)) :=
    ha.congr ((enteredLink_inputs w l ha.calm).congr rfl ⟨rfl, rfl, rfl, rfl⟩) ha.release
  obtain ⟨e, hnext, hlike, -⟩ := takeEvent_goesFrom (f := f) hs (by rw [hf]; exact ⟨_, _, .refl _, hfirst.frame⟩)
    (halone.entered (l := l) (x := w) (rest := []) (by show _ ++ w.tasks = _; rw [htasks])) rfl
  exact ⟨e, hnext, hlike⟩

theorem seated_state (s : State) (hdetect : s.attach.detect.level = true) (l : LinkState) (hlink : s.link.state = l) :
    s.seated.state = restingState true l := by
  unfold State.seated State.resting
  rw [hdetect, hlink]

section
variable (s : State) (e : PartTime) (hs : s.betweenEvents) (ha : s.linkAlone)
include hs ha

theorem exec_greetingFailed (htimer : s.linkTimer .greeting = some e) (hretries : 3 ≤ s.link.retries) :
    ∃ t, exec .greetingTimerExpiry s = .next t ∧ t.now = (s.reach e).now ∧ t.link.state = .faulted ∧
      t.link.holdOff = true ∧ t.link.timer = none ∧ (t.faultEntry .baseLink).active = true ∧
      t.attach.state = .degraded ∧ t.allot.faultedOff = true ∧ t.allot.demand.base = 0 := by
  have hfailing : (s.setNow (s.reach e).now).greetingExpired =
      State.enterFaulted { s.setNow (s.reach e).now with link := { s.link with timer := none } } 5 :=
    if_neg (Nat.not_lt.mpr hretries)
  obtain ⟨t, hnext, hfailed, -⟩ := takeEvent_failed (f := fun u => (u.setNow (s.reach e).now).greetingExpired) hs hfailing hs.1
    ((Alone.of ha).congr ((Alone.of ha).calm.congr rfl ⟨rfl, rfl, rfl, rfl⟩) (Alone.of ha).release)
  have hlink := hfailed.link
  rw [enteredLink_down _ _ rfl] at hlink
  refine ⟨t, (exec_linkTimer hs htimer).trans hnext, hfailed.now, ?_, ?_, ?_, hfailed.fault, ?_, hfailed.faultedOff, hfailed.demand⟩
  · rw [hlink]
  · rw [hlink]
  · rw [hlink]
  · rw [hfailed.attach]

theorem exec_supervisionLost (htimer : s.linkTimer .supervision = some e) (hrecoveries : s.link.recoveries < 3) :
    ∃ t, exec .supervisionTimerExpiry s = .next t ∧ t.now = (s.reach e).now ∧ t.link.state = .lost ∧
      t.link.holdOff = true ∧ t.link.timer = some (.recovery, t.now + 50) ∧
      t.link.recoveries = s.link.recoveries + 1 ∧ t.link.transmitList = [] ∧ t.link.discards = [] ∧
      t.attach.state = .seating := by
  obtain ⟨t, hnext, hlost, -⟩ := takeEvent_lost (f := fun u => (u.setNow (s.reach e).now).enterLost 3) hs rfl hs.1
    ((Alone.of ha).congr ((Alone.of ha).calm.congr rfl ⟨rfl, rfl, rfl, rfl⟩) (Alone.of ha).release) hrecoveries
  have hlink := hlost.link
  rw [enteredLink_down _ _ rfl] at hlink
  refine ⟨t, (exec_linkTimer hs htimer).trans hnext, hlost.now, ?_, ?_, ?_, ?_, ?_, ?_, ?_⟩
  · rw [hlink]
  · rw [hlink]
  · rw [hlink, hlost.now]
  · rw [hlink]
    rfl
  · rw [hlink]
  · rw [hlink]
  · rw [hlost.attach]

theorem exec_recovered (htimer : s.linkTimer .recovery = some e) :
    ∃ t, exec .recoveryTimerExpiry s = .next t ∧ t.now = (s.reach e).now ∧ t.link.holdOff = false ∧
      (0 < s.allot.grant.base →
        t.link.state = .powering ∧ t.link.timer = some (.powerUp, t.now + 20) ∧ t.attach.state = .seating) ∧
      (s.allot.grant.base = 0 → t.link.state = .unpowered ∧ t.link.timer = none ∧ t.attach.state = .degraded) := by
  obtain ⟨w, hw⟩ : ∃ w : State, w = State.heldOff { s.setNow (s.reach e).now with link := { s.link with timer := none } } false :=
    ⟨_, rfl⟩
  have hrecovered : (s.setNow (s.reach e).now).recoveryExpired = w.powerOrWait := by
    unfold State.recoveryExpired
    rw [setHoldOff_eq, hw]
    rfl
  have halone : Alone w := by
    rw [hw]
    exact (Alone.of ha).congr ((Alone.of ha).calm.congr rfl ⟨rfl, rfl, rfl, rfl⟩) (Alone.of ha).release
  have hgrant : w.allot.grant = s.allot.grant := by rw [hw]; rfl
  have htasks : w.tasks = [] := by rw [hw]; exact hs.1
  have hnow : w.now = (s.reach e).now := by rw [hw]; rfl
  have hheld : w.link.holdOff = false := by rw [hw]; rfl
  by_cases hpowered : 0 < s.allot.grant.base
  · have hpowering : w.powerOrWait = State.enterLink { w with link := { w.link with timer := some (.powerUp, w.after 20) } } .powering 0 :=
      if_pos (by rw [hgrant]; exact hpowered)
    obtain ⟨t, hnext, hlike⟩ := takeEvent_enters (f := fun u => (u.setNow (s.reach e).now).recoveryExpired) hs
      (hrecovered.trans hpowering) htasks (halone.congr (halone.calm.congr rfl ⟨rfl, rfl, rfl, rfl⟩) halone.release)
    have hlink := congrArg State.link hlike.frame
    have hattach := congrArg State.attach hlike.frame
    have htime : t.now = w.now := hlike.now
    dsimp only [State.withNoise, State.setTasks, State.entered] at hlink hattach
    have hstate := enteredLink_state { w with link := { w.link with timer := some (.powerUp, w.after 20) } } .powering
    have hsent := enteredLink_up { w with link := { w.link with timer := some (.powerUp, w.after 20) } } .powering rfl
    refine ⟨t, (exec_linkTimer hs htimer).trans hnext, htime.trans hnow, ?_, fun _ => ⟨?_, ?_, ?_⟩, fun h => ?_⟩
    · rw [hlink, hsent, send_frame]
      exact hheld
    · rw [hlink]
      exact hstate
    · rw [hlink, hsent, send_frame, htime]
      rfl
    · rw [hattach]
      refine (seated_state _ ?_ .powering ?_).trans rfl
      · exact halone.detect
      · exact hstate
    · omega
  · have hwaiting : w.powerOrWait = w.enterLink .unpowered 0 := if_neg (by rw [hgrant]; exact hpowered)
    obtain ⟨t, hnext, hlike⟩ := takeEvent_enters (f := fun u => (u.setNow (s.reach e).now).recoveryExpired) hs
      (hrecovered.trans hwaiting) htasks halone
    have hlink := congrArg State.link hlike.frame
    have hattach := congrArg State.attach hlike.frame
    have htime : t.now = w.now := hlike.now
    dsimp only [State.withNoise, State.setTasks, State.entered] at hlink hattach
    have hstate := enteredLink_state w .unpowered
    have hdown := enteredLink_down w .unpowered rfl
    refine ⟨t, (exec_linkTimer hs htimer).trans hnext, htime.trans hnow, ?_, fun h => absurd h hpowered, fun _ => ⟨?_, ?_, ?_⟩⟩
    · rw [hlink, hdown]
      exact hheld
    · rw [hlink]
      exact hstate
    · rw [hlink, hdown]
    · rw [hattach]
      refine (seated_state _ ?_ .unpowered ?_).trans rfl
      · exact halone.detect
      · exact hstate

end

/-- Settles O50: power-up, the greeting's retries, and the three ends of a timer of a link alone. -/
theorem linkTimers : Obligations.LinkTimers := by
  unfold Obligations.LinkTimers
  exact ⟨exec_powerUp, fun s e hs htimer hretries => exec_greetingRetry s e hs htimer hretries, fun s e hs ha =>
    ⟨exec_greetingFailed s e hs ha, exec_supervisionLost s e hs ha, exec_recovered s e hs ha⟩⟩

/-! ## The receiver and the transmitter -/

/-- The times of the discards of the last 1000 ms, this one among them. -/
def State.discardTimes (s : State) : List PartTime :=
  s.link.discards.filter (fun t => decide ((s.now - t).toNat ≤ 1000)) ++ [s.now]

/-- The reasons after which bytes are ignored (R105). -/
def deafens (r : DiscardReason) : Bool := decide (r = .byteError ∨ r = .overlongHeader)

theorem discardPacket_heard (s : State) (r : DiscardReason) (hreceiving : s.link.state.receiving = true)
    (hignoring : s.link.ignoring = false) :
    s.discardPacket r =
      if 5 ≤ s.discardTimes.length then
        State.enterLost { s with link := { s.link with discards := [], ignoring := deafens r } } 4
      else { s with link := { s.link with discards := s.discardTimes, ignoring := deafens r } } := by
  unfold State.discardPacket
  rw [if_pos (by rw [hreceiving, hignoring]; rfl)]
  cases r <;> rfl

theorem discardPacket_deaf (s : State) (r : DiscardReason) (h : s.link.state.receiving = false ∨ s.link.ignoring = true) :
    s.discardPacket r = s := by
  refine if_neg ?_
  rcases h with h | h <;> rw [h] <;> simp

theorem exec_fifthDiscard (s : State) (hs : s.betweenEvents) (r : DiscardReason) (hreceiving : s.link.state.receiving = true)
    (hignoring : s.link.ignoring = false) (htimes : 5 ≤ s.discardTimes.length) (ha : s.linkAlone) :
    let W := (s.journalOf noticeJournal).writeCount
    ∃ t, exec (.packetDiscard r) s = .next t ∧ t.link.holdOff = true ∧ t.link.discards = [] ∧
      t.link.transmitList = [] ∧
      (s.link.recoveries < 3 →
        t.link.state = .lost ∧ t.link.timer = some (.recovery, s.now + 50) ∧
        t.link.recoveries = s.link.recoveries + 1 ∧ t.attach.state = .seating ∧
        (MemoryCanonical s → s.journal.gap = 0 → 1 ≤ s.room noticeJournal →
          t.noticeAt W s.now .link 4 s.link.state.code LinkState.lost.code 0)) ∧
      (3 ≤ s.link.recoveries →
        t.link.state = .faulted ∧ t.link.timer = none ∧ (t.faultEntry .baseLink).active = true ∧
        t.attach.state = .degraded ∧ t.allot.faultedOff = true ∧ t.allot.demand.base = 0 ∧
        (MemoryCanonical s → s.journal.gap = 0 → 1 ≤ s.room noticeJournal →
          t.noticeAt W s.now .link 7 s.link.state.code LinkState.faulted.code 0)) := by
  have halone : Alone { s with link := { s.link with discards := [], ignoring := deafens r } } :=
    (Alone.of ha).congr ((Alone.of ha).calm.congr rfl ⟨rfl, rfl, rfl, rfl⟩) (Alone.of ha).release
  have hfall := (discardPacket_heard s r hreceiving hignoring).trans (if_pos htimes)
  by_cases hrecoveries : s.link.recoveries < 3
  · obtain ⟨t, hnext, hlost, htold⟩ := takeEvent_lost (f := fun u => u.discardPacket r) hs hfall hs.1 halone hrecoveries
    have hlink := hlost.link
    rw [enteredLink_down _ _ rfl] at hlink
    refine ⟨t, hnext, ?_, ?_, ?_, fun _ => ⟨?_, ?_, ?_, ?_, htold⟩, fun h => by omega⟩
    · rw [hlink]
    · rw [hlink]
    · rw [hlink]
    · rw [hlink]
    · rw [hlink]
    · rw [hlink]
    · rw [hlost.attach]
  · have hfault := hfall.trans (enterLost_faulted _ 4 (Nat.not_lt.mp hrecoveries))
    obtain ⟨t, hnext, hfailed, htold⟩ := takeEvent_failed (f := fun u => u.discardPacket r) hs hfault hs.1 halone
    have hlink := hfailed.link
    rw [enteredLink_down _ _ rfl] at hlink
    refine ⟨t, hnext, ?_, ?_, ?_, fun h => absurd h hrecoveries,
      fun _ => ⟨?_, ?_, hfailed.fault, ?_, hfailed.faultedOff, hfailed.demand, htold⟩⟩
    · rw [hlink]
    · rw [hlink]
    · rw [hlink]
    · rw [hlink]
    · rw [hlink]
    · rw [hfailed.attach]

theorem transmitDone_free (s : State) (h : s.link.sending = none) : s.transmitDone = s := by
  unfold State.transmitDone
  rw [h]

theorem transmitDone_busy (s : State) {p : PartPacket} (h : s.link.sending = some p) :
    s.transmitDone = { s with link := LinkUnit.send s.sensor.period { s.link with sending := none } } := by
  unfold State.transmitDone
  rw [h]
  rfl

theorem send_first (period : Nat) (u : LinkUnit) {p : PartPacket} {rest : List PartPacket} (hfree : u.sending = none)
    (hlist : u.transmitList = p :: rest) (hopen : u.state.allows p = true) :
    LinkUnit.send period u =
      { u.noteSent (p.atSending period) with
        sending := some (p.atSending period), transmitList := rest.filter fun x => !x.sameKind p } := by
  unfold LinkUnit.send
  rw [hfree, hlist]
  simp only [List.find?_cons, hopen, List.filter_cons, sameKind_self]
  rfl

/-- Settles O49: a discard by how many came before it, the receiver at rest, and the transmitter by what it lists. -/
theorem receiverAndTransmitter : Obligations.ReceiverAndTransmitter := by
  unfold Obligations.ReceiverAndTransmitter
  intro s hs
  refine ⟨fun r => ⟨fun hreceiving hignoring htimes => ?_, fun hreceiving hignoring htimes ha => ?_, fun h => ?_⟩,
    fun bytes hparse => ?_, ?_, fun hfree => takeEvent_self s _ hs (transmitDone_free s hfree), fun p hbusy => ⟨fun hlist => ?_,
    fun q rest hlist hopen => ?_⟩⟩
  · exact takeEvent_set hs ((discardPacket_heard s r hreceiving hignoring).trans (if_neg (Nat.not_le.mpr htimes))) ⟨rfl, rfl⟩ rfl
  · exact exec_fifthDiscard s hs r hreceiving hignoring htimes ha
  · exact takeEvent_self s _ hs (discardPacket_deaf s r h)
  · show takeEvent s _ = takeEvent s _
    rw [hparse]
  · exact takeEvent_set (f := fun u => u.updLink fun x => { x with ignoring := false }) hs rfl ⟨rfl, rfl⟩ rfl
  · refine takeEvent_set hs ((transmitDone_busy s hbusy).trans ?_) ⟨rfl, rfl⟩ rfl
    exact congrArg (fun x => { s with link := x }) (send_empty s.sensor.period { s.link with sending := none } hlist)
  · have hsent := (transmitDone_busy s hbusy).trans (congrArg (fun x => { s with link := x })
      (send_first s.sensor.period { s.link with sending := none } rfl hlist hopen))
    refine ⟨_, takeEvent_set hs hsent ⟨rfl, rfl⟩ ?_, rfl, rfl, rfl⟩
    cases q <;> rfl

end Sys2Proof.Machine
end

section
/-! Grants in force with nothing awaited: the hand-ons of an event leave them (R165 to R171), and the allotment unit's events. -/

namespace Sys2Proof.Machine

set_option Elab.async false

variable {q : Bool} {L M : BitVec 10} {s t u v w e : State} {ρ : Aspect}

/-! ## What a request's end leaves of the rest -/

/-- Finishing writes the slot it ends, and may let the dispatcher consider its queue. -/
theorem finishUnit_frame (s : State) (u : ServingUnit) (code : ResultCode) (detail : Nat) (words : List Word) :
    (s.finishUnit u code detail words).dispatch.queue = s.dispatch.queue ∧
      ((s.finishUnit u code detail words).tasks = s.tasks ∨
        (s.finishUnit u code detail words).tasks = s.tasks ++ [.considerQueue]) ∧
      s.finishUnit u code detail words =
        { s with
          dispatch := (s.finishUnit u code detail words).dispatch, mem := (s.finishUnit u code detail words).mem
          port := (s.finishUnit u code detail words).port, tasks := (s.finishUnit u code detail words).tasks } := by
  unfold State.finishUnit
  split
  · exact ⟨rfl, .inl rfl, rfl⟩
  · unfold State.finishSlot
    split <;> exact ⟨rfl, .inr rfl, rfl⟩

/-! ## Hand-ons that leave the grants alone -/

/-- The hand-ons of changed grants, of a changed link and of what these bring. -/
def Task.eased : Task → Bool
  | .linkGrant | .penGrant | .backlightGrant | .coilAnswer | .attachLink | .serveReceiveQueue | .confirmDecrease _ | .linkAttach
  | .sleepAttach _ _ | .activity | .wakeEvent _ | .postureAttach | .angleAttach | .sensorAttach | .publishFlags
  | .sleepCommit _ | .reportPosture _ _ | .gateRotation | .considerQueue => true
  | _ => false

/-- The grants of an allotment unit that awaits nothing and has no claim of the coil stand in s, where only such hand-ons wait. -/
structure Eased (A : AllotUnit) (s : State) : Prop where
  calm : Calm s
  host : s.sleep.host = .on
  release : s.attach.state.inRelease = false
  demand : s.allot.demand = A.demand
  grant : s.allot.grant = A.grant
  increases : s.allot.increases = A.increases
  awaiting : s.allot.awaiting = []
  coil : s.allot.demand.coil ≠ 1200
  tasks : s.tasks.all Task.eased = true

variable {A : AllotUnit}

theorem Eased.becomes (h : Eased A t) (hb : Becomes q L e t) : Eased A e := by
  rw [hb.frame]
  exact ⟨h.calm.congr rfl ⟨rfl, rfl, rfl, rfl⟩, h.host, h.release, h.demand, h.grant, h.increases, h.awaiting, h.coil, h.tasks⟩

theorem Eased.of_eq (h : Eased A s) (he : e = s) : Eased A e := he ▸ h

/-- A state that differs in nothing it speaks of. -/
theorem Eased.other (h : Eased A s) (hcalm : Calm t) (hhost : t.sleep.host = s.sleep.host)
    (hrelease : t.attach.state.inRelease = false)
    (hallot : t.allot.demand = s.allot.demand ∧ t.allot.grant = s.allot.grant ∧ t.allot.increases = s.allot.increases ∧
      t.allot.awaiting = s.allot.awaiting) (htasks : t.tasks.all Task.eased = true) : Eased A t := by
  obtain ⟨hdemand, hgrant, hincreases, hawaiting⟩ := hallot
  exact ⟨hcalm, hhost.trans h.host, hrelease, hdemand.trans h.demand, hgrant.trans h.grant, hincreases.trans h.increases,
    hawaiting.trans h.awaiting, by rw [hdemand]; exact h.coil, htasks⟩

theorem Eased.hand (h : Eased A s) {ts : List Task} (hts : ts.all Task.eased = true) : Eased A (s.hand ts) :=
  h.other (h.calm.congr rfl ⟨rfl, rfl, rfl, rfl⟩) rfl h.release ⟨rfl, rfl, rfl, rfl⟩ (by
    show (ts ++ s.tasks).all Task.eased = true
    rw [List.all_append, hts, h.tasks]
    rfl)

theorem Eased.setAttach (h : Eased A s) (after : AttachState) (cause : Nat) (hafter : after.inRelease = false) :
    Eased A (s.setAttach after cause) := by
  by_cases hsame : after = s.attach.state
  · rw [hsame, setAttach_same]
    exact h
  · refine Eased.becomes (Eased.hand (h.other (t := { s with attach := { s.attach with state := after } })
      (h.calm.congr rfl ⟨rfl, rfl, rfl, rfl⟩) rfl hafter ⟨rfl, rfl, rfl, rfl⟩ h.tasks) ?_) (Becomes.setAttach s after cause hsame)
    unfold attachReaders
    split <;> rfl

theorem restingState_rests (detect : Bool) (l : LinkState) : (restingState detect l).inRelease = false := by
  unfold restingState
  split
  · cases l <;> rfl
  · rfl

theorem enterActs_eased (s : State) (l : LinkState) : (s.enterActs l).all Task.eased = true := by
  unfold State.enterActs
  split <;> rfl

theorem Eased.enterLink (h : Eased A s) (l : LinkState) (cause : Nat) : Eased A (s.enterLink l cause) :=
  Eased.becomes (Eased.hand (h.other (t := { s with link := s.enteredLink l }) (enteredLink_inputs s l h.calm) rfl h.release
    ⟨rfl, rfl, rfl, rfl⟩ h.tasks) (enterActs_eased s l)) (Becomes.enterLink s l cause)

theorem Eased.linkGrant (h : Eased A s) : Eased A s.linkGrant := by
  have hpowering : Eased A s.enterPowering :=
    Eased.enterLink (h.other (t := s.setLinkTimer .powerUp 20) (h.calm.congr rfl ⟨rfl, rfl, rfl, rfl⟩) rfl h.release
      ⟨rfl, rfl, rfl, rfl⟩ h.tasks) .powering 0
  unfold State.linkGrant
  split
  · split
    · exact hpowering
    · exact h
  · split <;> first | exact h.enterLink .unpowered 2 | exact h

theorem Eased.commitPosture (h : Eased A s) (p : Posture) (band : Option Nat) (cause : Nat) :
    Eased A (s.commitPosture p band cause) :=
  Eased.becomes (q := false) (Eased.hand (h.other (t := { s with posture := s.postureCommitted p band })
    (h.calm.congr rfl ⟨rfl, rfl, rfl, rfl⟩) rfl h.release ⟨rfl, rfl, rfl, rfl⟩ h.tasks) rfl) (Becomes.commitPosture s p band cause)

theorem Eased.finishUnit (h : Eased A s) (u : ServingUnit) (code : ResultCode) (detail : Nat) (words : List Word) :
    Eased A (s.finishUnit u code detail words) := by
  obtain ⟨hqueue, htasks, hframe⟩ := finishUnit_frame s u code detail words
  generalize s.finishUnit u code detail words = e at hqueue htasks hframe ⊢
  have hlink : e.link = s.link := by rw [hframe]
  have hsleep : e.sleep = s.sleep := by rw [hframe]
  have hattach : e.attach = s.attach := by rw [hframe]
  have hallot : e.allot = s.allot := by rw [hframe]
  refine h.other (h.calm.congr hqueue (by rw [hlink]; exact ⟨rfl, rfl, rfl, rfl⟩)) (by rw [hsleep]) (by rw [hattach]; exact h.release)
    (by rw [hallot]; exact ⟨rfl, rfl, rfl, rfl⟩) ?_
  rcases htasks with htasks | htasks <;> rw [htasks]
  · exact h.tasks
  · rw [List.all_append, h.tasks]
    rfl

theorem angleDetached_eq (s : State) :
    s.angleDetached =
      State.failCalibration
        { s with angle := { s.angle with quality := .unavailable, hasValue := false, holdCount := 0 } } 1 := rfl

theorem Eased.failCalibration (h : Eased A s) (detail : Nat) : Eased A (s.failCalibration detail) := by
  unfold State.failCalibration
  split
  · exact h
  · exact Eased.finishUnit (h.other (t := s.setCalibration none) (h.calm.congr rfl ⟨rfl, rfl, rfl, rfl⟩) rfl h.release
      ⟨rfl, rfl, rfl, rfl⟩ h.tasks) _ _ _ _

theorem Eased.offerLight (h : Eased A s) (l : Nat) : Eased A (s.offerPacket (.light l)) := by
  by_cases hopen : (s.link.capBacklight && s.link.state.allows (.light l)) = true
  · have hboth := Bool.and_eq_true_iff.mp hopen
    rw [offerPacket_light _ _ hboth.1 hboth.2]
    refine h.other (h.calm.congr rfl ?_) rfl h.release ⟨rfl, rfl, rfl, rfl⟩ h.tasks
    show (s.link.offered s.sensor.period (.light l)).receiveQueue = _ ∧ _
    unfold LinkUnit.offered
    split
    · rw [send_frame]
      exact ⟨rfl, rfl, rfl, rfl⟩
    · exact ⟨rfl, rfl, rfl, rfl⟩
  · exact (h.hand (ts := [.confirmDecrease .backlight]) rfl).of_eq (if_neg hopen)

theorem Eased.backlightGrant (h : Eased A s) : Eased A s.backlightGrant := by
  unfold State.backlightGrant
  dsimp only
  split
  · exact h
  · exact Eased.offerLight (h.other (t := s.updAllot fun u => { u with level := s.allot.grant.backlight / 150 })
      (h.calm.congr rfl ⟨rfl, rfl, rfl, rfl⟩) rfl h.release ⟨rfl, rfl, rfl, rfl⟩ h.tasks) _

/-- One such hand-on. -/
theorem Eased.doTask (h : Eased A s) {x : Task} (hx : x.eased = true) : Eased A (doTask x s) := by
  cases x with
  | linkGrant => exact h.linkGrant
  | penGrant =>
    exact Eased.becomes (h.other (t := { s with pen := s.grantedPen }) (h.calm.congr rfl ⟨rfl, rfl, rfl, rfl⟩) rfl h.release
      ⟨rfl, rfl, rfl, rfl⟩ h.tasks) (Becomes.penGrant s)
  | backlightGrant => exact h.backlightGrant
  | coilAnswer => exact h.of_eq (coilAnswer_undemanded s h.coil)
  | attachLink =>
    show Eased A s.attachLink
    rw [attachLink_resting s h.release]
    exact h.setAttach _ _ (restingState_rests _ _)
  | serveReceiveQueue => exact h.of_eq (serveReceiveQueue_quiet s h.calm)
  | confirmDecrease c => exact h.of_eq (confirmDecrease_none s c h.awaiting)
  | linkAttach => exact (h.hand rfl).of_eq (followGate_quiet s h.calm)
  | sleepAttach before after =>
    refine h.hand ?_
    split <;> rfl
  | activity =>
    exact Eased.becomes (h.other (t := { s with sleep := s.activeSleep }) (h.calm.congr rfl ⟨rfl, rfl, rfl, rfl⟩)
      (by
        show s.activeSleep.host = _
        unfold State.activeSleep
        split <;> rfl) h.release ⟨rfl, rfl, rfl, rfl⟩ h.tasks) (Becomes.activity s)
  | wakeEvent w => exact h.of_eq (wakeEvent_on s w h.host)
  | postureAttach =>
    show Eased A s.commitDetached
    unfold State.commitDetached
    split
    · exact h
    · exact Eased.commitPosture (h.other
        (t := s.updPosture fun u => { u with dwell := none, unavailable := none, outOfTable := false }) (h.calm.congr rfl ⟨rfl, rfl, rfl, rfl⟩) rfl h.release ⟨rfl, rfl, rfl, rfl⟩ h.tasks) _ _ _
  | angleAttach =>
    show Eased A s.angleDetached
    rw [angleDetached_eq]
    exact Eased.failCalibration (h.other
      (t := { s with angle := { s.angle with quality := .unavailable, hasValue := false, holdCount := 0 } }) (h.calm.congr rfl ⟨rfl, rfl, rfl, rfl⟩) rfl h.release ⟨rfl, rfl, rfl, rfl⟩ h.tasks) 1
  | sensorAttach =>
    exact h.other (t := s.sensorAttach) (h.calm.congr rfl ⟨rfl, rfl, rfl, rfl⟩) rfl h.release ⟨rfl, rfl, rfl, rfl⟩ h.tasks
  | publishFlags =>
    show Eased A s.publishFlags
    rw [publishFlags_quiet s h.calm]
    exact Eased.hand (h.other (t := { s with link := s.published }) (h.calm.congr rfl ⟨rfl, rfl, rfl, rfl⟩) rfl h.release
      ⟨rfl, rfl, rfl, rfl⟩ h.tasks) rfl
  | sleepCommit before =>
    obtain ⟨σ, hσ, hgrace⟩ := Becomes.graceCommit s before
    have hlike : Like s ({ s with sleep := σ } : State) := ⟨σ, s, hσ, rfl⟩
    refine Eased.hand (Eased.becomes (h.other (t := { s with sleep := σ }) (h.calm.congr rfl ⟨rfl, rfl, rfl, rfl⟩) hlike.host h.release
      ⟨rfl, rfl, rfl, rfl⟩ h.tasks) hgrace) ?_
    split <;> rfl
  | reportPosture before cause => exact Eased.becomes h (Becomes.reportPosture s before cause)
  | gateRotation =>
    refine Eased.becomes (Eased.hand (h.other (t := { s with posture := s.gatedPosture }) (h.calm.congr rfl ⟨rfl, rfl, rfl, rfl⟩) rfl
      h.release ⟨rfl, rfl, rfl, rfl⟩ h.tasks) ?_) (Becomes.gateRotation s)
    rcases gateActs_cases s with hacts | hacts <;> rw [hacts] <;> rfl
  | considerQueue => exact h.of_eq (considerQueue_idle s h.calm.queue)
  | _ => cases hx

/-- All of them. -/
theorem Eased.runTasks (h : Eased A s) (n : Nat) : Eased A (runTasks n s) := by
  induction n generalizing s with
  | zero => exact h
  | succ n ih =>
    unfold Machine.runTasks
    split
    · exact h
    · next x rest hs =>
      have htasks := h.tasks
      rw [hs, List.all_cons, Bool.and_eq_true] at htasks
      obtain ⟨hx, hrest⟩ := htasks
      exact ih (Eased.doTask (h.other (t := s.setTasks rest) (h.calm.congr rfl ⟨rfl, rfl, rfl, rfl⟩) rfl h.release
        ⟨rfl, rfl, rfl, rfl⟩ hrest) hx)

theorem State.ends.eased (h : u.ends s t) (hu : Eased A u) :
    t.allot.demand = A.demand ∧ t.allot.grant = A.grant ∧ t.allot.increases = A.increases ∧ t.allot.awaiting = [] := by
  obtain ⟨m, -, rfl⟩ := h
  have hend := hu.runTasks m
  rw [closeBoard_frame]
  exact ⟨hend.demand, hend.grant, hend.increases, hend.awaiting⟩

/-! ## Decreases confirmed -/

theorem grantTasks_eased (g g' : Allotments) : (grantTasks g g').all Task.eased = true := by
  unfold grantTasks
  split <;> split <;> split <;> rfl

/-- The last decrease awaited is confirmed. -/
theorem confirmDecrease_last (s : State) (c : Awaited) (d : PartTime) (h : s.allot.awaiting = [⟨c, d⟩]) :
    s.confirmDecrease c = State.settleIncreases { s with allot := { s.allot with awaiting := [] } } := by
  unfold State.confirmDecrease
  rw [if_pos (by rw [h]; simp)]
  have hlist : unawait s.allot.awaiting c = [] := by
    rw [h]
    simp [unawait]
  unfold State.updAllot
  dsimp only
  rw [hlist]

/-- The pending increases in force (R167). -/
structure Settled (s t : State) : Prop where
  awaiting : t.allot.awaiting = []
  grant : t.allot.grant = raised s.allot.grant s.allot.increases
  increases : t.allot.increases = noIncreases
  now : t.now = s.now

theorem calm_of_eased {ts : List Task} (h : ts.all Task.eased = true) : ts.all Task.calm = true := by
  rw [List.all_eq_true] at h ⊢
  intro x hx
  have heased := h x hx
  cases x <;> first | rfl | cases heased

/-- An event that leads to the last decrease's confirmation. -/
theorem takeEvent_confirms {k : Nat} {f : State → State} {c : Awaited} {d : PartTime} {rest : List Task} (hs : s.betweenEvents)
    (hf : Carried k (f s) v) (hv : v = (w.confirmDecrease c)) (htasks : w.tasks = rest) (hrest : rest.all Task.eased = true)
    (hawaiting : w.allot.awaiting = [⟨c, d⟩]) (hcoil : w.allot.demand.coil = 0) (hhost : w.sleep.host = .on) (hcalm : Calm w)
    (hrelease : w.attach.state.inRelease = false) (hk : k ≤ 100 := by decide) :
    ∃ t, takeEvent s f = .next t ∧ Settled w t := by
  obtain ⟨t, hnext, hends⟩ := takeEvent_ends hs hf hk
  have hsettle := Becomes.settleIncreases (q := false) (s := { w with allot := { w.allot with awaiting := [] } }) rfl
  rw [← confirmDecrease_last w c d hawaiting, ← hv] at hsettle
  have heased : Eased { w.allot with grant := raised w.allot.grant w.allot.increases, increases := noIncreases } v := by
    refine Eased.becomes (t := State.settled { w with allot := { w.allot with awaiting := [] } }) ?_ hsettle
    refine ⟨hcalm.congr rfl ⟨rfl, rfl, rfl, rfl⟩, hhost, hrelease, rfl, rfl, rfl, rfl, ?_, ?_⟩
    · show w.allot.demand.coil ≠ 1200
      rw [hcoil]
      decide
    · show ((grantTasks _ _ ++ [Task.coilAnswer]) ++ w.tasks).all Task.eased = true
      rw [List.all_append, List.all_append, grantTasks_eased, htasks, hrest]
      rfl
  obtain ⟨-, hgrant, hincreases, hnothing⟩ := hends.eased heased
  have hkept := hends.keptUnits (calm_of_eased heased.tasks) heased.calm.queue
  refine ⟨t, hnext, hnothing, hgrant, hincreases, (congrArg Prod.fst hkept).trans ?_⟩
  show v.now = w.now
  rw [hsettle.frame]
  rfl

theorem confirmPen_due (s : State) (h : s.pen.confirmDue = true) :
    s.confirmPen = State.confirmDecrease { s with pen := { s.pen with confirmDue := false } } .pen := if_pos h

theorem confirmDecrease_other (s : State) (c : Awaited) (h : ∀ a ∈ s.allot.awaiting, a.claimant ≠ c) : s.confirmDecrease c = s := by
  refine if_neg ?_
  rw [Bool.not_eq_true, List.any_eq_false]
  exact fun a ha => by simpa using h a ha

/-! ## Under-voltage (R171) -/

/-- The state with its base locked out. -/
def State.lockedOut (s : State) : State :=
  { s with
    allot := { s.allot with underVoltage := none, lockout := true }
    settings := s.settings.withFault .baseSupply (FaultEntry.activated · s.now) }

theorem underVoltageExpired_eq (s : State) :
    s.underVoltageExpired = (State.reportActive { s with allot := { s.allot with underVoltage := none, lockout := true } } .baseSupply).reviewBase :=
  rfl

theorem reviewBase_lockedOut (v : State) (hlock : v.allot.lockout = true) :
    v.reviewBase = if v.allot.demand.base = 0 then v else (v.setDemand fun a => { a with base := 0 }).recompute := by
  unfold State.reviewBase
  rw [hlock]
  simp

theorem exec_underVoltage (s : State) (hs : s.betweenEvents) (hq : s.dispatch.queue = []) (e : PartTime)
    (htimer : s.allot.underVoltage = some e) :
    ∃ t, exec .underVoltageTimerExpiry s = .next t ∧ t.now = (s.reach e).now ∧ t.allot.lockout = true ∧
      (t.faultEntry .baseSupply).active = true ∧ t.allot.demand.base = 0 ∧
      (s.allot.demand.base ≠ 0 → t.allot.grant.base = 0) := by
  have hexpiry := takeEvent_expiry (x := fun s => s.allot.underVoltage) (g := State.underVoltageExpired) hs htimer
  obtain ⟨w, hw⟩ : ∃ w, w = s.setNow (s.reach e).now := ⟨_, rfl⟩
  have hreport := Becomes.reportActive { w with allot := { w.allot with underVoltage := none, lockout := true } } .baseSupply
  have hrule := underVoltageExpired_eq w
  have hactive : (w.lockedOut.faultEntry .baseSupply).active = true := by
    have hentry := withFault_entry w.settings .baseSupply (FaultEntry.activated · w.now)
    show ((w.settings.withFault .baseSupply (FaultEntry.activated · w.now)).faults[FaultKind.baseSupply.index]).active = true
    rw [hentry]
    exact activated_active _ _
  generalize State.reportActive _ _ = x at hreport hrule
  have hx : Becomes false 0 x w.lockedOut := hreport
  have hallot : x.allot = w.lockedOut.allot := by rw [hx.frame]; rfl
  rw [reviewBase_lockedOut x (by rw [hallot]; rfl), hallot] at hrule
  by_cases hbase : s.allot.demand.base = 0
  · rw [if_pos (by rw [hw]; exact hbase)] at hrule
    obtain ⟨t, hnext, hframe, -⟩ := takeEvent_becomes (f := fun u => (u.setNow (s.reach e).now).underVoltageExpired) (q := false)
      (L := 0) (u := w.lockedOut) hs (by rw [← hw, hrule]; exact hx) (by rw [hw]; exact ⟨rfl, rfl, rfl⟩) (by rw [hw]; exact hs.1)
    refine ⟨t, hexpiry.trans hnext, ?_, ?_, ?_, ?_, fun h => absurd hbase h⟩
    · rw [hframe, hw]
      rfl
    · rw [hframe]
      rfl
    · rw [hframe]
      exact hactive
    · rw [hframe, hw]
      exact hbase
  · rw [if_neg (by rw [hw]; exact hbase)] at hrule
    have hrecompute := Becomes.recompute (q := false) (x.setDemand fun a => { a with base := 0 })
    rw [← hrule] at hrecompute
    obtain ⟨t, hnext, hends⟩ := takeEvent_ends (f := fun u => (u.setNow (s.reach e).now).underVoltageExpired) hs (.refl _)
    rw [← hw] at hends
    obtain ⟨y, hy⟩ : ∃ y, y = w.underVoltageExpired := ⟨_, rfl⟩
    rw [← hy] at hrecompute hends
    have hyx := hrecompute.frame
    have hgrant : (State.recomputed (x.setDemand fun a => { a with base := 0 })).allot.grant.base = 0 ∧
        (State.recomputed (x.setDemand fun a => { a with base := 0 })).allot.increases.base = none := by
      have htarget : (targets x.allot.budget { x.allot.demand with base := 0 }).base = 0 := by simp [targets, baseTarget]
      constructor
      · show min x.allot.grant.base (targets x.allot.budget { x.allot.demand with base := 0 }).base = 0
        rw [htarget, Nat.min_zero]
      · show increaseOf x.allot.grant.base (targets x.allot.budget { x.allot.demand with base := 0 }).base = none
        rw [htarget]
        rfl
    have hlock : y.allot.lockout = true := by
      rw [hyx]
      show x.allot.lockout = true
      rw [hallot]
      rfl
    have hdemand : y.allot.demand.base = 0 := by rw [hyx]; rfl
    have hidle : y.idles .base := ⟨hlock, hdemand, by rw [hyx]; exact hgrant.1, by rw [hyx]; exact hgrant.2⟩
    have hxtasks : x.tasks = [] := by rw [hx.frame, hw]; exact hs.1
    have hxqueue : x.dispatch.queue = [] := by rw [hx.frame, hw]; exact hq
    have hrestful : y.tasks.all Task.restful = true := by
      rw [hyx]
      show (grantTasks _ _ ++ [Task.settleIncreases, Task.coilAnswer] ++ x.tasks).all Task.restful = true
      rw [hxtasks, List.append_nil, List.all_append, grantTasks_restful]
      rfl
    have hqueue : y.dispatch.queue = [] := by rw [hyx]; exact hxqueue
    obtain ⟨-, hat, hsettings⟩ := hends.rests (ρ := .base) hrestful hqueue hidle
    have hkept := hends.keptUnits (restful_calm hrestful) hqueue
    simp only [Prod.mk.injEq, if_true] at hat
    obtain ⟨-, tlock, tdemand, tgrant, -⟩ := hat
    refine ⟨t, hexpiry.trans hnext, ?_, tlock.trans hlock, ?_, tdemand.trans hdemand, fun _ => tgrant.trans ?_⟩
    · refine (congrArg Prod.fst hkept).trans ?_
      rw [hyx]
      show x.now = _
      rw [hx.frame, hw]
      rfl
    · rw [(faultEntry_atRest (a := t) hsettings).2.2]
      have hentry : y.faultEntry .baseSupply = w.lockedOut.faultEntry .baseSupply := by
        rw [hyx]
        show x.faultEntry .baseSupply = _
        rw [hx.frame]
        rfl
      rw [hentry]
      exact hactive
    · rw [hyx]
      exact hgrant.1

theorem vbaseOn_iff (s : State) : s.vbaseOn = true ↔ 0 < s.allot.grant.base ∧ s.link.holdOff = false := by
  unfold State.vbaseOn
  rw [Bool.and_eq_true, decide_eq_true_iff, Bool.not_eq_true']

theorem voltageChange_eq (s : State) (below : Bool) :
    s.voltageChange below =
      { s with allot :=
        if s.allot.voltageLow = below then s.allot
        else
          { s.allot with
            voltageLow := below
            underVoltage :=
              if 0 < s.allot.grant.base ∧ s.link.holdOff = false then (if below then some (s.after 10) else none)
              else s.allot.underVoltage } } := by
  by_cases hsame : s.allot.voltageLow = below
  · rw [if_pos hsame]
    exact if_pos hsame
  · rw [if_neg hsame]
    refine (if_neg hsame).trans ?_
    unfold State.updAllot
    simp only [vbaseOn_iff]
    rfl

/-- Settles O54: each confirmation by the list of decreases, and the base supply monitor. -/
theorem allotmentEvents : Obligations.AllotmentEvents := by
  unfold Obligations.AllotmentEvents
  intro s hs hq
  refine ⟨fun hdue => takeEvent_self s _ hs (if_neg (by rw [hdue]; decide)), fun hdue hother => ?_,
    fun d hdue hawaiting hcoil hhost hinput hrelease => ?_, fun c d hawaiting hcoil hhost hinput hrelease => ?_, fun below => ?_,
    exec_underVoltage s hs hq⟩
  · exact takeEvent_set hs ((confirmPen_due s hdue).trans (confirmDecrease_other _ .pen hother)) ⟨rfl, rfl⟩ rfl
  · obtain ⟨t, hnext, hsettled⟩ := takeEvent_confirms (f := State.confirmPen) (c := .pen) (d := d) (rest := []) hs (.refl _)
      (confirmPen_due s hdue) hs.1 rfl hawaiting hcoil ((hostOn_iff s).mp hhost)
      ((Calm.of hq hinput).congr rfl ⟨rfl, rfl, rfl, rfl⟩) hrelease
    exact ⟨t, hnext, hsettled.awaiting, hsettled.grant, hsettled.increases⟩
  · have hdeadline : s.awaitingDeadline c = some d := by
      unfold State.awaitingDeadline
      rw [hawaiting]
      simp
    have hexpiry := takeEvent_expiry (x := fun u => u.awaitingDeadline c) (g := fun u => u.confirmDecrease c) hs hdeadline
    obtain ⟨t, hnext, hsettled⟩ := takeEvent_confirms (f := fun u => (u.setNow (s.reach d).now).confirmDecrease c)
      (c := c) (d := d) (rest := []) hs (.refl _) rfl hs.1 rfl hawaiting hcoil ((hostOn_iff s).mp hhost)
      ((Calm.of hq hinput).congr rfl ⟨rfl, rfl, rfl, rfl⟩) hrelease
    exact ⟨t, hexpiry.trans hnext, hsettled.now, hsettled.awaiting, hsettled.grant, hsettled.increases⟩
  · refine takeEvent_set (f := fun u => u.voltageChange below) hs (voltageChange_eq s below) ⟨rfl, rfl⟩ ?_
    split <;> rfl

end Sys2Proof.Machine
end

section
/-! The claim of the coil, granted and withdrawn (R134, R137, R165 to R167), and the end of a release (R138, R143). -/

namespace Sys2Proof.Machine

set_option Elab.async false

variable {q : Bool} {L M : BitVec 10} {s t u v w e : State} {ρ : Aspect}

/-! ## The claim granted -/

/-- Claims of coil and base that the budget holds together are granted whole. -/
theorem targets_fit (budget c b : Nat) (hc : c = 0 ∨ c = 1200) (hb : b = 0 ∨ b = 250) (h : c + b ≤ budget) :
    targets budget ⟨c, b, 0, 0⟩ = ⟨c, b, 0, 0⟩ := by
  have hcoil : coilTarget budget ⟨c, b, 0, 0⟩ = c := by
    rcases hc with rfl | rfl
    · exact if_neg fun hcoil => absurd hcoil.1 (by decide : (0 : Nat) ≠ 1200)
    · exact if_pos ⟨rfl, by omega⟩
  have hbase : baseTarget (budget - c) ⟨c, b, 0, 0⟩ = b := by
    rcases hb with rfl | rfl
    · exact if_neg fun hbase => absurd hbase.1 (by decide : (0 : Nat) ≠ 250)
    · exact if_pos ⟨rfl, by omega⟩
  unfold targets
  dsimp only
  rw [hcoil, hbase]
  simp [penTarget, backlightTarget]

/-- The attachment unit in phase PULSE, as it begins (R135). -/
def State.pulsing (s : State) : AttachUnit :=
  { s.attach with phase := some .pulse, coil := true, currentSeen := false, coilSince := s.now
                  pulses := s.attach.pulses ++ [s.now]
                  pulseTimer := some (s.now + BitVec.ofNat 32 s.settings.active.pulseTime), senseTimer := some (s.now + 20) }

theorem enterPulse_cool (s : State) (h : s.attach.pulses.length < s.settings.active.pulseLimit) :
    s.enterPulse = { s with attach := s.pulsing } := if_pos h

theorem coilAnswer_claiming (s : State) (hdemand : s.allot.demand.coil = 1200) (hgrant : s.allot.grant.coil = 1200)
    (hphase : s.attach.phase = some .claiming) : s.coilAnswer = s.enterPulse := by
  unfold State.coilAnswer
  rw [if_pos hdemand, hphase]
  exact if_pos hgrant

theorem coilAnswer_pulsing (s : State) (hgrant : s.allot.grant.coil = 1200) (hphase : s.attach.phase = some .pulse) :
    s.coilAnswer = s := by
  unfold State.coilAnswer
  split
  · rw [hphase]
    exact if_neg (by rw [hgrant]; decide)
  · rfl

theorem coilDemand_up (s : State) (h : s.allot.demand.coil ≠ 1200) :
    s.coilDemand true = (s.setDemand fun a => { a with coil := 1200 }).recompute := if_neg h

theorem coilDemand_down (s : State) (h : s.allot.demand.coil ≠ 0) :
    s.coilDemand false = (s.setDemand fun a => { a with coil := 0 }).recompute := if_neg h

theorem coilDemand_none (s : State) (h : s.allot.demand.coil = 0) : s.coilDemand false = s := if_pos h

theorem lowered_of_le (g t : Allotments) (h : g.le t) : lowered g t = g := by
  obtain ⟨hcoil, hbase, hpen, hbacklight⟩ := h
  simp only [lowered, allotments_eq_iff]
  exact ⟨Nat.min_eq_left hcoil, Nat.min_eq_left hbase, Nat.min_eq_left hpen, Nat.min_eq_left hbacklight⟩

/-- A recomputation by one hand-on. -/
theorem Leads.recompute {x : Task} {rest : List Task} (h : s.tasks = x :: rest) {f : Allotments → Allotments}
    (hx : ∀ a, doTask x ((s.setTasks rest).withNoise a) = ((((s.setTasks rest).withNoise a).setDemand f)).recompute) :
    Leads q 0 1 s (State.recomputed ((s.setTasks rest).setDemand f)) :=
  .front h fun a => by
    rw [hx a]
    exact Becomes.recompute (((s.setTasks rest).setDemand f).withNoise a)

section
variable {b : Nat} {rest : List Task} (hb : b = 0 ∨ b = 250)
include hb

/-- The coil claimed beside the base, with power for both: phase PULSE begins. -/
theorem Leads.claim (h : s.tasks = .coilDemand true :: rest) (hphase : s.attach.phase = some .claiming)
    (hdemand : s.allot.demand = ⟨0, b, 0, 0⟩) (hgrant : s.allot.grant = ⟨0, b, 0, 0⟩) (hawaiting : s.allot.awaiting = [])
    (hbudget : 1200 + b ≤ s.allot.budget) (hcool : s.attach.pulses.length < s.settings.active.pulseLimit) :
    Leads q 0 4 s
      { s with
        allot := { s.allot with demand := ⟨1200, b, 0, 0⟩, grant := ⟨1200, b, 0, 0⟩, increases := noIncreases }
        attach := s.pulsing, tasks := rest } := by
  obtain ⟨x, hx⟩ : ∃ x, x = (s.setTasks rest).setDemand fun a => { a with coil := 1200 } := ⟨_, rfl⟩
  have hxdemand : x.allot.demand = ⟨1200, b, 0, 0⟩ := by
    rw [hx]
    show ({ s.allot.demand with coil := 1200 } : Allotments) = _
    rw [hdemand]
  have hxgrant : x.allot.grant = ⟨0, b, 0, 0⟩ := by rw [hx]; exact hgrant
  have htarget : x.target = ⟨1200, b, 0, 0⟩ := by
    unfold State.target
    rw [hxdemand, show x.allot.budget = s.allot.budget by rw [hx]; rfl, targets_fit _ _ _ (.inr rfl) hb hbudget]
  have hdemanded : Leads q 0 1 s x.recomputed := by
    rw [hx]
    exact .recompute h fun a => coilDemand_up _ (by
      show s.allot.demand.coil ≠ 1200
      rw [hdemand]
      exact (by decide : (0 : Nat) ≠ 1200))
  have hraised : Leads q 0 1 x.recomputed (State.hand { x with allot := x.granted ⟨1200, b, 0, 0⟩ noIncreases } [.coilAnswer, .coilAnswer]) := by
    have hrising := Leads.recomputeRising (q := q) x (lowered_of_le _ _ (by rw [htarget, hxgrant]; exact ⟨Nat.zero_le _, le_rfl, le_rfl, le_rfl⟩))
      (by rw [hx]; exact hawaiting)
    have hnone : grantTasks x.allot.grant x.target = [] := by
      rw [htarget, hxgrant]
      simp [grantTasks]
    rwa [hnone, htarget] at hrising
  have hallot : x.granted ⟨1200, b, 0, 0⟩ noIncreases =
      { s.allot with demand := ⟨1200, b, 0, 0⟩, grant := ⟨1200, b, 0, 0⟩, increases := noIncreases } := by
    have hvbase : x.vbaseWith ⟨1200, b, 0, 0⟩ = x.vbaseOn := by
      unfold State.vbaseOn
      rw [hxgrant]
      rfl
    unfold State.granted
    rw [hvbase, underVoltageAfter_same, ← hxdemand, hx]
    rfl
  rw [hallot, hx] at hraised
  have hpulse : Leads q 0 1
      (State.hand
        { (s.setTasks rest).setDemand fun a => { a with coil := 1200 } with
          allot := { s.allot with demand := ⟨1200, b, 0, 0⟩, grant := ⟨1200, b, 0, 0⟩, increases := noIncreases } }
        [.coilAnswer, .coilAnswer])
      { s with
        allot := { s.allot with demand := ⟨1200, b, 0, 0⟩, grant := ⟨1200, b, 0, 0⟩, increases := noIncreases }
        attach := s.pulsing, tasks := .coilAnswer :: rest } :=
    .exact (x := .coilAnswer) (rest := .coilAnswer :: rest) rfl fun a => by
      obtain ⟨y, hy⟩ : ∃ y, y = State.withNoise
        { (s.setTasks (.coilAnswer :: rest)) with
          allot := { s.allot with demand := ⟨1200, b, 0, 0⟩, grant := ⟨1200, b, 0, 0⟩, increases := noIncreases } } a := ⟨_, rfl⟩
      have hone : y.coilAnswer = y.enterPulse := coilAnswer_claiming y (by rw [hy]; rfl) (by rw [hy]; rfl) (by rw [hy]; exact hphase)
      have htwo : y.enterPulse = _ := enterPulse_cool y (by rw [hy]; exact hcool)
      rw [hy] at hone htwo
      exact hone.trans htwo
  have hstill : Leads q 0 1
      { s with
        allot := { s.allot with demand := ⟨1200, b, 0, 0⟩, grant := ⟨1200, b, 0, 0⟩, increases := noIncreases }
        attach := s.pulsing, tasks := .coilAnswer :: rest }
      { s with
        allot := { s.allot with demand := ⟨1200, b, 0, 0⟩, grant := ⟨1200, b, 0, 0⟩, increases := noIncreases }
        attach := s.pulsing, tasks := rest } :=
    .exact (x := .coilAnswer) (rest := rest) rfl fun a => coilAnswer_pulsing _ rfl rfl
  rw [hx] at hdemanded
  exact ((hdemanded.next hraised).next hpulse).next hstill

/-- The coil's claim withdrawn beside the base's: the base keeps its power. -/
theorem Leads.unclaim (h : s.tasks = .coilDemand false :: rest) (hdemand : s.allot.demand = ⟨1200, b, 0, 0⟩)
    (hgrant : s.allot.grant = ⟨1200, b, 0, 0⟩) (hawaiting : s.allot.awaiting = []) (hbudget : b ≤ s.allot.budget) :
    ∃ k ≤ 4, Leads q 0 k s
      { s with
        allot := { s.allot with demand := ⟨0, b, 0, 0⟩, grant := ⟨0, b, 0, 0⟩, increases := noIncreases }, tasks := rest } := by
  obtain ⟨x, hx⟩ : ∃ x, x = (s.setTasks rest).setDemand fun a => { a with coil := 0 } := ⟨_, rfl⟩
  have hxdemand : x.allot.demand = ⟨0, b, 0, 0⟩ := by
    rw [hx]
    show ({ s.allot.demand with coil := 0 } : Allotments) = _
    rw [hdemand]
  have hxgrant : x.allot.grant = ⟨1200, b, 0, 0⟩ := by rw [hx]; exact hgrant
  have htarget : x.target = ⟨0, b, 0, 0⟩ := by
    unfold State.target
    rw [hxdemand, show x.allot.budget = s.allot.budget by rw [hx]; rfl, targets_fit _ _ _ (.inl rfl) hb (by omega)]
  have hdemanded : Leads q 0 1 s x.recomputed := by
    rw [hx]
    exact .recompute h fun a => coilDemand_down _ (by
      show s.allot.demand.coil ≠ 0
      rw [hdemand]
      exact (by decide : (1200 : Nat) ≠ 0))
  have hxawaiting : x.allot.awaiting = [] := by rw [hx]; exact hawaiting
  have hvbase : x.vbaseWith ⟨0, b, 0, 0⟩ = x.vbaseOn := by
    unfold State.vbaseOn
    rw [hxgrant]
    rfl
  have hallot : ({ x.granted ⟨0, b, 0, 0⟩ noIncreases with
      awaiting := awaitingAfter x.allot.awaiting x.allot.grant ⟨0, b, 0, 0⟩ (x.vbaseOn && !x.vbaseWith ⟨0, b, 0, 0⟩) (x.after 100) } :
        AllotUnit) = { s.allot with demand := ⟨0, b, 0, 0⟩, grant := ⟨0, b, 0, 0⟩, increases := noIncreases } := by
    have hlist (off : Bool) (d : PartTime) : awaitingAfter x.allot.awaiting x.allot.grant ⟨0, b, 0, 0⟩ off d = x.allot.awaiting := by
      rw [hxgrant]
      simp [awaitingAfter]
    unfold State.granted
    rw [hlist, hvbase, underVoltageAfter_same, ← hxdemand, hx]
    rfl
  have hfallen : x.recomputed =
      State.hand { x with allot := { s.allot with demand := ⟨0, b, 0, 0⟩, grant := ⟨0, b, 0, 0⟩, increases := noIncreases } }
        [.settleIncreases, .coilAnswer] := by
    have hfalling := recomputed_falling x (by
      rw [htarget, hxgrant]
      simp [lowered])
    have hnone : grantTasks x.allot.grant x.target = [] := by
      rw [htarget, hxgrant]
      simp [grantTasks]
    rw [hnone, htarget, hallot] at hfalling
    exact hfalling
  rw [hfallen, hx] at hdemanded
  obtain ⟨k, hk, hsettle⟩ := Leads.settleUndemanded (q := q) (rest := rest)
    (s := { s with
            allot := { s.allot with demand := ⟨0, b, 0, 0⟩, grant := ⟨0, b, 0, 0⟩, increases := noIncreases }
            tasks := .settleIncreases :: .coilAnswer :: rest }) rfl rfl (by decide : (0 : Nat) ≠ 1200)
  exact ⟨1 + k, by omega, hdemanded.next hsettle⟩

end

end Sys2Proof.Machine
end

section
/-! The end of a release (R138, R140), with the request that it finishes, and the release's timers (R133 to R140). -/

namespace Sys2Proof.Machine

set_option Elab.async false

variable {q : Bool} {L M : BitVec 10} {s t u v w e : State}

theorem Goes.of_leads_le {k : Nat} (h : ∀ τ, SleepUnit.alike τ s.sleep → ∃ j ≤ k, Leads false L j { s with sleep := τ } { t with sleep := τ })
    (hsleep : t.sleep = s.sleep := by rfl) : Goes L k s t := by
  intro v hv
  obtain ⟨τ, a, hτ, rfl⟩ := hv
  obtain ⟨j, hj, hlead⟩ := h τ hτ
  obtain ⟨b, hb, hbecomes⟩ := hlead a
  exact ⟨j, hj, b, hb, ⟨τ, b, by rwa [hsleep], hbecomes.renoised⟩, hbecomes.drift.congr ⟨rfl, rfl, rfl⟩ ⟨rfl, rfl, rfl⟩⟩

/-! ## A request finished last -/

/-- An event whose last hand-on finishes a unit's request: what stands before that, and what the finish makes of it. -/
theorem takeEvent_goesFinish {k : Nat} {f : State → State} {unit : ServingUnit} {code : ResultCode} {detail : Nat} {words : List Word}
    (hs : s.betweenEvents) (hf : Like u (f s)) (h : Goes M k u t) (ht : t.tasks = [.finish unit code detail words])
    (hq : t.dispatch.queue = []) (hk : k ≤ 98 := by decide) :
    ∃ v e, takeEvent s f = .next e ∧ Like (t.setTasks []) v ∧ Drift false M (f s) v ∧
      e = State.closeBoard ((v.finishUnit unit code detail words).setTasks []) s := by
  obtain ⟨j, hj, w, hc, hw, hdrift⟩ := h (f s) hf
  have htasks : w.tasks = [.finish unit code detail words] := by
    rw [hw.frame]
    exact ht
  have hlike : Like (t.setTasks []) (w.setTasks []) := by
    obtain ⟨τ, a, hτ, rfl⟩ := hw
    exact ⟨τ, a, hτ, rfl⟩
  obtain ⟨v, hv⟩ : ∃ v, v = w.setTasks [] := ⟨_, rfl⟩
  have hfinish : Carried 1 w (v.finishUnit unit code detail words) := .front_eq htasks (by rw [hv]; rfl)
  have hqueue : v.dispatch.queue = [] := by
    rw [hv, hw.frame]
    exact hq
  have hempty : v.tasks = [] := by rw [hv]; rfl
  obtain ⟨hstill, hends, -⟩ := finishUnit_frame v unit code detail words
  rw [hempty] at hends
  have hlast : ∃ i ≤ 1, Carried i (v.finishUnit unit code detail words) ((v.finishUnit unit code detail words).setTasks []) := by
    rcases hends with hends | hends
    · refine ⟨0, Nat.zero_le 1, ?_⟩
      rw [← hends]
      exact .refl _
    · exact ⟨1, Nat.le_refl 1, .idle hends (considerQueue_idle _ (hstill.trans hqueue))⟩
  obtain ⟨i, hi, hlast⟩ := hlast
  exact ⟨v, _, takeEvent_carried hs ((hc.trans hfinish).trans hlast) rfl (by omega), hv ▸ hlike,
    hdrift.congr ⟨rfl, rfl, rfl⟩ (by rw [hv]; exact ⟨rfl, rfl, rfl⟩), rfl⟩

/-- An event that may finish a unit's request last. -/
theorem takeEvent_goesEnd {k : Nat} {f : State → State} {request : Option (Fin 32)} {code : ResultCode} {detail : Nat}
    {words : List Word} (hs : s.betweenEvents) (hf : Like u (f s)) (h : Goes M k u t)
    (ht : t.tasks = finishTasks request code detail words) (hq : t.dispatch.queue = []) (hk : k ≤ 98 := by decide) :
    ∃ v e, takeEvent s f = .next e ∧ Like (t.setTasks []) v ∧ Drift false M (f s) v ∧
      e = { v with dispatch := e.dispatch, mem := e.mem, port := e.port } ∧
      ∀ n, request = some n → e = State.closeBoard ((v.finishUnit .base code detail words).setTasks []) s := by
  cases request with
  | none =>
    obtain ⟨e, hnext, hlike, hdrift⟩ := takeEvent_goesFrom hs hf h ht (hk.trans (by decide))
    have hsame : t.setTasks [] = t := by
      rw [← show t.tasks = [] from ht]
      rfl
    exact ⟨e, e, hnext, hsame ▸ hlike, hdrift, rfl, fun n hn => by cases hn⟩
  | some n =>
    obtain ⟨v, e, hnext, hlike, hdrift, he⟩ := takeEvent_goesFinish hs hf h ht hq hk
    refine ⟨v, e, hnext, hlike, hdrift, ?_, fun _ _ => he⟩
    obtain ⟨-, -, hframe⟩ := finishUnit_frame v .base code detail words
    have htasks : v.tasks = [] := by
      rw [hlike.frame]
      rfl
    generalize v.finishUnit .base code detail words = x at hframe he
    rw [he, closeBoard_frame, hframe]
    unfold State.setTasks
    rw [← htasks]

/-- What an event's last finish shows of the request. -/
theorem finished_shows {unit : ServingUnit} {n : Fin 32} {code : ResultCode} {detail : Nat} {words : List Word}
    (he : e = State.closeBoard ((v.finishUnit unit code detail words).setTasks []) s)
    (hserving : v.servingSlot unit = some n) (hm : MemoryCanonical v) (hd : detail < 65536) :
    (v.slotState n = .taken false →
      e.answered n code detail ∧ ∀ i : Fin 4, ∀ h : i.val < words.length, e.resultWord n i = (words[i.val]'h).toNat) ∧
      (v.slotState n = .taken true → e.slotState n = .free) ∧ e.servingSlot unit = none := by
  have hframe := closeBoard_frame ((v.finishUnit unit code detail words).setTasks []) s
  rw [← he] at hframe
  have hmem := congrArg State.mem hframe
  have hdispatch := congrArg State.dispatch hframe
  change e.mem = (v.finishUnit unit code detail words).mem at hmem
  change e.dispatch = (v.finishUnit unit code detail words).dispatch at hdispatch
  refine ⟨fun htaken => ?_, fun htaken => ?_, ?_⟩
  · obtain ⟨hanswered, hshown, -, -⟩ := finishUnit_shows v unit n code detail words hserving htaken hm hd
    simp only [State.answered, State.slotState, State.resultCode, State.resultDetail, State.resultWord] at hanswered hshown ⊢
    rw [hmem, hdispatch]
    exact ⟨hanswered, hshown⟩
  · unfold State.slotState
    rw [hdispatch]
    unfold State.finishUnit State.finishSlot
    rw [hserving]
    dsimp only
    rw [if_pos htaken]
    exact Vector.getElem_set_self _
  · unfold State.servingSlot
    rw [hdispatch]
    unfold State.finishUnit
    rw [hserving]
    exact Vector.getElem_set_self _

/-! ## The link resumed, and the base at rest again (R138) -/

/-- The link unit as it is resumed. -/
def State.resumedLink (s : State) : LinkUnit :=
  State.enteredLink { s with link := s.link.offered s.sensor.period .resume } .ready

theorem Becomes.resume (s : State) (h : s.link.state = .quiesced) :
    Becomes false 0 s.askResume (State.hand { s with link := s.resumedLink } [.attachLink, .serveReceiveQueue]) := by
  have hoffer := offerPacket_other s .resume fun _ => PartPacket.noConfusion
  have hentered := Becomes.enterLink { s with link := s.link.offered s.sensor.period .resume } .ready 9
  rw [← hoffer, enterActs_up _ _ rfl] at hentered
  have hask : s.askResume = (s.offerPacket .resume).enterLink .ready 9 := if_pos h
  rw [hask]
  rw [hoffer] at hentered ⊢
  exact hentered

theorem askResume_other (s : State) (h : s.link.state ≠ .quiesced) : s.askResume = s := if_neg h

theorem offered_frame (u : LinkUnit) (period : Nat) (p : PartPacket) :
    (u.offered period p).state = u.state ∧ (u.offered period p).receiveQueue = u.receiveQueue ∧
      (u.offered period p).owed = u.owed ∧ (u.offered period p).pressed = u.pressed ∧ (u.offered period p).buttons = u.buttons := by
  unfold LinkUnit.offered
  split
  · rw [send_frame]
    exact ⟨rfl, rfl, rfl, rfl, rfl⟩
  · exact ⟨rfl, rfl, rfl, rfl, rfl⟩

theorem attachLink_releasing (s : State) (hrelease : s.attach.state.inRelease = true) (hphase : s.attach.phase ≠ some .quiescing) :
    s.attachLink = s := by
  unfold State.attachLink
  cases hstate : s.attach.state with
  | releasing => exact if_neg fun h => hphase h.1
  | awaitingRemoval => rfl
  | detached => rw [hstate] at hrelease; cases hrelease
  | seating => rw [hstate] at hrelease; cases hrelease
  | attached => rw [hstate] at hrelease; cases hrelease
  | degraded => rw [hstate] at hrelease; cases hrelease

theorem inRelease_seated (h : s.attach.state.inRelease = true) : s.attach.state ≠ .detached := by
  intro hstate
  rw [hstate] at h
  cases h

/-- The resting state entered at the end of a release. -/
theorem Goes.returnToRest {cause : Nat} {rest : List Task} (h : s.tasks = .returnToRest cause :: rest) (hc : Calm s)
    (hrelease : s.attach.state.inRelease = true) (hdetect : s.attach.detect.level = true) :
    Goes Cause.attach.mask 6 s { s with attach := s.seated, tasks := rest } := by
  have hne : s.resting ≠ s.attach.state := by
    intro hsame
    have hrests := restingState_rests s.attach.detect.level s.link.state
    rw [show restingState s.attach.detect.level s.link.state = s.attach.state from hsame, hrelease] at hrests
    cases hrests
  refine .setAttach (cause := cause) h (fun v hv => ?_) hne (resting_present s hdetect) (.inr (inRelease_seated hrelease)) hc
  have hresting : v.resting = s.resting := by
    rw [hv.frame]
    rfl
  have hstate : v.attach.state.inRelease = true := by
    rw [hv.frame]
    exact hrelease
  show v.returnToRest cause = _
  unfold State.returnToRest
  rw [if_pos hstate, hresting]

/-- A quiesced link resumed, and the base ATTACHED. -/
theorem Goes.resumed {cause : Nat} {rest : List Task} (h : s.tasks = .askResume :: .returnToRest cause :: rest) (hc : Calm s)
    (hrelease : s.attach.state.inRelease = true) (hphase : s.attach.phase = none) (hdetect : s.attach.detect.level = true)
    (hlink : s.link.state = .quiesced) :
    Goes Cause.attach.mask 9 s
      { s with link := s.resumedLink, attach := { s.attach with state := .attached }, tasks := rest } := by
  obtain ⟨x, hx⟩ : ∃ x, x = s.resumedLink := ⟨_, rfl⟩
  have hstate : x.state = .ready := by
    rw [hx]
    exact enteredLink_state _ _
  have hcalm (ts : List Task) : Calm { s with link := x, tasks := ts } := by
    obtain ⟨-, hreceive, howed, hpressed, hbuttons⟩ := offered_frame s.link s.sensor.period .resume
    rw [hx]
    exact (enteredLink_inputs _ .ready (hc.congr (t := { s with link := s.link.offered s.sensor.period .resume }) rfl
      ⟨hreceive, howed, hpressed, hbuttons⟩)).congr rfl ⟨rfl, rfl, rfl, rfl⟩
  have hresume : Goes 0 1 s { s with link := x, tasks := .attachLink :: .serveReceiveQueue :: .returnToRest cause :: rest } :=
    .front h fun v hv => by
      have hbecomes := Becomes.resume v (by rw [hv.frame]; exact hlink)
      have hsame : v.resumedLink = x := by
        rw [hx, hv.frame]
        rfl
      rw [hsame] at hbecomes
      obtain ⟨τ, a, hτ, rfl⟩ := hv
      exact ⟨τ, hτ, hbecomes⟩
  have hattach : Goes 0 1 { s with link := x, tasks := .attachLink :: .serveReceiveQueue :: .returnToRest cause :: rest }
      { s with link := x, tasks := .serveReceiveQueue :: .returnToRest cause :: rest } :=
    .still rfl fun v hv => attachLink_releasing v (by rw [hv.frame]; exact hrelease) (by
      rw [hv.frame]
      show s.attach.phase ≠ _
      rw [hphase]
      exact nofun)
  have hserve : Goes 0 1 { s with link := x, tasks := .serveReceiveQueue :: .returnToRest cause :: rest }
      { s with link := x, tasks := .returnToRest cause :: rest } :=
    .still rfl fun v hv => serveReceiveQueue_quiet v ((hcalm _).like hv)
  have hreturn := Goes.returnToRest (s := { s with link := x, tasks := .returnToRest cause :: rest }) (rest := rest) rfl (hcalm _)
    hrelease hdetect
  have hseated : State.seated { s with link := x, tasks := .returnToRest cause :: rest } = { s.attach with state := .attached } := by
    have hstate' := seated_state { s with link := x, tasks := .returnToRest cause :: rest } hdetect .ready hstate
    show ({ s.attach with state := (State.seated { s with link := x, tasks := .returnToRest cause :: rest }).state } : AttachUnit) = _
    rw [hstate']
    rfl
  rw [hseated] at hreturn
  rw [← hx]
  exact (((hresume.next hattach).next hserve).late hreturn)

end Sys2Proof.Machine
end

section
/-! The timers of a release (R133 to R140) and the sense of the coil (R136, R138, R139). -/

namespace Sys2Proof.Machine

set_option Elab.async false

variable {q : Bool} {L M : BitVec 10} {s t u v w e : State}

/-! ## The coil driver off, and the release cleared -/

/-- The attachment unit with the coil driver off (R138). -/
def State.offCoil (s : State) : AttachUnit :=
  if s.attach.coil then
    { s.attach with coil := false, coilTime := s.attach.coilTime + elapsed s.now s.attach.coilSince }
  else s.attach

theorem coilOff_eq (s : State) : s.coilOff = { s with attach := s.offCoil } := by
  unfold State.coilOff State.offCoil
  split <;> rfl

theorem offCoil_driven (s : State) (h : s.attach.coil = true) :
    s.offCoil = { s.attach with coil := false, coilTime := s.attach.coilTime + elapsed s.now s.attach.coilSince } := if_pos h

theorem offCoil_idle (s : State) (h : s.attach.coil = false) : s.offCoil = s.attach := if_neg (by rw [h]; decide)

/-- The attachment unit with no phase, no timer of a release and no request. -/
def AttachUnit.cleared (u : AttachUnit) : AttachUnit :=
  { u with phase := none, request := none, quiesceTimer := none, senseTimer := none, pulseTimer := none, windowTimer := none }

/-- What the end of a release without removal hands on. -/
def releaseEnd (request : Option (Fin 32)) (detail time : Nat) : List Task :=
  .coilDemand false :: .askResume :: .returnToRest 6 :: finishTasks request .failed detail [word time, 0]

theorem endRelease_eq (s : State) (detail : Nat) (shown : Option Nat) :
    s.endRelease detail shown =
      State.hand { s with attach := s.offCoil.cleared } (releaseEnd s.offCoil.request detail (shown.getD s.offCoil.coilTime)) := by
  unfold State.endRelease
  rw [coilOff_eq]
  rfl

theorem blind_endRelease (detail : Nat) (shown : Option Nat) : Blind fun s => s.endRelease detail shown := by
  refine ⟨fun v a => ?_, fun v => ?_⟩
  · rw [endRelease_eq, endRelease_eq]
    rfl
  · rw [endRelease_eq]
    exact ⟨rfl, rfl, rfl⟩

/-! ## The claim withdrawn, the link resumed and the base at rest -/

/-- A state whose release has ended with the coil's claim withdrawn, the link resumed and the base ATTACHED. -/
def State.restored (u : State) (A : AllotUnit) : State :=
  { u with allot := A, link := u.resumedLink, attach := { u.attach with state := .attached }, tasks := [] }

/-- An event that ends a release with a quiesced link. -/
theorem takeEvent_restores {A : AllotUnit} {request : Option (Fin 32)} {f : State → State} {detail time : Nat} (hs : s.betweenEvents)
    (hf : Like u (f s)) (htasks : u.tasks = releaseEnd request detail time)
    (hdemand : ∀ rest, u.tasks = .coilDemand false :: rest → Goes 0 4 u { u with allot := A, tasks := rest })
    (hc : Calm u) (hrelease : u.attach.state.inRelease = true) (hphase : u.attach.phase = none)
    (hdetect : u.attach.detect.level = true) (hlink : u.link.state = .quiesced) :
    ∃ v e, takeEvent s f = .next e ∧ Like (u.restored A) v ∧ Drift false Cause.attach.mask (f s) v ∧
      e = { v with dispatch := e.dispatch, mem := e.mem, port := e.port } ∧
      ∀ n, request = some n → e = State.closeBoard ((v.finishUnit .base .failed detail [word time, 0]).setTasks []) s := by
  have hresumed := Goes.resumed
    (s := { u with allot := A
                   tasks := .askResume :: .returnToRest 6 :: finishTasks request .failed detail [word time, 0] })
    rfl (hc.congr rfl ⟨rfl, rfl, rfl, rfl⟩) hrelease hphase hdetect hlink
  exact takeEvent_goesEnd hs hf ((hdemand _ htasks).late hresumed) rfl hc.queue

/-- The request's slot after an event that finishes it. -/
theorem finished_failed {n : Fin 32} {detail time : Nat} {request : Option (Fin 32)} (hm : MemoryCanonical v) (hd : detail < 65536)
    (he : ∀ n, request = some n → e = State.closeBoard ((v.finishUnit .base .failed detail [word time, 0]).setTasks []) s)
    (hrequest : request = some n) (hdispatch : v.dispatch = w.dispatch) (hserving : w.servingSlot .base = some n) :
    (w.slotState n = .taken false →
      e.answered n .failed detail ∧ e.resultWord n 0 = (word time).toNat ∧ e.resultWord n 1 = 0) ∧
      (w.slotState n = .taken true → e.slotState n = .free) ∧ e.servingSlot .base = none := by
  have hslot (k : Fin 32) : v.slotState k = w.slotState k := by
    unfold State.slotState
    rw [hdispatch]
  obtain ⟨hfinished, hfree, hidle⟩ := finished_shows (he n hrequest)
    (by unfold State.servingSlot; rw [hdispatch]; exact hserving) hm hd
  rw [hslot] at hfinished hfree
  refine ⟨fun htaken => ?_, hfree, hidle⟩
  obtain ⟨hanswered, hshown⟩ := hfinished htaken
  exact ⟨hanswered, hshown 0 (by simp), hshown 1 (by simp)⟩

/-! ## The quiesce timer (R133 to R135) -/

theorem exec_quiesceTimer (s : State) (e : PartTime) (hs : s.betweenEvents) (htimer : s.attach.quiesceTimer = some e)
    (hphase : s.attach.phase = some .quiescing) (hdemand : s.allot.demand = ⟨0, 250, 0, 0⟩)
    (hgrant : s.allot.grant = ⟨0, 250, 0, 0⟩) (hawaiting : s.allot.awaiting = []) (hbudget : 1450 ≤ s.allot.budget)
    (hcool : s.attach.pulses.length < s.settings.active.pulseLimit) :
    ∃ t, exec .quiesceTimerExpiry s = .next t ∧ t.now = (s.reach e).now ∧
      t.attach = { s.attach with
                   phase := some .pulse, quiesceTimer := none, coil := true, currentSeen := false, coilSince := t.now
                   pulses := s.attach.pulses ++ [t.now], senseTimer := some (t.now + 20)
                   pulseTimer := some (t.now + BitVec.ofNat 32 s.settings.active.pulseTime) } ∧
      t.allot = { s.allot with demand := ⟨1200, 250, 0, 0⟩, grant := ⟨1200, 250, 0, 0⟩, increases := noIncreases } ∧
      t = { s with now := t.now, port := t.port, attach := t.attach, allot := t.allot } := by
  have hexpiry := takeEvent_expiry (x := fun s => s.attach.quiesceTimer) (g := State.quiesceExpired) hs htimer
  obtain ⟨now, hnow⟩ : ∃ now, (s.reach e).now = now := ⟨_, rfl⟩
  rw [hnow] at hexpiry ⊢
  have hexpired : (s.setNow now).quiesceExpired =
      State.hand { s with now := now, attach := { s.attach with phase := some .claiming, quiesceTimer := none } } [.coilDemand true] :=
    if_pos hphase
  have hclaim := Leads.claim (q := true) (b := 250) (rest := s.tasks) (.inr rfl)
    (s := State.hand { s with now := now, attach := { s.attach with phase := some .claiming, quiesceTimer := none } }
      [.coilDemand true]) rfl rfl hdemand hgrant hawaiting hbudget hcool
  obtain ⟨t, hnext, hframe, hdrift⟩ := takeEvent_leads (f := fun u => (u.setNow now).quiesceExpired) hs (.of_eq hexpired) (h := hclaim)
    (ht := hs.1)
  obtain ⟨hmem, hjournal⟩ := hdrift.still rfl
  have ht : t.now = now := by rw [hframe]; rfl
  refine ⟨t, hexpiry.trans hnext, ht, ?_, ?_, ?_⟩
  · rw [ht, hframe]
    rfl
  · rw [hframe]
    rfl
  · rw [hframe]
    show State.withNoise _ _ = { s with now := now, port := t.port, attach := _, allot := _ }
    unfold State.withNoise
    rw [hmem, hjournal]
    rfl

/-! ## The pulse timer (R137, R140) -/

theorem Goes.unclaim {b : Nat} (hb : b = 0 ∨ b = 250) (hdemand : s.allot.demand = ⟨1200, b, 0, 0⟩)
    (hgrant : s.allot.grant = ⟨1200, b, 0, 0⟩) (hawaiting : s.allot.awaiting = []) (hbudget : b ≤ s.allot.budget)
    {rest : List Task} (h : s.tasks = .coilDemand false :: rest) :
    Goes 0 4 s
      { s with
        allot := { s.allot with demand := ⟨0, b, 0, 0⟩, grant := ⟨0, b, 0, 0⟩, increases := noIncreases }, tasks := rest } :=
  .of_leads_le fun τ _ => Leads.unclaim (s := { s with sleep := τ }) hb h hdemand hgrant hawaiting hbudget

theorem Goes.awaitRemoval {rest : List Task} (h : s.tasks = .awaitRemoval :: rest) (hc : Calm s) (hstate : s.attach.state = .releasing) :
    Goes Cause.attach.mask 6 s { s with attach := { s.attach with state := .awaitingRemoval }, tasks := rest } := by
  have hne : AttachState.awaitingRemoval ≠ s.attach.state := by
    rw [hstate]
    decide
  refine Goes.setAttach (cause := 7) h (fun v hv => ?_) hne (by decide) (.inr (by rw [hstate]; decide)) hc
  refine if_pos ?_
  rw [hv.frame]
  show s.attach.state.inRelease = true
  rw [hstate]
  rfl

theorem exec_pulseTimer (s : State) (e : PartTime) (hs : s.betweenEvents) (htimer : s.attach.pulseTimer = some e)
    (hphase : s.attach.phase = some .pulse) (hstate : s.attach.state = .releasing) (hcoil : s.attach.coil = true)
    (hinput : s.noInputWaits) (hq : s.dispatch.queue = []) (hdemand : s.allot.demand = ⟨1200, 250, 0, 0⟩)
    (hgrant : s.allot.grant = ⟨1200, 250, 0, 0⟩) (hawaiting : s.allot.awaiting = []) (hbudget : 1450 ≤ s.allot.budget) :
    ∃ t, exec .pulseTimerExpiry s = .next t ∧ t.now = (s.reach e).now ∧
      t.attach = { s.attach with
                   state := .awaitingRemoval, phase := some .window, coil := false, pulseTimer := none
                   senseTimer := none
                   coilTime := s.attach.coilTime + (t.now - s.attach.coilSince).toNat
                   windowTimer := some (t.now + BitVec.ofNat 32 s.settings.active.removalWindow) } ∧
      t.allot = { s.allot with demand := ⟨0, 250, 0, 0⟩, grant := ⟨0, 250, 0, 0⟩, increases := noIncreases } ∧
      t.port.attnLatch.getLsbD Cause.attach.bit = true := by
  have hexpiry := takeEvent_expiry (x := fun s => s.attach.pulseTimer) (g := State.pulseExpired) hs htimer
  obtain ⟨now, hnow⟩ : ∃ now, (s.reach e).now = now := ⟨_, rfl⟩
  rw [hnow] at hexpiry ⊢
  obtain ⟨u, hu⟩ : ∃ u, u = State.hand
      { s with now := now
               attach := { s.attach with
                           coil := false, coilTime := s.attach.coilTime + elapsed now s.attach.coilSince
                           phase := some .window, pulseTimer := none, senseTimer := none
                           windowTimer := some (now + BitVec.ofNat 32 s.settings.active.removalWindow) } }
      [.coilDemand false, .awaitRemoval] := ⟨_, rfl⟩
  have hexpired : (s.setNow now).pulseExpired = u := by
    have hend : (s.setNow now).pulseExpired = (s.setNow now).endPulse := if_pos hphase
    rw [hend, State.endPulse, State.enterWindow, coilOff_eq, offCoil_driven (s.setNow now) hcoil, hu]
    rfl
  have hcalm : Calm u := by
    rw [hu]
    exact (Calm.of hq hinput).congr rfl ⟨rfl, rfl, rfl, rfl⟩
  have hunclaim := Goes.unclaim (s := u) (b := 250) (rest := .awaitRemoval :: s.tasks) (.inr rfl) (by rw [hu]; exact hdemand)
    (by rw [hu]; exact hgrant) (by rw [hu]; exact hawaiting) (by rw [hu]; exact Nat.le_trans (by decide) hbudget) (by rw [hu]; rfl)
  have hremoval := Goes.awaitRemoval
    (s := { u with allot := { u.allot with demand := ⟨0, 250, 0, 0⟩, grant := ⟨0, 250, 0, 0⟩, increases := noIncreases }
                   tasks := .awaitRemoval :: s.tasks }) rfl (hcalm.congr rfl ⟨rfl, rfl, rfl, rfl⟩) (by rw [hu]; exact hstate)
  obtain ⟨t, hnext, hlike, hdrift⟩ := takeEvent_goes (f := fun u => (u.setNow now).pulseExpired) hs (.of_eq hexpired)
    (by rw [hu]; exact ⟨rfl, rfl, rfl⟩) (hunclaim.late hremoval) hs.1
  have hframe := hlike.frame
  have ht := congrArg State.now hframe
  have hattach := congrArg State.attach hframe
  have hallot := congrArg State.allot hframe
  rw [hu] at ht hattach hallot
  change t.now = now at ht
  refine ⟨t, hexpiry.trans hnext, ht, ?_, hallot, hdrift.latched Cause.attach.bit (by decide)⟩
  rw [hattach, ht]
  rfl

/-! ## The removal window (R138, R140) -/

theorem exec_windowTimer (s : State) (e : PartTime) (n : Fin 32) (hs : s.sound) (htimer : s.attach.windowTimer = some e)
    (hphase : s.attach.phase = some .window) (hstate : s.attach.state = .awaitingRemoval) (hcoil : s.attach.coil = false)
    (hrequest : s.attach.request = some n) (hserving : s.servingSlot .base = some n) (htaken : s.slotState n = .taken false)
    (hinput : s.noInputWaits) (hq : s.dispatch.queue = []) (hdemand : s.allot.demand.coil = 0)
    (hdetect : s.attach.detect.level = true) (hlink : s.link.state = .quiesced) :
    ∃ t, exec .windowTimerExpiry s = .next t ∧ t.now = (s.reach e).now ∧
      t.attach = { s.attach with
                   state := .attached, phase := none, request := none, quiesceTimer := none, senseTimer := none
                   pulseTimer := none, windowTimer := none } ∧
      t.link.state = .ready ∧ t.answered n .failed 2 ∧ t.resultWord n 0 = (word s.attach.coilTime).toNat ∧
      t.resultWord n 1 = 0 ∧ t.servingSlot .base = none ∧ t.allot = s.allot := by
  obtain ⟨hbetween, hcanonical⟩ := hs
  have hexpiry := takeEvent_expiry (x := fun s => s.attach.windowTimer) (g := State.windowExpired) hbetween htimer
  obtain ⟨now, hnow⟩ : ∃ now, (s.reach e).now = now := ⟨_, rfl⟩
  rw [hnow] at hexpiry ⊢
  obtain ⟨u, hu⟩ : ∃ u, u = State.hand { s with now := now, attach := s.attach.cleared } (releaseEnd (some n) 2 s.attach.coilTime) :=
    ⟨_, rfl⟩
  have hexpired : (s.setNow now).windowExpired = u := by
    have hend : (s.setNow now).windowExpired = (s.setNow now).endRelease 2 none := if_pos hphase
    rw [hend, endRelease_eq, offCoil_idle (s.setNow now) hcoil, hu, ← hrequest]
    rfl
  have htasks : u.tasks = releaseEnd (some n) 2 s.attach.coilTime := by
    rw [hu]
    show releaseEnd _ _ _ ++ s.tasks = _
    rw [hbetween.1, List.append_nil]
  have hlike : Like u ((s.setNow now).windowExpired) := hexpired ▸ .refl u
  have hidle (rest : List Task) (h : u.tasks = .coilDemand false :: rest) : Goes 0 4 u { u with allot := u.allot, tasks := rest } :=
    (Goes.still h fun v hv => coilDemand_none v (by rw [hv.frame, hu]; exact hdemand)).mono (by decide)
  obtain ⟨v, t, hnext, hv, hdrift, hframe, hfinish⟩ := takeEvent_restores (A := u.allot) (f := fun u => (u.setNow now).windowExpired)
    hbetween hlike htasks hidle (by rw [hu]; exact (Calm.of hq hinput).congr rfl ⟨rfl, rfl, rfl, rfl⟩)
    (by rw [hu]; show s.attach.state.inRelease = true; rw [hstate]; rfl) (by rw [hu]; rfl) (by rw [hu]; exact hdetect)
    (by rw [hu]; exact hlink)
  have hm : MemoryCanonical v := hdrift.canonical (by
    show MemoryCanonical ((s.setNow now).windowExpired)
    rw [hexpired, hu]
    exact hcanonical)
  have hvframe := hv.frame
  have hdispatch : v.dispatch = s.dispatch := by
    rw [hvframe, hu]
    rfl
  obtain ⟨hfailed, -, hidle⟩ := finished_failed hm (by decide) hfinish rfl hdispatch hserving
  obtain ⟨hanswered, hzero, hone⟩ := hfailed htaken
  have hnow' := congrArg State.now hframe
  have hattach := congrArg State.attach hframe
  have hallot := congrArg State.allot hframe
  have hlinked := congrArg State.link hframe
  rw [hvframe, hu] at hnow' hattach hallot hlinked
  refine ⟨t, hexpiry.trans hnext, hnow', hattach, ?_, hanswered, hzero, hone, hidle, hallot⟩
  rw [hlinked]
  exact enteredLink_state _ _

/-- Settles O51: the claim granted, the claim withdrawn, and the release ended with its request failed. -/
theorem releaseTimers : Obligations.ReleaseTimers := by
  unfold Obligations.ReleaseTimers
  exact ⟨fun s e hs htimer hphase _ => exec_quiesceTimer s e hs htimer hphase, exec_pulseTimer, exec_windowTimer⟩

/-! ## The sense of the coil (R136, R138, R139) -/

section
variable (s : State)

theorem coilCurrent_off (h : s.attach.coil = false ∨ s.attach.currentSeen = true) : s.coilCurrent = s := by
  unfold State.coilCurrent
  rcases h with h | h <;> simp [h]

theorem coilCurrent_rise (hcoil : s.attach.coil = true) (hseen : s.attach.currentSeen = false) :
    s.coilCurrent =
      State.reportInactive { s with attach := { s.attach with currentSeen := true, senseTimer := none } } .latchCoil :=
  if_pos (by rw [hcoil, hseen]; rfl)

theorem reportInactive_idle (k : FaultKind) (h : (s.faultEntry k).active = false) : s.reportInactive k = s := by
  unfold State.reportInactive
  dsimp only
  rw [h]
  rfl

theorem coilCurrent_exact (hs : s.betweenEvents) (hcoil : s.attach.coil = true) (hseen : s.attach.currentSeen = false)
    (hfault : (s.faultEntry .latchCoil).active = false) :
    exec .coilCurrentSeen s = .next { s with attach := { s.attach with currentSeen := true, senseTimer := none } } :=
  takeEvent_set hs ((coilCurrent_rise s hcoil hseen).trans (reportInactive_idle _ _ hfault)) ⟨rfl, rfl⟩ rfl

theorem coilCurrent_clears (hs : s.betweenEvents) (hcoil : s.attach.coil = true) (hseen : s.attach.currentSeen = false) :
    ∃ t, exec .coilCurrentSeen s = .next t ∧ (t.faultEntry .latchCoil).active = false := by
  have hbecomes := Becomes.reportInactive { s with attach := { s.attach with currentSeen := true, senseTimer := none } } .latchCoil
  rw [← coilCurrent_rise s hcoil hseen] at hbecomes
  obtain ⟨t, hnext, hframe, -⟩ := takeEvent_becomes hs hbecomes (ht := hs.1)
  refine ⟨t, hnext, ?_⟩
  have hsettings := congrArg State.settings hframe
  change t.settings = s.settings.withFault .latchCoil FaultEntry.deactivated at hsettings
  unfold State.faultEntry
  rw [hsettings, withFault_entry]
  exact deactivated_inactive _

/-- The sense timer of a pulse whose current was seen. -/
theorem senseExpired_seen (hs : s.betweenEvents) {e : PartTime} (htimer : s.attach.senseTimer = some e)
    (hseen : s.attach.currentSeen = true) :
    exec .senseTimerExpiry s = .next { s with now := (s.reach e).now, attach := { s.attach with senseTimer := none } } := by
  refine (takeEvent_expiry (x := fun s => s.attach.senseTimer) (g := State.senseExpired) hs htimer).trans ?_
  obtain ⟨now, hnow⟩ : ∃ now, (s.reach e).now = now := ⟨_, rfl⟩
  rw [hnow]
  refine takeEvent_set hs ?_ ⟨rfl, rfl⟩ rfl
  refine if_neg fun hpulse => ?_
  rw [show s.attach.currentSeen = false from hpulse.2] at hseen
  cases hseen

theorem agePulse_exact (hs : s.betweenEvents) {oldest : PartTime} {rest : List PartTime} (h : s.attach.pulses = oldest :: rest) :
    exec .pulseAgeOut s = .next
      { s with now := (s.reach (oldest + 60000)).now, attach := { s.attach with pulses := rest } } := by
  refine (takeEvent_expiry (x := fun s => s.attach.pulses.head?.map fun start => start + 60000) (g := State.agePulse)
    (e := oldest + 60000) hs (by rw [h]; rfl)).trans ?_
  obtain ⟨now, hnow⟩ : ∃ now, (s.reach (oldest + 60000)).now = now := ⟨_, rfl⟩
  rw [hnow]
  refine takeEvent_set hs ?_ ⟨rfl, rfl⟩ rfl
  unfold State.agePulse State.updAttach State.setNow
  dsimp only
  rw [h]
  rfl

/-- The attachment unit after a pulse without current: the driver off and the release cleared. -/
def State.unsensed (now : PartTime) : AttachUnit :=
  AttachUnit.cleared { s.attach with coil := false, coilTime := s.attach.coilTime + elapsed now s.attach.coilSince }

/-- A pulse without current up to the end of its release. -/
theorem Becomes.senseExpired (now : PartTime) (hseen : s.attach.currentSeen = false) (hphase : s.attach.phase = some .pulse)
    (hcoil : s.attach.coil = true) :
    Becomes false 0 (s.setNow now).senseExpired
      (State.hand
        { s with now := now, attach := s.unsensed now
                 settings := s.settings.withFault .latchCoil (FaultEntry.activated · now) }
        (releaseEnd s.attach.request 1 (s.unsensed now).coilTime)) := by
  obtain ⟨x, hx⟩ : ∃ x, x = { s with
      now := now
      attach := { s.attach with
                  senseTimer := none, coil := false, coilTime := s.attach.coilTime + elapsed now s.attach.coilSince
                  pulseTimer := none } } := ⟨_, rfl⟩
  have hoff : State.coilOff { s with now := now, attach := { s.attach with senseTimer := none } } =
      { s with
        now := now
        attach := { s.attach with
                    senseTimer := none, coil := false, coilTime := s.attach.coilTime + elapsed now s.attach.coilSince } } := if_pos hcoil
  have hexpired : (s.setNow now).senseExpired = (x.reportActive .latchCoil).endRelease 1 none := by
    have hpulse : (s.setNow now).senseExpired =
        (((State.coilOff { s with now := now, attach := { s.attach with senseTimer := none } }).updAttach
          fun u => { u with pulseTimer := none }).reportActive .latchCoil).endRelease 1 none := if_pos ⟨hphase, hseen⟩
    rw [hpulse, hoff, hx]
    rfl
  have hreport := (Becomes.reportActive x .latchCoil).blind (blind_endRelease 1 none)
  have hidle := offCoil_idle { x with settings := x.settings.withFault .latchCoil (FaultEntry.activated · x.now) } (by rw [hx])
  rw [← hexpired, endRelease_eq, hidle, hx] at hreport
  exact hreport

end

/-- A pulse without current: LATCH_COIL, the release ended and its request failed (R136). -/
theorem exec_senseTimer (s : State) (hs : s.betweenEvents) (e : PartTime) (htimer : s.attach.senseTimer = some e)
    (hseen : s.attach.currentSeen = false) (hphase : s.attach.phase = some .pulse) (hstate : s.attach.state = .releasing)
    (hcoil : s.attach.coil = true) (hinput : s.noInputWaits) (hq : s.dispatch.queue = [])
    (hdemand : s.allot.demand = ⟨1200, 250, 0, 0⟩) (hgrant : s.allot.grant = ⟨1200, 250, 0, 0⟩) (hawaiting : s.allot.awaiting = [])
    (hbudget : 1450 ≤ s.allot.budget) (hdetect : s.attach.detect.level = true) (hlink : s.link.state = .quiesced) :
    ∃ t, exec .senseTimerExpiry s = .next t ∧ t.now = (s.reach e).now ∧
      t.attach = { s.attach with
                   state := .attached, phase := none, request := none, coil := false, quiesceTimer := none
                   senseTimer := none, pulseTimer := none, windowTimer := none
                   coilTime := s.attach.coilTime + (t.now - s.attach.coilSince).toNat } ∧
      (t.faultEntry .latchCoil).active = true ∧ t.link.state = .ready ∧
      t.allot = { s.allot with demand := ⟨0, 250, 0, 0⟩, grant := ⟨0, 250, 0, 0⟩, increases := noIncreases } ∧
      ∀ n, MemoryCanonical s → s.attach.request = some n → s.servingSlot .base = some n →
        (s.slotState n = .taken false →
          t.answered n .failed 1 ∧ t.resultWord n 0 = (word t.attach.coilTime).toNat ∧ t.resultWord n 1 = 0) ∧
        (s.slotState n = .taken true → t.slotState n = .free) ∧ t.servingSlot .base = none := by
  have hexpiry := takeEvent_expiry (x := fun s => s.attach.senseTimer) (g := State.senseExpired) hs htimer
  obtain ⟨now, hnow⟩ : ∃ now, (s.reach e).now = now := ⟨_, rfl⟩
  rw [hnow] at hexpiry ⊢
  have hexpired := Becomes.senseExpired s now hseen hphase hcoil
  obtain ⟨u, hu⟩ : ∃ u, u = State.hand
        { s with now := now, attach := s.unsensed now
                 settings := s.settings.withFault .latchCoil (FaultEntry.activated · now) }
        (releaseEnd s.attach.request 1 (s.unsensed now).coilTime) := ⟨_, rfl⟩
  rw [← hu] at hexpired
  have htasks : u.tasks = releaseEnd s.attach.request 1 (s.unsensed now).coilTime := by
    rw [hu]
    show releaseEnd _ _ _ ++ s.tasks = _
    rw [hs.1, List.append_nil]
  obtain ⟨v, t, hnext, hv, hdrift, hframe, hfinish⟩ := takeEvent_restores (f := fun u => (u.setNow now).senseExpired) hs
    ⟨u.sleep, _, .refl _, hexpired.frame⟩ htasks
    (fun rest => Goes.unclaim (s := u) (b := 250) (.inr rfl) (by rw [hu]; exact hdemand) (by rw [hu]; exact hgrant)
      (by rw [hu]; exact hawaiting) (by rw [hu]; exact Nat.le_trans (by decide) hbudget))
    (by rw [hu]; exact (Calm.of hq hinput).congr rfl ⟨rfl, rfl, rfl, rfl⟩)
    (by rw [hu]; show s.attach.state.inRelease = true; rw [hstate]; rfl) (by rw [hu]; rfl) (by rw [hu]; exact hdetect)
    (by rw [hu]; exact hlink)
  have hvframe := hv.frame
  have hnow' := congrArg State.now hframe
  have hattach := congrArg State.attach hframe
  have hallot := congrArg State.allot hframe
  have hlinked := congrArg State.link hframe
  have hsettings := congrArg State.settings hframe
  rw [hvframe, hu] at hnow' hattach hallot hlinked hsettings
  change t.now = now at hnow'
  have htime : t.attach.coilTime = (s.unsensed now).coilTime := by
    rw [hattach]
    rfl
  refine ⟨t, hexpiry.trans hnext, hnow', ?_, ?_, ?_, hallot, fun n hm hrequest hserving => ?_⟩
  · rw [hattach, hnow']
    rfl
  · unfold State.faultEntry
    rw [hsettings]
    show ((s.settings.withFault .latchCoil (FaultEntry.activated · now)).faults[FaultKind.latchCoil.index]).active = true
    rw [withFault_entry]
    exact activated_active _ _
  · rw [hlinked]
    exact enteredLink_state _ _
  · have hcanonical : MemoryCanonical u := by
      rw [hu]
      exact hm
    have hdispatch : v.dispatch = s.dispatch := by
      rw [hvframe, hu]
      rfl
    rw [htime]
    exact finished_failed (hdrift.canonical (hexpired.drift.canonical hcanonical)) (by decide) hfinish hrequest hdispatch hserving

/-- Settles O52: each event of the coil, by its case. -/
theorem coilSense : Obligations.CoilSense := by
  unfold Obligations.CoilSense
  exact fun s hs => ⟨coilCurrent_exact s hs, coilCurrent_clears s hs,
    fun h => takeEvent_self s _ hs (coilCurrent_off s h), fun e => senseExpired_seen s hs, exec_senseTimer s hs,
    fun oldest rest => agePulse_exact s hs⟩

end Sys2Proof.Machine
end

section
/-! DETACH accepted (R132 to R135), and joined to a release in progress (R132). -/

namespace Sys2Proof.Machine

set_option Elab.async false

variable {q : Bool} {L M : BitVec 10} {s t u v w e : State}

/-! ## A request taken and not answered in its event -/

/-- A request whose hand-ons lead, up to drift, to a state with nothing left to hand on. -/
theorem exec_takenLeads {n : Fin 32} {r : Request} {tag : Half} {ps : List Word} {k : Nat} {f : State → State} (hs : s.sound)
    (h : s.takesAtOnce n r.servedBy) (hserve : (s.taken n r tag ps).serve n r = f (s.taken n r tag ps))
    (hf : ∀ a, Becomes q L (f ((s.claimed n r).withNoise a)) (u.withNoise a)) (hl : Leads q M k u v) (hv : v.tasks = [])
    (hp : ps.length ≤ 8 := by simp) (hk : k ≤ 100 := by decide) :
    ∃ e, takeEvent s (fun u => u.makeRequest n r tag ps) = .next e ∧ e = v.withNoise e ∧
      Drift q (L ||| M) (s.taken n r tag ps) e := by
  have hserved := hf (s.taken n r tag ps)
  rw [← taken_claimed, ← hserve] at hserved
  obtain ⟨b, hb, hbecomes⟩ := hl ((s.taken n r tag ps).serve n r)
  rw [← hserved.renoised] at hb
  have htasks : b.tasks = [] := by
    rw [hbecomes.renoised]
    exact hv
  have hclose := Becomes.closeBoard (q := q) b s
  refine ⟨b.closeBoard s, exec_request hs h hb htasks hp hk, ?_, ?_⟩
  · rw [hclose.frame, hbecomes.renoised]
    rfl
  · have := (hserved.drift.unnoised.trans hbecomes.drift.unnoised).trans hclose.drift
    rwa [show L ||| M ||| (0 : BitVec 10) = L ||| M by simp] at this

theorem claimed_shows (s : State) (n : Fin 32) (r : Request) (hv : v.dispatch = (s.claimed n r).dispatch) :
    v.slotState n = .taken false ∧ v.servingSlot r.servedBy = some n := by
  unfold State.slotState State.servingSlot
  rw [hv]
  unfold State.claimed
  simp

/-! ## The readers of a change of attachment state with the sleep unit's activity -/

theorem Leads.readersActive {before after : AttachState} {rest : List Task} (h : s.tasks = .linkAttach :: .sleepAttach before after :: rest)
    (hc : s.noInputWaits) (hseated : before ≠ .detached ∧ after ≠ .detached) :
    Leads false 0 4 s { s with sleep := s.activeSleep, tasks := rest } := by
  have hgate : Leads false 0 1 s (s.setTasks (.serveReceiveQueue :: .sleepAttach before after :: rest)) := .exact h fun a =>
    followGate_still _ hc
  have hserve : Leads false 0 1 (s.setTasks (.serveReceiveQueue :: .sleepAttach before after :: rest))
      (s.setTasks (.sleepAttach before after :: rest)) := .exact rfl fun a =>
    serveReceiveQueue_still _ hc
  have hsleep : Leads false 0 1 (s.setTasks (.sleepAttach before after :: rest)) (s.setTasks (.activity :: rest)) :=
    .exact (x := .sleepAttach before after) (rest := rest) rfl fun a => by
      show State.hand _ (.activity :: if before = .detached ∨ after = .detached then _ else _) = _
      rw [if_neg (not_or.mpr hseated)]
      rfl
  exact ((hgate.next hserve).next hsleep).next (.activity (s := s.setTasks (.activity :: rest)) rfl)

/-! ## The claim accepted (R131 to R133) -/

/-- The attachment unit after an accepted claim. -/
def State.acceptedAttach (s : State) (c : Claim) : AttachUnit :=
  { s.attach with state := .releasing, phase := none, coilTime := 0
                  origin := match c with
                    | .host _ => .request
                    | .button => .button
                  request := match c with
                    | .host n => some n
                    | .button => none }

theorem judgeClaim_accepted (s : State) (hseated : s.attach.state = .attached ∨ s.attach.state = .degraded)
    (hallowed : s.detachAllowed = true) (hactive : s.sleep.power = .active)
    (hcool : s.attach.pulses.length < s.settings.active.pulseLimit) (hbudget : 1200 ≤ s.allot.budget) : s.judgeClaim = none := by
  unfold State.judgeClaim
  rw [if_neg (by rintro ⟨hattached, hdegraded⟩; exact hseated.elim hattached hdegraded), if_neg (by rw [hallowed]; decide),
    if_neg (fun h => h hactive), if_neg (Nat.not_le.mpr hcool), if_neg (Nat.not_lt.mpr hbudget)]

theorem seated_claimable (hseated : s.attach.state = .attached ∨ s.attach.state = .degraded) :
    s.attach.state.inRelease = false ∧ s.attach.state ≠ .detached ∧ AttachState.releasing ≠ s.attach.state := by
  rcases hseated with h | h <;> rw [h] <;> decide

theorem Becomes.acceptClaim (s : State) (c : Claim) (hseated : s.attach.state = .attached ∨ s.attach.state = .degraded)
    (hjudged : s.judgeClaim = none) :
    Becomes false Cause.attach.mask (s.detachClaim c)
      (State.hand { s with attach := s.acceptedAttach c }
        [.linkAttach, .sleepAttach s.attach.state .releasing, .askQuiesce]) := by
  obtain ⟨hrelease, -, hne⟩ := seated_claimable hseated
  have hclaim : s.detachClaim c = s.acceptClaim c := by
    unfold State.detachClaim
    rw [if_neg (by rw [hrelease]; decide), hjudged]
  rw [hclaim]
  cases c with
  | host n =>
    exact Becomes.setAttach
      (State.hand { s with attach := { s.attach with phase := none, origin := .request, request := some n, coilTime := 0 } }
        [.askQuiesce]) .releasing 2 hne
  | button =>
    exact Becomes.setAttach
      (State.hand { s with attach := { s.attach with phase := none, origin := .button, request := none, coilTime := 0 } }
        [.askQuiesce]) .releasing 3 hne

/-- The state in which an accepted claim asks the link to quiesce, among the hand-ons of its event. -/
def State.asking (s : State) (c : Claim) (rest : List Task) : State :=
  { s with attach := s.acceptedAttach c, sleep := s.activeSleep, tasks := rest }

theorem Leads.asking {c : Claim} {rest : List Task} (h : s.tasks = rest) (hc : s.noInputWaits)
    (hseated : s.attach.state = .attached ∨ s.attach.state = .degraded) :
    Leads false 0 4
      (State.hand { s with attach := s.acceptedAttach c } [.linkAttach, .sleepAttach s.attach.state .releasing, .askQuiesce])
      (s.asking c (.askQuiesce :: rest)) :=
  .readersActive (s := State.hand { s with attach := s.acceptedAttach c }
      [.linkAttach, .sleepAttach s.attach.state .releasing, .askQuiesce])
    (rest := .askQuiesce :: rest) (by rw [← h]; rfl) hc
    ⟨(seated_claimable hseated).2.1, by decide⟩

/-! ## A READY link quiesced (R112, R133) -/

/-- The link unit as it is quiesced. -/
def State.quiescedLink (s : State) : LinkUnit :=
  State.enteredLink { s with link := s.link.offered s.sensor.period .quiesce } .quiesced

theorem offered_still (h : s.noInputWaits) (p : PartPacket) :
    State.noInputWaits { s with link := s.link.offered s.sensor.period p } := by
  obtain ⟨-, hreceive, howed, hpressed, hbuttons⟩ := offered_frame s.link s.sensor.period p
  exact ⟨hreceive.trans h.1, howed.trans h.2.1, hpressed.trans h.2.2.1, hbuttons.trans h.2.2.2⟩

theorem Becomes.quiesceLink (s : State) (hc : s.noInputWaits) :
    Becomes false 0 s.quiesceLink (State.hand { s with link := s.quiescedLink } [.attachLink, .serveReceiveQueue]) := by
  have hoffer := offerPacket_other s .quiesce fun _ => PartPacket.noConfusion
  have hquiesce : s.quiesceLink = (s.offerPacket .quiesce).enterLink .quiesced 9 := by
    unfold State.quiesceLink
    rw [hoffer, closeGate_still _ (offered_still hc .quiesce)]
  have hentered := Becomes.enterLink { s with link := s.link.offered s.sensor.period .quiesce } .quiesced 9
  rw [enterActs_up _ _ rfl, ← hoffer, ← hquiesce] at hentered
  rw [hoffer] at hentered
  exact hentered

theorem askQuiesce_ready (s : State) (hstate : s.attach.state = .releasing) (hphase : s.attach.phase = none)
    (hlink : s.link.state = .ready) :
    s.askQuiesce =
      State.quiesceLink
        { s with attach := { s.attach with phase := some .quiescing, quiesceTimer := some (s.now + 100) } } := by
  unfold State.askQuiesce
  rw [if_pos ⟨hstate, hphase⟩, if_pos hlink]
  rfl

theorem askQuiesce_other (s : State) (hstate : s.attach.state = .releasing) (hphase : s.attach.phase = none)
    (hlink : s.link.state ≠ .ready) : s.askQuiesce = s.enterClaiming := by
  unfold State.askQuiesce
  rw [if_pos ⟨hstate, hphase⟩, if_neg hlink]

/-- The link asked to quiesce: a READY one is quiesced. -/
theorem Leads.quiesced {rest : List Task} (h : s.tasks = .askQuiesce :: rest) (hc : s.noInputWaits) (hstate : s.attach.state = .releasing)
    (hphase : s.attach.phase = none) (hlink : s.link.state = .ready) :
    Leads false 0 3 s
      { s with attach := { s.attach with phase := some .quiescing, quiesceTimer := some (s.now + 100) }, link := s.quiescedLink
               tasks := rest } := by
  obtain ⟨x, hx⟩ : ∃ x, x = s.quiescedLink := ⟨_, rfl⟩
  obtain ⟨y, hy⟩ : ∃ y, y = { s.attach with phase := some .quiescing, quiesceTimer := some (s.now + 100) } := ⟨_, rfl⟩
  rw [← hx, ← hy]
  have hask : Leads false 0 1 s { s with attach := y, link := x, tasks := .attachLink :: .serveReceiveQueue :: rest } :=
    .front h fun a => by
      have hquiesce := Becomes.quiesceLink ({ (s.setTasks rest).withNoise a with attach := y }) hc
      have htimed : doTask .askQuiesce ((s.setTasks rest).withNoise a) =
          State.quiesceLink { (s.setTasks rest).withNoise a with attach := y } := by
        rw [hy]
        exact askQuiesce_ready ((s.setTasks rest).withNoise a) hstate hphase hlink
      rw [htimed, hx]
      exact hquiesce
  have hattach : Leads false 0 1 { s with attach := y, link := x, tasks := .attachLink :: .serveReceiveQueue :: rest }
      { s with attach := y, link := x, tasks := .serveReceiveQueue :: rest } := .exact rfl fun a => by
    show State.attachLink _ = _
    unfold State.attachLink
    have hreleasing : y.state = .releasing := by
      rw [hy]
      exact hstate
    have hquiesced : x.state = .quiesced := by
      rw [hx]
      exact enteredLink_state _ _
    simp only [State.withNoise, State.setTasks, hreleasing, hquiesced]
    exact if_neg fun h => h.2 rfl
  have hserve : Leads false 0 1 { s with attach := y, link := x, tasks := .serveReceiveQueue :: rest }
      { s with attach := y, link := x, tasks := rest } := .exact rfl fun a => by
    have hstill : State.noInputWaits { s with link := x } := by
      rw [hx]
      exact enteredLink_still { s with link := s.link.offered s.sensor.period .quiesce } .quiesced (offered_still hc .quiesce)
    exact serveReceiveQueue_still _ hstill
  exact (hask.next hattach).next hserve

/-! ## The claim of the coil with a link that is not READY (R134) -/

theorem Leads.claiming {rest : List Task} (h : s.tasks = .askQuiesce :: rest) (hstate : s.attach.state = .releasing)
    (hphase : s.attach.phase = none) (hlink : s.link.state ≠ .ready) :
    Leads q 0 1 s
      { s with attach := { s.attach with phase := some .claiming, quiesceTimer := none }, tasks := .coilDemand true :: rest } :=
  .exact h fun a => (askQuiesce_other ((s.setTasks rest).withNoise a) hstate hphase hlink).trans rfl

/-- The claim of the coil beside a pen that must yield first: the coil waits for the pen's confirmation (R167, R168). -/
theorem Leads.claimBesidePen {p : Nat} {rest : List Task} (h : s.tasks = .coilDemand true :: rest)
    (hphase : s.attach.phase = some .claiming) (hdemand : s.allot.demand = ⟨0, 0, p, 0⟩) (hgrant : s.allot.grant = ⟨0, 0, p, 0⟩)
    (hawaiting : s.allot.awaiting = []) (hpen : 150 ≤ p) (hbudget : 1200 ≤ s.allot.budget) (hshort : s.allot.budget < 1200 + p) :
    ∃ A P, Leads false 0 4 s { s with allot := A, pen := P, tasks := rest } ∧ A.demand = ⟨1200, 0, p, 0⟩ ∧
      A.grant = ⟨0, 0, (targets s.allot.budget ⟨1200, 0, p, 0⟩).pen, 0⟩ ∧ A.increases = { noIncreases with coil := some 1200 } ∧
      A.awaiting = [⟨.pen, s.now + 100⟩] := by
  obtain ⟨x, hx⟩ : ∃ x, x = (s.setTasks rest).setDemand fun a => { a with coil := 1200 } := ⟨_, rfl⟩
  obtain ⟨y, hy⟩ : ∃ y, y = penTarget (s.allot.budget - 1200) ⟨1200, 0, p, 0⟩ := ⟨_, rfl⟩
  have hxdemand : x.allot.demand = ⟨1200, 0, p, 0⟩ := by
    rw [hx]
    show ({ s.allot.demand with coil := 1200 } : Allotments) = _
    rw [hdemand]
  have hxgrant : x.allot.grant = ⟨0, 0, p, 0⟩ := by rw [hx]; exact hgrant
  have hless : y < p := by
    rw [hy]
    unfold penTarget
    dsimp only
    split <;> omega
  have htargets : targets s.allot.budget ⟨1200, 0, p, 0⟩ = ⟨1200, 0, y, 0⟩ := by
    unfold targets coilTarget baseTarget backlightTarget
    simp [hbudget, hy]
  have hdemanded : Leads false 0 1 s x.recomputed := by
    rw [hx]
    exact .recompute h fun a => coilDemand_up _ (by
      show s.allot.demand.coil ≠ 1200
      rw [hdemand]
      exact (by decide : (0 : Nat) ≠ 1200))
  have hlowered : lowered x.allot.grant ⟨1200, 0, y, 0⟩ = ⟨0, 0, y, 0⟩ := by
    rw [hxgrant]
    simp [lowered, Nat.le_of_lt hless]
  have hincreases : increasesOf x.allot.grant ⟨1200, 0, y, 0⟩ = { noIncreases with coil := some 1200 } := by
    rw [hxgrant]
    simp [increasesOf, increaseOf, noIncreases, Nat.le_of_lt hless]
  have htasks : grantTasks x.allot.grant ⟨0, 0, y, 0⟩ = [.penGrant] := by
    rw [hxgrant]
    simp [grantTasks, Nat.ne_of_gt hless]
  have hawaits (off : Bool) (d : PartTime) : awaitingAfter x.allot.awaiting x.allot.grant ⟨1200, 0, y, 0⟩ off d = [⟨.pen, d⟩] := by
    rw [hxgrant, show x.allot.awaiting = [] by rw [hx]; exact hawaiting]
    simp [awaitingAfter, await, hless]
  obtain ⟨A, hA⟩ : ∃ A, A = x.recomputedAllot := ⟨_, rfl⟩
  have hrecomputed : x.recomputed = State.hand { x with allot := A } [.penGrant, .settleIncreases, .coilAnswer] := by
    unfold State.recomputed
    rw [hxdemand, show x.allot.budget = s.allot.budget by rw [hx]; rfl, htargets, hlowered, htasks, hA]
    rfl
  have hallot : A.demand = ⟨1200, 0, p, 0⟩ ∧ A.grant = ⟨0, 0, y, 0⟩ ∧ A.increases = { noIncreases with coil := some 1200 } ∧
      A.awaiting = [⟨.pen, s.now + 100⟩] := by
    rw [hA]
    unfold State.recomputedAllot
    rw [hxdemand, show x.allot.budget = s.allot.budget by rw [hx]; rfl, htargets, hlowered, hincreases, hawaits]
    refine ⟨hxdemand, rfl, rfl, ?_⟩
    rw [hx]
    rfl
  obtain ⟨hAdemand, hAgrant, hAincreases, hAawaiting⟩ := hallot
  rw [hrecomputed, hx] at hdemanded
  obtain ⟨P, hP⟩ : ∃ P, Leads false 0 1 (State.hand { (s.setTasks rest).setDemand fun a => { a with coil := 1200 } with allot := A }
      [.penGrant, .settleIncreases, .coilAnswer])
      { s with allot := A, pen := P, tasks := .settleIncreases :: .coilAnswer :: rest } := ⟨_, .penGrant rfl⟩
  have hsettle : Leads false 0 1 { s with allot := A, pen := P, tasks := .settleIncreases :: .coilAnswer :: rest }
      { s with allot := A, pen := P, tasks := .coilAnswer :: rest } := .exact rfl fun a => settleIncreases_awaiting _ (by
    show A.awaiting ≠ []
    rw [hAawaiting]
    exact List.cons_ne_nil _ _)
  have hanswer : Leads false 0 1 { s with allot := A, pen := P, tasks := .coilAnswer :: rest }
      { s with allot := A, pen := P, tasks := rest } := .exact rfl fun a => by
    show State.coilAnswer _ = _
    unfold State.coilAnswer
    simp only [State.withNoise, State.setTasks, hphase, hAdemand, hAgrant, hAincreases]
    rfl
  refine ⟨A, P, ((hdemanded.next hP).next hsettle).next hanswer, hAdemand, ?_, hAincreases, hAawaiting⟩
  rw [hAgrant, htargets]

end Sys2Proof.Machine
end

section
/-! DETACH requests (R131 to R135), and their cancelling (R143). -/

namespace Sys2Proof.Machine

set_option Elab.async false

variable {q : Bool} {L M : BitVec 10} {s t u v w e : State}

/-! ## DETACH accepted -/

/-- The sleep unit after the activity of an accepted claim. -/
def State.awakened (s : State) (u : SleepUnit) : Prop :=
  u = if s.hostOn then
        { s.sleep with idle := s.idleRestarted.1, idleShown := s.idleRestarted.2
                       advice := if s.sleep.advice = .idle then .none else s.sleep.advice }
      else s.sleep

/-- What an accepted claim leaves of the units that it does not concern. -/
def State.acceptedElsewhere (s : State) (n : Fin 32) (t : State) : Prop :=
  t.slotState n = .taken false ∧ t.servingSlot .base = some n ∧ s.awakened t.sleep ∧ t.posture = s.posture ∧
    t.angle = s.angle ∧ t.sensor = s.sensor ∧ t.settings = s.settings ∧ t.now = s.now

/-- A state after an accepted claim, with what the claim moves on. -/
def State.acceptedWith (s : State) (n : Fin 32) (a : AttachUnit) (l : LinkUnit) (p : PenUnit) (A : AllotUnit) : State :=
  { s.claimed n .detach with attach := a, link := l, pen := p, allot := A, sleep := (s.claimed n .detach).activeSleep }

theorem acceptedWith_elsewhere {n : Fin 32} {a : AttachUnit} {l : LinkUnit} {p : PenUnit} {A : AllotUnit}
    (ht : t = State.withNoise ((s.acceptedWith n a l p A).setTasks []) t) :
    t.attach = a ∧ t.link = l ∧ t.pen = p ∧ t.allot = A ∧ s.acceptedElsewhere n t := by
  obtain ⟨htaken, hserving⟩ := claimed_shows (v := t) s n .detach (by rw [ht]; rfl)
  rw [ht] at htaken hserving ⊢
  exact ⟨rfl, rfl, rfl, rfl, htaken, hserving, rfl, rfl, rfl, rfl, rfl, rfl⟩

section
variable (s) (n : Fin 32) (tag : Half) (hs : s.sound) (h : s.takesAtOnce n .base) (hinput : s.noInputWaits)
  (hseated : s.attach.state = .attached ∨ s.attach.state = .degraded) (hallowed : s.detachAllowed = true)
  (hactive : s.sleep.power = .active) (hcool : s.attach.pulses.length < s.settings.active.pulseLimit)
  (hbudget : 1200 ≤ s.allot.budget)
include hs h hinput hseated hallowed hactive hcool hbudget

theorem exec_detachAccepted {k : Nat} {a : AttachUnit} {l : LinkUnit} {p : PenUnit} {A : AllotUnit}
    (hl : Leads false 0 k ((s.claimed n .detach).asking (.host n) [.askQuiesce, .considerQueue])
      ((s.acceptedWith n a l p A).setTasks [.considerQueue])) (hk : k ≤ 95 := by decide) :
    ∃ t, exec (.detach n tag) s = .next t ∧ t.attach = a ∧ t.link = l ∧ t.pen = p ∧ t.allot = A ∧ s.acceptedElsewhere n t := by
  have hasking := Leads.asking (s := s.claimed n .detach) (c := .host n) rfl hinput hseated
  have hlast : Leads false 0 1 ((s.acceptedWith n a l p A).setTasks [.considerQueue]) ((s.acceptedWith n a l p A).setTasks []) :=
    .exact rfl fun b => considerQueue_idle _ rfl
  obtain ⟨t, hnext, hframe, -⟩ := exec_takenLeads (n := n) (r := .detach) (tag := tag) (ps := [])
    (f := fun s => s.detachClaim (.host n)) hs h rfl
    (fun b => Becomes.acceptClaim ((s.claimed n .detach).withNoise b) (.host n) hseated
      (judgeClaim_accepted _ hseated hallowed hactive hcool hbudget))
    ((hasking.next hl).next hlast) rfl (by simp) (by omega)
  exact ⟨t, hnext, acceptedWith_elsewhere hframe⟩

theorem exec_detachReady (hlink : s.link.state = .ready) :
    ∃ t, exec (.detach n tag) s = .next t ∧
      t.attach = { s.acceptedAttach (.host n) with phase := some .quiescing, quiesceTimer := some (s.now + 100) } ∧
      t.link.state = .quiesced ∧ t.allot = s.allot ∧ t.pen = s.pen ∧ s.acceptedElsewhere n t := by
  have hquiesced := Leads.quiesced (s := (s.claimed n .detach).asking (.host n) [.askQuiesce, .considerQueue]) (rest := [.considerQueue]) rfl
    hinput rfl rfl hlink
  obtain ⟨t, hnext, hattach, hlinked, hpen, hallot, helse⟩ := exec_detachAccepted s n tag hs h hinput hseated hallowed hactive hcool
    hbudget (l := State.quiescedLink ((s.claimed n .detach).asking (.host n) [.askQuiesce, .considerQueue])) (p := s.pen) (A := s.allot) hquiesced
  refine ⟨t, hnext, hattach, ?_, hallot, hpen, helse⟩
  rw [hlinked]
  exact enteredLink_state _ _

theorem exec_detachPulse (hlink : s.link.state ≠ .ready) (hdemand : s.allot.demand = ⟨0, 0, 0, 0⟩)
    (hgrant : s.allot.grant = ⟨0, 0, 0, 0⟩) (hawaiting : s.allot.awaiting = []) :
    ∃ t, exec (.detach n tag) s = .next t ∧
      t.attach = { s.acceptedAttach (.host n) with
                   phase := some .pulse, quiesceTimer := none, coil := true, currentSeen := false, coilSince := s.now
                   pulses := s.attach.pulses ++ [s.now], senseTimer := some (s.now + 20)
                   pulseTimer := some (s.now + BitVec.ofNat 32 s.settings.active.pulseTime) } ∧
      t.allot = { s.allot with demand := ⟨1200, 0, 0, 0⟩, grant := ⟨1200, 0, 0, 0⟩, increases := noIncreases } ∧
      t.link = s.link ∧ t.pen = s.pen ∧ s.acceptedElsewhere n t := by
  have hclaiming := Leads.claiming (q := false) (s := (s.claimed n .detach).asking (.host n) [.askQuiesce, .considerQueue])
    (rest := [.considerQueue]) rfl rfl rfl hlink
  have hclaim := Leads.claim (q := false) (b := 0) (rest := [.considerQueue]) (.inl rfl)
    (s := { (s.claimed n .detach).asking (.host n) [.askQuiesce, .considerQueue] with
            attach := { s.acceptedAttach (.host n) with phase := some .claiming, quiesceTimer := none }
            tasks := [.coilDemand true, .considerQueue] }) rfl rfl hdemand hgrant hawaiting hbudget hcool
  obtain ⟨t, hnext, hattach, hlinked, hpen, hallot, helse⟩ := exec_detachAccepted s n tag hs h hinput hseated hallowed hactive hcool
    hbudget (l := s.link) (p := s.pen) (hclaiming.next hclaim)
  exact ⟨t, hnext, hattach, hallot, hlinked, hpen, helse⟩

theorem exec_detachBesidePen (p : Nat) (hlink : s.link.state ≠ .ready) (hdemand : s.allot.demand = ⟨0, 0, p, 0⟩)
    (hgrant : s.allot.grant = ⟨0, 0, p, 0⟩) (hawaiting : s.allot.awaiting = []) (hpen : 150 ≤ p)
    (hshort : s.allot.budget < 1200 + p) :
    ∃ t, exec (.detach n tag) s = .next t ∧
      t.attach = { s.acceptedAttach (.host n) with phase := some .claiming, quiesceTimer := none } ∧
      t.allot.demand = ⟨1200, 0, p, 0⟩ ∧ t.allot.grant = ⟨0, 0, (targets s.allot.budget t.allot.demand).pen, 0⟩ ∧
      t.allot.increases = { noIncreases with coil := some 1200 } ∧ t.allot.awaiting = [⟨.pen, s.now + 100⟩] ∧
      t.link = s.link ∧ s.acceptedElsewhere n t := by
  have hclaiming := Leads.claiming (q := false) (s := (s.claimed n .detach).asking (.host n) [.askQuiesce, .considerQueue])
    (rest := [.considerQueue]) rfl rfl rfl hlink
  obtain ⟨A, P, hclaim, hAdemand, hAgrant, hAincreases, hAawaiting⟩ := Leads.claimBesidePen (p := p) (rest := [.considerQueue])
    (s := { (s.claimed n .detach).asking (.host n) [.askQuiesce, .considerQueue] with
            attach := { s.acceptedAttach (.host n) with phase := some .claiming, quiesceTimer := none }
            tasks := [.coilDemand true, .considerQueue] }) rfl rfl hdemand hgrant hawaiting hpen hbudget hshort
  obtain ⟨t, hnext, hattach, hlinked, -, hallot, helse⟩ := exec_detachAccepted s n tag hs h hinput hseated hallowed hactive hcool
    hbudget (l := s.link) (p := P) (A := A) (hclaiming.next hclaim)
  refine ⟨t, hnext, hattach, ?_, ?_, ?_, ?_, hlinked, helse⟩
  · rw [hallot, hAdemand]
  · rw [hallot, hAgrant, hAdemand]
    rfl
  · rw [hallot, hAincreases]
  · rw [hallot, hAawaiting]
    rfl

end

/-! ## DETACH joined to a release in progress (R132) -/

theorem exec_detachJoined (s : State) (n : Fin 32) (tag : Half) (hs : s.sound) (h : s.takesAtOnce n .base)
    (hrelease : s.attach.state.inRelease = true) (hrequest : s.attach.request = none) :
    ∃ t, exec (.detach n tag) s = .next t ∧ t.attach = { s.attach with request := some n } ∧ s.slotOnly t n ∧
      t = { s with mem := t.mem, attach := t.attach
                   dispatch := { s.dispatch with
                                 slots := s.dispatch.slots.set n (.taken false)
                                 serving := s.dispatch.serving.set ServingUnit.base.index (some n) } } := by
  obtain ⟨v, hv⟩ : ∃ v, v = s.taken n .detach tag [] := ⟨_, rfl⟩
  have hframe : v = { s with mem := v.mem, dispatch := v.dispatch, tasks := [.considerQueue] } := by
    rw [hv]
    simp only [State.taken]
  have hdispatch : v.dispatch = { s.dispatch with
      slots := s.dispatch.slots.set n (.taken false)
      serving := s.dispatch.serving.set ServingUnit.base.index (some n) } := by
    rw [hv]
    simp only [State.taken, h.2.2.2.1, Request.servedBy]
  obtain ⟨w, hw⟩ : ∃ w, w = { v with attach := { v.attach with request := some n }, tasks := [] } := ⟨_, rfl⟩
  have hclaim : v.detachClaim (.host n) = { v with attach := { v.attach with request := some n } } := by
    unfold State.detachClaim
    rw [if_pos (by rw [hframe]; exact hrelease)]
    exact if_pos (by rw [hframe]; exact hrequest)
  have hserve : (s.taken n .detach tag []).serve n .detach = { v with attach := { v.attach with request := some n } } := by
    rw [← hclaim, hv]
    rfl
  have hqueue : v.dispatch.queue = [] := by rw [hdispatch]; exact h.2.2.2.1
  have hcarried : Carried 1 ((s.taken n .detach tag []).serve n .detach) w := by
    rw [hserve]
    refine Carried.front_eq (x := .considerQueue) (rest := []) (by rw [hframe]) ?_
    rw [hw]
    exact considerQueue_idle { v with attach := { v.attach with request := some n }, tasks := [] } hqueue
  have hmem : s.slotOnly v n := by
    rw [hv]
    exact taken_get_ne s hs.2 n .detach tag [] (by simp)
  have hsame : w.closeBoard s = w := by
    refine closeBoard_same _ s ?_ ?_
    · rw [hw, hframe]
      exact hs.1.2
    · rw [hw, hframe]
      rfl
  have hnext := exec_request (r := .detach) (tag := tag) (ps := []) hs h hcarried (by rw [hw])
  rw [hsame] at hnext
  refine ⟨w, hnext, by rw [hw, hframe], by rw [hw]; exact hmem, ?_⟩
  rw [← hdispatch, hw, hframe, ← hs.1.1]

end Sys2Proof.Machine
end

section
/-! The coil's claim withdrawn beside any others (R166 to R170), and DETACH cancelled (R143). -/

namespace Sys2Proof.Machine

set_option Elab.async false

variable {q : Bool} {L M : BitVec 10} {s t u v w e : State}

/-! ## Targets -/

/-- More room gives the base and the pen no less. -/
theorem baseTarget_mono {r R : Nat} (d : Allotments) (h : r ≤ R) : baseTarget r d ≤ baseTarget R d := by
  unfold baseTarget
  split_ifs <;> omega

theorem penTarget_mono {r R : Nat} (d : Allotments) (h : r ≤ R) : penTarget r d ≤ penTarget R d := by
  unfold penTarget
  split_ifs <;> omega

/-- What the pen leaves grows with the room, or is no backlight level at all. -/
theorem pen_leaves (r R : Nat) (d : Allotments) (h : r ≤ R) :
    r - penTarget r d ≤ R - penTarget R d ∨ r - penTarget r d < 150 := by
  unfold penTarget
  split_ifs <;> omega

/-- The coil's claim withdrawn lowers no other target (R166). -/
theorem targets_withdrawn (b : Nat) (d : Allotments) (hcoil : d.coil = 1200) :
    (targets b { d with coil := 0 }).coil = 0 ∧ (targets b d).base ≤ (targets b { d with coil := 0 }).base ∧
      (targets b d).pen ≤ (targets b { d with coil := 0 }).pen ∧
      (targets b d).backlight ≤ (targets b { d with coil := 0 }).backlight := by
  by_cases hfit : 1200 ≤ b
  · have hclaimed : coilTarget b d = 1200 := if_pos ⟨hcoil, hfit⟩
    have hfree : coilTarget b { d with coil := 0 } = 0 := if_neg fun h => absurd h.1 (by decide : (0 : Nat) ≠ 1200)
    have hbase : baseTarget (b - 1200) d ≤ baseTarget b d := baseTarget_mono d (by omega)
    have hlimit : baseTarget b d ≤ 250 := by
      unfold baseTarget
      split_ifs <;> omega
    have hroom : b - 1200 - baseTarget (b - 1200) d ≤ b - baseTarget b d := by omega
    unfold targets
    dsimp only
    rw [hclaimed, hfree]
    refine ⟨rfl, hbase, penTarget_mono d hroom, ?_⟩
    unfold backlightTarget
    by_cases hnone : baseTarget (b - 1200) d = 0
    · rw [if_pos hnone]
      exact Nat.zero_le _
    · rw [if_neg hnone, if_neg (by show ¬ baseTarget b d = 0; omega)]
      refine Nat.mul_le_mul_right 150 ?_
      show _ ≤ min d.backlight (b - baseTarget b d - penTarget (b - baseTarget b d) d) / 150
      rcases pen_leaves _ _ d hroom with hleft | hleft
      · exact Nat.div_le_div_right (by omega)
      · rw [Nat.div_eq_of_lt (by omega)]
        exact Nat.zero_le _
  · have hsame : coilTarget b d = coilTarget b { d with coil := 0 } := by
      unfold coilTarget
      rw [if_neg fun h => hfit h.2, if_neg fun h => hfit h.2]
    have hequal : targets b { d with coil := 0 } = targets b d := by
      unfold targets
      dsimp only
      rw [hsame]
      rfl
    rw [hequal]
    refine ⟨?_, le_rfl, le_rfl, le_rfl⟩
    unfold targets coilTarget
    exact if_neg fun h => hfit h.2
/-! ## Grants that follow a rise -/

/-- From s to t raised grants have reached the pen, the backlight and the link. -/
structure Follows (s t : State) : Prop where
  frame : t = { s with link := t.link, pen := t.pen, allot := { s.allot with level := t.allot.level }, tasks := t.tasks }
  state : t.link.state = s.link.state
  inputs : t.link.receiveQueue = s.link.receiveQueue ∧ t.link.owed = s.link.owed ∧ t.link.pressed = s.link.pressed ∧
    t.link.buttons = s.link.buttons

theorem Follows.tasks (s : State) (ts : List Task) : Follows s (s.setTasks ts) := ⟨rfl, rfl, ⟨rfl, rfl, rfl, rfl⟩⟩

theorem Follows.trans (h : Follows s t) (h' : Follows t u) : Follows s u := by
  obtain ⟨hframe, hstate, hreceive, howed, hpressed, hbuttons⟩ := h
  obtain ⟨hframe', hstate', hreceive', howed', hpressed', hbuttons'⟩ := h'
  refine ⟨?_, hstate'.trans hstate, hreceive'.trans hreceive, howed'.trans howed, hpressed'.trans hpressed, hbuttons'.trans hbuttons⟩
  rw [hframe] at hframe'
  exact hframe'

theorem Follows.calm (h : Follows s t) (hc : Calm s) : Calm t := by
  refine hc.congr ?_ h.inputs
  rw [h.frame]

theorem Follows.allot (h : Follows s t) : t.allot = { s.allot with level := t.allot.level } := by
  have hframe := congrArg State.allot h.frame
  exact hframe

/-- A hand-on of a grant that may have changed. -/
theorem Goes.unchanged {c : Prop} [Decidable c] {x : Task} {rest : List Task} (h : s.tasks = (if c then [] else [x]) ++ rest) (hc : c) :
    Goes 0 1 s (s.setTasks rest) := by
  rw [if_pos hc] at h
  rw [show s.setTasks rest = s by rw [← show s.tasks = rest from h]; rfl]
  exact (Goes.refl s).mono (Nat.zero_le 1)

section
variable {c : Prop} [Decidable c] {rest : List Task}

theorem Goes.linkFollows (h : s.tasks = (if c then [] else [.linkGrant]) ++ rest) (hbase : ¬ c → 0 < s.allot.grant.base)
    (hlink : s.link.state ≠ .unpowered) : Goes 0 1 s (s.setTasks rest) := by
  by_cases hc : c
  · exact .unchanged h hc
  · rw [if_neg hc] at h
    refine .still (x := .linkGrant) h fun v hv => ?_
    show v.linkGrant = v
    unfold State.linkGrant
    rw [if_pos (by rw [hv.frame]; exact hbase hc), if_neg (by rw [hv.frame]; exact hlink)]

theorem Goes.penFollows (h : s.tasks = (if c then [] else [.penGrant]) ++ rest) :
    ∃ t, Goes 0 1 s t ∧ Follows s t ∧ t.tasks = rest := by
  by_cases hc : c
  · exact ⟨_, .unchanged h hc, .tasks s rest, rfl⟩
  · rw [if_neg hc] at h
    exact ⟨{ s with pen := s.grantedPen, tasks := rest }, .of_leads fun τ _ => Leads.penGrant (s := { s with sleep := τ }) h,
      ⟨rfl, rfl, rfl, rfl, rfl, rfl⟩, rfl⟩

/-- A LIGHT offered: listed or sent, or its decrease confirmed at once. -/
theorem offerLight_eq (s : State) (l : Nat) :
    s.offerPacket (.light l) =
      if s.link.capBacklight = true ∧ s.link.state.allows (.light l) = true then
        { s with link := s.link.offered s.sensor.period (.light l) }
      else s.hand [.confirmDecrease .backlight] := by
  split
  · next h => exact offerPacket_light s l h.1 h.2
  · next h =>
    refine if_neg ?_
    rw [Bool.and_eq_true]
    exact h

theorem Goes.backlightFollows (h : s.tasks = (if c then [] else [.backlightGrant]) ++ rest) (hawaiting : s.allot.awaiting = []) :
    ∃ t, Goes 0 2 s t ∧ Follows s t ∧ t.tasks = rest := by
  by_cases hc : c
  · exact ⟨_, (Goes.unchanged h hc).mono (by decide), .tasks s rest, rfl⟩
  rw [if_neg hc] at h
  by_cases hlevel : s.allot.grant.backlight / 150 = s.allot.level
  · refine ⟨_, (Goes.still (x := .backlightGrant) h fun v hv => ?_).mono (by decide), .tasks s rest, rfl⟩
    refine if_pos ?_
    rw [hv.frame]
    exact hlevel
  have hgrant (v : State) (hv : Like (s.setTasks rest) v) : doTask .backlightGrant v =
      State.offerPacket { v with allot := { s.allot with level := s.allot.grant.backlight / 150 } }
        (.light (s.allot.grant.backlight / 150)) := by
    have hallot : v.allot = s.allot := by
      rw [hv.frame]
      rfl
    show State.backlightGrant v = _
    unfold State.backlightGrant State.updAllot
    dsimp only
    rw [hallot, if_neg hlevel]
  by_cases hopen : s.link.capBacklight = true ∧ s.link.state.allows (.light (s.allot.grant.backlight / 150)) = true
  · obtain ⟨hstate, hinputs⟩ := offered_frame s.link s.sensor.period (.light (s.allot.grant.backlight / 150))
    refine ⟨{ s with allot := { s.allot with level := s.allot.grant.backlight / 150 }
                     link := s.link.offered s.sensor.period (.light (s.allot.grant.backlight / 150)), tasks := rest },
      Goes.mono (j := 1) (.front h fun v hv => ⟨v.sleep, hv.sleep, .of_eq ?_⟩) (by decide), ⟨rfl, hstate, hinputs⟩, rfl⟩
    rw [hgrant v hv, offerLight_eq, if_pos (by rw [hv.frame]; exact hopen), hv.frame]
    rfl
  · refine ⟨{ s with allot := { s.allot with level := s.allot.grant.backlight / 150 }, tasks := rest }, ?_,
      ⟨rfl, rfl, rfl, rfl, rfl, rfl⟩, rfl⟩
    have hoffer : Goes 0 1 s
        { s with allot := { s.allot with level := s.allot.grant.backlight / 150 }
                 tasks := .confirmDecrease .backlight :: rest } :=
      .front h fun v hv => ⟨v.sleep, hv.sleep, .of_eq (by
        rw [hgrant v hv, offerLight_eq, if_neg (by rw [hv.frame]; exact hopen), hv.frame]
        rfl)⟩
    exact hoffer.next (.still rfl fun v hv => confirmDecrease_none v _ (by rw [hv.frame]; exact hawaiting))

theorem Goes.coilUnclaimed (h : s.tasks = .coilAnswer :: rest) (hcoil : s.allot.demand.coil ≠ 1200) :
    Goes 0 1 s (s.setTasks rest) := .still h fun v hv => coilAnswer_undemanded v (by rw [hv.frame]; exact hcoil)

end

/-- Rises that have reached the link, the pen and the backlight. -/
theorem Goes.grantsFollow {g g' : Allotments} {rest : List Task} (h : s.tasks = grantTasks g g' ++ rest)
    (hbase : g.base ≠ g'.base → 0 < s.allot.grant.base) (hlink : s.link.state ≠ .unpowered) (hawaiting : s.allot.awaiting = []) :
    ∃ t, Goes 0 4 s t ∧ Follows s t ∧ t.tasks = rest := by
  unfold grantTasks at h
  rw [List.append_assoc, List.append_assoc] at h
  have hlinked := Goes.linkFollows h hbase hlink
  obtain ⟨t, hpen, hfollows, htasks⟩ := Goes.penFollows (s := s.setTasks _) (c := g.pen = g'.pen)
    (rest := (if g.backlight = g'.backlight then [] else [.backlightGrant]) ++ rest) rfl
  obtain ⟨u, hbacklight, hfollows', htasks'⟩ := Goes.backlightFollows (s := t) htasks
    (by rw [hfollows.allot]; exact hawaiting)
  exact ⟨u, (hlinked.next hpen).next hbacklight, ((Follows.tasks s _).trans hfollows).trans hfollows', htasks'⟩

/-! ## The claim withdrawn -/

/-- From s to t the coil's claim is withdrawn, its power with it, and other grants have risen at most. -/
structure Withdrawn (s t : State) : Prop where
  frame : t = { s with link := t.link, pen := t.pen, allot := t.allot, tasks := t.tasks }
  state : t.link.state = s.link.state
  calm : Calm s → Calm t
  demand : t.allot.demand = { s.allot.demand with coil := 0 }
  grant : t.allot.grant.coil = 0
  increases : t.allot.increases.coil = none

theorem Withdrawn.trans (h : Withdrawn s t) (hf : Follows t u) : Withdrawn s u where
  frame := by
    have hframe := hf.frame
    rw [h.frame] at hframe
    rw [hframe]
  state := hf.state.trans h.state
  calm := hf.calm ∘ h.calm
  demand := by rw [hf.allot]; exact h.demand
  grant := by rw [hf.allot]; exact h.grant
  increases := by rw [hf.allot]; exact h.increases

theorem Goes.withdrawCoil {rest : List Task} (h : s.tasks = .coilDemand false :: rest) (hwithin : GrantsWithinTargets s)
    (hcoil : s.allot.demand.coil = 1200) (hlink : s.link.state ≠ .unpowered) :
    ∃ t, Goes 0 8 s t ∧ Withdrawn s t ∧ t.tasks = rest := by
  obtain ⟨⟨-, hbase, hpen, hbacklight⟩, -, -⟩ := hwithin
  obtain ⟨hzero, hbaseUp, hpenUp, hbacklightUp⟩ := targets_withdrawn s.allot.budget s.allot.demand hcoil
  obtain ⟨x, hx⟩ : ∃ x, x = (s.setTasks rest).setDemand fun a => { a with coil := 0 } := ⟨_, rfl⟩
  obtain ⟨T, hT⟩ : ∃ T, T = targets s.allot.budget { s.allot.demand with coil := 0 } := ⟨_, rfl⟩
  rw [← hT] at hzero hbaseUp hpenUp hbacklightUp
  have htarget : targets x.allot.budget x.allot.demand = T := by
    rw [hx, hT]
    rfl
  have hdemanded : Goes 0 1 s x.recomputed := by
    rw [hx]
    refine .of_leads fun τ _ => ?_
    exact Leads.recompute (q := false) (s := { s with sleep := τ }) (f := fun a => { a with coil := 0 }) h fun a =>
      coilDemand_down _ (by
        show s.allot.demand.coil ≠ 0
        rw [hcoil]
        decide)
  have hgrant : x.allot.grant = s.allot.grant := by rw [hx]; rfl
  have hlowered : lowered x.allot.grant T = { s.allot.grant with coil := 0 } := by
    rw [hgrant]
    simp only [lowered, hzero, allotments_eq_iff]
    exact ⟨Nat.min_zero _, Nat.min_eq_left (hbase.trans hbaseUp), Nat.min_eq_left (hpen.trans hpenUp),
      Nat.min_eq_left (hbacklight.trans hbacklightUp)⟩
  have htasks : grantTasks x.allot.grant { s.allot.grant with coil := 0 } = [] := by
    rw [hgrant]
    simp [grantTasks]
  have hawaits (off : Bool) (d : PartTime) : awaitingAfter x.allot.awaiting x.allot.grant T off d = s.allot.awaiting := by
    rw [hgrant, show x.allot.awaiting = s.allot.awaiting by rw [hx]; rfl]
    unfold awaitingAfter
    rw [if_neg (Nat.not_lt.mpr (hpen.trans hpenUp)), if_neg (Nat.not_lt.mpr (hbacklight.trans hbacklightUp))]
  obtain ⟨A, hA⟩ : ∃ A, A = x.recomputedAllot := ⟨_, rfl⟩
  have hrecomputed : x.recomputed = { s with allot := A, tasks := .settleIncreases :: .coilAnswer :: rest } := by
    unfold State.recomputed
    rw [htarget, hlowered, htasks, ← hA, hx]
    rfl
  obtain ⟨hAdemand, hAgrant, hAincreases, hAawaiting⟩ : A.demand = { s.allot.demand with coil := 0 } ∧
      A.grant = { s.allot.grant with coil := 0 } ∧ A.increases = increasesOf s.allot.grant T ∧ A.awaiting = s.allot.awaiting := by
    rw [hA]
    unfold State.recomputedAllot
    rw [htarget, hlowered, hawaits, hgrant]
    refine ⟨?_, rfl, rfl, rfl⟩
    rw [hx]
    rfl
  have hAcoil : A.increases.coil = none := by
    rw [hAincreases]
    show increaseOf s.allot.grant.coil T.coil = none
    rw [hzero, increaseOf, if_neg (Nat.not_lt_zero _)]
  have hunclaimed : A.demand.coil ≠ 1200 := by
    rw [hAdemand]
    exact (by decide : (0 : Nat) ≠ 1200)
  rw [hrecomputed] at hdemanded
  by_cases hawaiting : s.allot.awaiting = []
  · obtain ⟨y, hy⟩ : ∃ y, y = ({ s with allot := A, tasks := .coilAnswer :: rest } : State) := ⟨_, rfl⟩
    obtain ⟨B, hB⟩ : ∃ B, B = State.granted { s with allot := A, tasks := .coilAnswer :: rest } (raised A.grant A.increases) noIncreases :=
      ⟨_, rfl⟩
    have hsettle : Goes 0 1 { s with allot := A, tasks := .settleIncreases :: .coilAnswer :: rest }
        { s with allot := B
                 tasks := grantTasks A.grant (raised A.grant A.increases) ++ [.coilAnswer] ++ .coilAnswer :: rest } :=
      .front rfl fun v hv => by
        have hsettled := Becomes.settleIncreases (q := false) v (by rw [hv.frame]; exact hAawaiting.trans hawaiting)
        refine ⟨v.sleep, hv.sleep, ?_⟩
        obtain ⟨τ, a, hτ, rfl⟩ := hv
        rw [hB]
        exact hsettled
    have hraised : (raised A.grant A.increases).coil = 0 := by
      show A.increases.coil.getD A.grant.coil = 0
      rw [hAcoil, hAgrant]
      rfl
    have hbasePositive : A.grant.base ≠ (raised A.grant A.increases).base → 0 < B.grant.base := by
      rw [hB]
      show _ → 0 < (raised A.grant A.increases).base
      intro hchanged
      rw [hAgrant, hAincreases] at hchanged ⊢
      have hrise : (raised { s.allot.grant with coil := 0 } (increasesOf s.allot.grant T)).base =
          (increaseOf s.allot.grant.base T.base).getD s.allot.grant.base := rfl
      rw [hrise] at hchanged ⊢
      unfold increaseOf at hchanged ⊢
      split at hchanged
      · next hless =>
        rw [if_pos hless]
        exact Nat.lt_of_le_of_lt (Nat.zero_le _) hless
      · exact absurd rfl hchanged
    obtain ⟨z, hfollow, hfollows, hztasks⟩ := Goes.grantsFollow
      (s := { s with allot := B
                     tasks := grantTasks A.grant (raised A.grant A.increases) ++ [.coilAnswer] ++ .coilAnswer :: rest })
      (g := A.grant) (g' := raised A.grant A.increases) (rest := .coilAnswer :: .coilAnswer :: rest)
      (by simp) hbasePositive hlink (by rw [hB]; exact hAawaiting.trans hawaiting)
    have hzcoil : z.allot.demand.coil ≠ 1200 := by
      rw [hfollows.allot, hB]
      exact hunclaimed
    have hanswers : Goes 0 2 z (z.setTasks rest) :=
      (Goes.coilUnclaimed hztasks hzcoil).next (.coilUnclaimed (s := z.setTasks (.coilAnswer :: rest)) rfl hzcoil)
    have hwithdrawn : Withdrawn s { s with allot := B, tasks := grantTasks A.grant (raised A.grant A.increases) ++ [.coilAnswer] ++ .coilAnswer :: rest } :=
      ⟨rfl, rfl, fun hc => hc.congr rfl ⟨rfl, rfl, rfl, rfl⟩, by rw [hB]; exact hAdemand, by rw [hB]; exact hraised,
        by rw [hB]; rfl⟩
    exact ⟨z.setTasks rest, ((hdemanded.next hsettle).next hfollow).next hanswers,
      (hwithdrawn.trans hfollows).trans (.tasks z rest), rfl⟩
  · have hsettle : Goes 0 1 { s with allot := A, tasks := .settleIncreases :: .coilAnswer :: rest }
        { s with allot := A, tasks := .coilAnswer :: rest } := .still rfl fun v hv => settleIncreases_awaiting v (by
      rw [hv.frame]
      show A.awaiting ≠ []
      rw [hAawaiting]
      exact hawaiting)
    have hanswer : Goes 0 1 { s with allot := A, tasks := .coilAnswer :: rest } { s with allot := A, tasks := rest } :=
      .coilUnclaimed rfl hunclaimed
    exact ⟨_, ((hdemanded.next hsettle).next hanswer).mono (by decide),
      ⟨rfl, rfl, fun hc => hc.congr rfl ⟨rfl, rfl, rfl, rfl⟩, hAdemand, by rw [hAgrant], hAcoil⟩, rfl⟩

end Sys2Proof.Machine
end

section
/-! DETACH cancelled (R138, R143). -/

namespace Sys2Proof.Machine

set_option Elab.async false

variable {q : Bool} {L M : BitVec 10} {s t u v w e : State}

/-! ## The slot cancelled -/

/-- Exchange memory with a slot's result CANCELLED, at its done time (R9). -/
def State.cancelMemory (s : State) (n : Fin 32) : Memory :=
  (s.mem.putLE (slotBase n + 0x24) 2 ResultCode.cancelled.code).putLE (slotBase n + 0x3C) 4 s.now.toNat

/-- A state whose DETACH has been cancelled in its slot. -/
def State.cancelled (s : State) (n : Fin 32) : State :=
  { s with mem := s.cancelMemory n
           dispatch := { s.dispatch with
                         slots := s.dispatch.slots.set n .free
                         serving := s.dispatch.serving.set ServingUnit.base.index none }
           attach := { s.attach with request := none }, tasks := s.tasks ++ [.considerQueue] }

theorem release_cancels (s : State) (n : Fin 32) (hopen : s.port.hrst = false) (htaken : s.slotState n = .taken false)
    (hserving : s.unitServing n = some .base) (hstate : s.attach.state = .releasing)
    (hphase : s.attach.phase = some .quiescing ∨ s.attach.phase = some .claiming) (hrequest : s.attach.request = some n) :
    (s.whenOpen fun s => s.releaseSlot n) =
      match s.attach.origin with
      | .request => (s.cancelled n).endRelease 0 none
      | .button => s.cancelled n := by
  have hcancellable : s.detachCancellable n = true := by
    unfold State.detachCancellable
    rw [hstate, hrequest]
    rcases hphase with h | h <;> rw [h] <;> simp
  rw [whenOpen_open _ _ hopen]
  unfold State.releaseSlot State.releaseTaken
  rw [htaken]
  dsimp only
  rw [hserving]
  dsimp only
  rw [if_pos hcancellable]
  rfl

/-- What a cancelled request shows. -/
theorem cancelled_shows (s : State) (n : Fin 32) (hm : MemoryCanonical s)
    (hmem : ∀ a, a < 0x2800 → t.mem.get a = (s.cancelMemory n).get a) (hdispatch : t.dispatch = (s.cancelled n).dispatch) :
    t.slotState n = .free ∧ t.resultCode n = ResultCode.cancelled.code ∧ t.servingSlot .base = none := by
  refine ⟨?_, ?_, ?_⟩
  · unfold State.slotState
    rw [hdispatch]
    exact Vector.getElem_set_self _
  · have hplace : slotBase n + 0x26 < 0x2800 := by
      unfold slotBase
      omega
    unfold State.resultCode
    rw [getLE_congr _ _ _ _ fun b hb hbn => hmem b (by omega)]
    unfold State.cancelMemory
    rw [Memory.getLE_putLE_ne _ (Memory.wf_putLE _ _ _ _ hm) _ _ _ _ _ (by omega), Memory.getLE_putLE _ hm]
    rfl
  · unfold State.servingSlot
    rw [hdispatch]
    exact Vector.getElem_set_self _

theorem cancelMemory_other (s : State) (n : Fin 32) (hm : MemoryCanonical s) (a : Nat) (ha : a < slotBase n ∨ slotBase n + 64 ≤ a) :
    (s.cancelMemory n).get a = s.mem.get a := by
  unfold State.cancelMemory
  rw [Memory.get_putLE_ne _ (Memory.wf_putLE _ _ _ _ hm) _ _ _ _ (by omega), Memory.get_putLE_ne _ hm _ _ _ _ (by omega)]

theorem cancelMemory_canonical (s : State) (n : Fin 32) (hm : MemoryCanonical s) : MemoryCanonical (s.cancelled n) :=
  Memory.wf_putLE _ _ _ _ (Memory.wf_putLE _ _ _ _ hm)

/-! ## The release cancelled -/

/-- The DETACH of slot n is in a phase in which it can be cancelled. -/
structure Cancellable (s : State) (n : Fin 32) : Prop where
  sound : s.sound
  opened : s.port.hrst = false
  queue : s.dispatch.queue = []
  taken : s.slotState n = .taken false
  serving : s.unitServing n = some .base
  state : s.attach.state = .releasing
  phase : s.attach.phase = some .quiescing ∨ s.attach.phase = some .claiming
  request : s.attach.request = some n

/-- The attachment unit after its release has ended. -/
def State.endedAttach (s : State) : AttachUnit := s.attach.cleared

/-- A state whose DETACH has been cancelled, with the hand-ons of its release's end. -/
def State.ending (s : State) (n : Fin 32) : State :=
  { s.cancelled n with attach := s.endedAttach, tasks := [.coilDemand false, .askResume, .returnToRest 6, .considerQueue] }

section
variable {n : Fin 32} (h : Cancellable s n)
include h

/-- A release begun by the button goes on without the request. -/
theorem exec_cancelButton (horigin : s.attach.origin = .button) :
    ∃ t, exec (.release n) s = .next t ∧
      (t.slotState n = .free ∧ t.resultCode n = ResultCode.cancelled.code ∧ t.servingSlot .base = none) ∧ s.slotOnly t n ∧
      t = { s with mem := t.mem, dispatch := t.dispatch, attach := { s.attach with request := none } } := by
  obtain ⟨⟨hbetween, hm⟩, hopen, hqueue, htaken, hserving, hstate, hphase, hrequest⟩ := h
  have hrelease := release_cancels s n hopen htaken hserving hstate hphase hrequest
  rw [horigin] at hrelease
  obtain ⟨x, hx⟩ : ∃ x, x = (s.cancelled n).setTasks [] := ⟨_, rfl⟩
  have hcarried : Carried 1 (s.whenOpen fun s => s.releaseSlot n) x := by
    rw [hrelease, hx]
    refine Carried.idle (x := .considerQueue) ?_ (considerQueue_idle _ hqueue)
    show s.tasks ++ [.considerQueue] = _
    rw [hbetween.1]
    rfl
  have hnext := takeEvent_settled (f := fun s => s.whenOpen fun s => s.releaseSlot n) hbetween hcarried (t := x)
    (by rw [hx]; exact ⟨rfl, hbetween.2⟩) (by rw [hx]; rfl)
  refine ⟨x, hnext, cancelled_shows s n hm (fun a _ => by rw [hx]; rfl) (by rw [hx]; rfl), fun a ha => ?_, ?_⟩
  · rw [hx]
    exact cancelMemory_other s n hm a ha
  · rw [hx]
    show State.setTasks _ [] = { s with mem := _, dispatch := _, attach := _ }
    rw [← hbetween.1]
    rfl

/-- A release begun by the request ends: the hand-ons of its end, and what they leave. -/
theorem exec_cancelRequest {k : Nat} (horigin : s.attach.origin = .request) (hcoil : s.attach.coil = false)
    (hgoes : Goes M k
      (s.ending n)
      (t.setTasks [.considerQueue]))
    (ht : t.dispatch = (s.cancelled n).dispatch) (hk : k ≤ 99 := by decide) :
    ∃ e, exec (.release n) s = .next e ∧
      (e.slotState n = .free ∧ e.resultCode n = ResultCode.cancelled.code ∧ e.servingSlot .base = none) ∧
      e.attach = t.attach ∧ e.link = t.link ∧ e.allot = t.allot ∧ e.pen = t.pen ∧ e.posture = t.posture := by
  obtain ⟨⟨hbetween, hm⟩, hopen, hqueue, htaken, hserving, hstate, hphase, hrequest⟩ := h
  have hrelease := release_cancels s n hopen htaken hserving hstate hphase hrequest
  rw [horigin] at hrelease
  dsimp only at hrelease
  rw [endRelease_eq, offCoil_idle (s.cancelled n) hcoil] at hrelease
  obtain ⟨x, hx⟩ : ∃ x, x = s.ending n :=
    ⟨_, rfl⟩
  have hstart : (s.whenOpen fun s => s.releaseSlot n) = x := by
    rw [hrelease, hx]
    unfold State.hand State.setTasks releaseEnd
    show State.mk .. = State.mk ..
    simp only [State.cancelled, hbetween.1]
    rfl
  have hlast : Goes 0 1 (t.setTasks [.considerQueue]) (t.setTasks []) :=
    .still rfl fun v hv => considerQueue_idle v (by
      rw [hv.frame]
      show t.dispatch.queue = []
      rw [ht]
      exact hqueue)
  rw [← hx] at hgoes
  obtain ⟨e, hnext, hlike, hdrift⟩ := takeEvent_goesFrom (f := fun s => s.whenOpen fun s => s.releaseSlot n) hbetween
    (hstart ▸ .refl x) (hgoes.next hlast) rfl (by omega)
  have hframe := hlike.frame
  have hcanonical : MemoryCanonical x := by
    rw [hx]
    exact cancelMemory_canonical s n hm
  rw [hstart] at hdrift
  refine ⟨e, hnext, cancelled_shows s n hm (fun a ha => ?_) ?_, ?_, ?_, ?_, ?_, ?_⟩
  · rw [hdrift.memory hcanonical a ha, hx]
    rfl
  · rw [hframe]
    exact ht
  · rw [hframe]
    rfl
  · rw [hframe]
    rfl
  · rw [hframe]
    rfl
  · rw [hframe]
    rfl
  · rw [hframe]
    rfl

theorem exec_cancelResumed (horigin : s.attach.origin = .request) (hinput : s.noInputWaits) (hcoil : s.attach.coil = false)
    (hdetect : s.attach.detect.level = true) (hdemand : s.allot.demand.coil = 0) (hlink : s.link.state = .quiesced) :
    ∃ t, exec (.release n) s = .next t ∧
      (t.slotState n = .free ∧ t.resultCode n = ResultCode.cancelled.code ∧ t.servingSlot .base = none) ∧
      t.attach = { s.endedAttach with state := .attached } ∧ t.link.state = .ready ∧ t.allot = s.allot ∧ t.pen = s.pen ∧
      t.posture = s.posture := by
  obtain ⟨x, hx⟩ : ∃ x, x = s.ending n :=
    ⟨_, rfl⟩
  have hidle : Goes 0 1 x (x.setTasks [.askResume, .returnToRest 6, .considerQueue]) :=
    .still (x := .coilDemand false) (by rw [hx]; rfl) fun v hv => coilDemand_none v (by rw [hv.frame, hx]; exact hdemand)
  have hcalm : Calm x := by
    rw [hx]
    exact (Calm.of h.queue hinput).congr rfl ⟨rfl, rfl, rfl, rfl⟩
  have hresumed := Goes.resumed (s := x.setTasks [.askResume, .returnToRest 6, .considerQueue]) (rest := [.considerQueue]) rfl
    (hcalm.congr rfl ⟨rfl, rfl, rfl, rfl⟩)
    (by rw [hx]; show s.attach.state.inRelease = true; rw [h.state]; rfl) (by rw [hx]; rfl) (by rw [hx]; exact hdetect)
    (by rw [hx]; exact hlink)
  have hgoes := hidle.late hresumed
  rw [hx] at hgoes
  obtain ⟨e, hnext, hcancelled, hattach, hlinked, hallot, hpen, hposture⟩ := exec_cancelRequest h horigin hcoil
    (t := { s.cancelled n with attach := { s.endedAttach with state := .attached }
                               link := State.resumedLink { s.cancelled n with attach := s.endedAttach } }) hgoes rfl
  refine ⟨e, hnext, hcancelled, hattach, ?_, hallot, hpen, hposture⟩
  rw [hlinked]
  exact enteredLink_state _ _

theorem exec_cancelClaimed (horigin : s.attach.origin = .request) (hinput : s.noInputWaits) (hcoil : s.attach.coil = false)
    (hdetect : s.attach.detect.level = true) (hwithin : GrantsWithinTargets s) (hdemand : s.allot.demand.coil = 1200)
    (hlink : s.link.state = .quiesced ∨ s.link.state = .faulted) :
    ∃ t, exec (.release n) s = .next t ∧
      (t.slotState n = .free ∧ t.resultCode n = ResultCode.cancelled.code ∧ t.servingSlot .base = none) ∧
      t.attach = { s.endedAttach with state := if s.link.state = .quiesced then .attached else .degraded } ∧
      t.link.state = (if s.link.state = .quiesced then .ready else .faulted) ∧
      t.allot.demand = { s.allot.demand with coil := 0 } ∧ t.allot.grant.coil = 0 ∧ t.allot.increases.coil = none ∧
      t.posture = s.posture := by
  obtain ⟨x, hx⟩ : ∃ x, x = s.ending n :=
    ⟨_, rfl⟩
  obtain ⟨y, hwithdraw, hwithdrawn, htasks⟩ := Goes.withdrawCoil (s := x) (rest := [.askResume, .returnToRest 6, .considerQueue])
    (by rw [hx]; rfl) (by rw [hx]; exact hwithin) (by rw [hx]; exact hdemand) (by
      rw [hx]
      show s.link.state ≠ _
      rcases hlink with hlink | hlink <;> rw [hlink] <;> decide)
  have hcalm : Calm y := hwithdrawn.calm (by
    rw [hx]
    exact (Calm.of h.queue hinput).congr rfl ⟨rfl, rfl, rfl, rfl⟩)
  obtain ⟨hframe, hstate, -, hydemand, hygrant, hyincreases⟩ := hwithdrawn
  have hattach : y.attach = s.endedAttach := by
    rw [hframe, hx]
    rfl
  have hystate : y.link.state = s.link.state := by
    rw [hstate, hx]
    rfl
  have hdispatch : y.dispatch = (s.cancelled n).dispatch := by
    rw [hframe, hx]
    rfl
  have hposture : y.posture = s.posture := by
    rw [hframe, hx]
    rfl
  have hrelease : y.attach.state.inRelease = true := by
    rw [hattach]
    show s.attach.state.inRelease = true
    rw [h.state]
    rfl
  have hydetect : y.attach.detect.level = true := by
    rw [hattach]
    exact hdetect
  rw [hx] at hwithdraw hydemand
  rcases hlink with hlink | hlink
  · rw [if_pos hlink, if_pos hlink]
    have hresumed := Goes.resumed htasks hcalm hrelease (by rw [hattach]; rfl) hydetect (hystate.trans hlink)
    obtain ⟨e, hnext, hcancelled, heattach, helink, heallot, -, heposture⟩ := exec_cancelRequest h horigin hcoil
      (t := { y with link := y.resumedLink, attach := { y.attach with state := .attached } }) (hwithdraw.late hresumed) hdispatch
    refine ⟨e, hnext, hcancelled, ?_, ?_, ?_, ?_, ?_, heposture.trans hposture⟩
    · rw [heattach, hattach]
    · rw [helink]
      exact enteredLink_state _ _
    · rw [heallot]
      exact hydemand
    · rw [heallot]
      exact hygrant
    · rw [heallot]
      exact hyincreases
  · have hother : s.link.state ≠ .quiesced := by
      rw [hlink]
      decide
    rw [if_neg hother, if_neg hother]
    have hidle : Goes 0 1 y (y.setTasks [.returnToRest 6, .considerQueue]) :=
      .still htasks fun v hv => askResume_other v (by
        rw [hv.frame]
        show y.link.state ≠ _
        rw [hystate]
        exact hother)
    have hrest := Goes.returnToRest (s := y.setTasks [.returnToRest 6, .considerQueue]) (rest := [.considerQueue]) rfl
      (hcalm.congr rfl ⟨rfl, rfl, rfl, rfl⟩) hrelease hydetect
    obtain ⟨e, hnext, hcancelled, heattach, helink, heallot, -, heposture⟩ := exec_cancelRequest h horigin hcoil
      (t := { y with attach := y.seated }) ((hwithdraw.next hidle).late hrest) hdispatch
    refine ⟨e, hnext, hcancelled, ?_, ?_, ?_, ?_, ?_, heposture.trans hposture⟩
    · have hseated := resting_degraded y hydetect (hystate.trans hlink)
      rw [heattach]
      show y.seated = _
      rw [hseated, hattach]
    · rw [helink]
      exact hystate.trans hlink
    · rw [heallot]
      exact hydemand
    · rw [heallot]
      exact hygrant
    · rw [heallot]
      exact hyincreases

end

/-- Settles O35: the claim accepted by what the link and the budget allow, joined, and cancelled by its origin. -/
theorem detachAcceptedAndCancelled : Obligations.DetachAcceptedAndCancelled := by
  unfold Obligations.DetachAcceptedAndCancelled
  refine ⟨fun s n tag hs h hinput hseated hallowed hactive hcool hbudget =>
      ⟨exec_detachReady s n tag hs h hinput hseated hallowed hactive hcool hbudget,
       exec_detachPulse s n tag hs h hinput hseated hallowed hactive hcool hbudget,
       exec_detachBesidePen s n tag hs h hinput hseated hallowed hactive hcool hbudget⟩,
    exec_detachJoined, fun s n hs hopen hqueue htaken hserving hstate hphase hrequest => ?_⟩
  have h : Cancellable s n := ⟨hs, hopen, hqueue, htaken, hserving, hstate, hphase, hrequest⟩
  exact ⟨exec_cancelButton h, fun horigin hinput hcoil hdetect => ⟨exec_cancelResumed h horigin hinput hcoil hdetect,
    exec_cancelClaimed h horigin hinput hcoil hdetect⟩⟩

end Sys2Proof.Machine
end

section
/-! SET_BACKLIGHT (R145, R166, R170) and SET_POWER_SOURCE (R163, R164). -/

namespace Sys2Proof.Machine

set_option Elab.async false

variable {q : Bool} {L M : BitVec 10} {s t u v w e : State}

/-! ## Hand-ons that settle nothing -/

/-- How many hand-ons one of the kind brings, itself counted. -/
def Task.settleWeight : Task → Nat
  | .coilAnswer => 1
  | .settleIncreases => 2
  | .confirmDecrease _ => 2
  | _ => 0

def settleWeights (ts : List Task) : Nat := (ts.map Task.settleWeight).sum

/-- A state with another awaiting list. -/
def State.awaits (s : State) (W : List Awaiting) : State := { s with allot := { s.allot with awaiting := W } }

theorem coilAnswer_unphased (s : State) (h : s.attach.phase = none) : s.coilAnswer = s := by
  unfold State.coilAnswer
  split
  · rw [h]
  · rfl

/-- With no increase pending and no release, a run of hand-ons that confirm, settle and answer the coil leaves the awaiting list
alone at most. -/
theorem Leads.settling {ts rest : List Task} (h : s.tasks = ts ++ rest) (hts : ∀ x ∈ ts, 0 < x.settleWeight)
    (hinc : s.allot.increases = noIncreases) (hphase : s.attach.phase = none) :
    ∃ k ≤ settleWeights ts, ∃ W, Leads q 0 k s ((s.awaits W).setTasks rest) := by
  obtain ⟨n, hn⟩ : ∃ n, settleWeights ts = n := ⟨_, rfl⟩
  rw [hn]
  induction n using Nat.strong_induction_on generalizing ts s with
  | _ n ih =>
    cases ts with
    | nil =>
      refine ⟨0, Nat.zero_le n, s.allot.awaiting, ?_⟩
      have hsame : (s.awaits s.allot.awaiting).setTasks rest = s := by
        rw [← show s.tasks = rest from h]
        rfl
      rw [hsame]
      exact .refl q s
    | cons x ts =>
      have hhere : 0 < x.settleWeight := hts x (by simp)
      have hthere (y : Task) (hy : y ∈ ts) : 0 < y.settleWeight := hts y (by simp [hy])
      have hweight : x.settleWeight + settleWeights ts = n := hn
      have hcoil (us : List Task) : settleWeights (.coilAnswer :: us) = 1 + settleWeights us := by
        simp [settleWeights, Task.settleWeight]
      have hgo (W : List Awaiting) (us : List Task) (hus : us = [] ∨ us = [.coilAnswer]) (hlight : 2 ≤ x.settleWeight)
          (hfirst : Leads q 0 1 s ((s.awaits W).setTasks (us ++ (ts ++ rest)))) :
          ∃ k ≤ n, ∃ W, Leads q 0 k s ((s.awaits W).setTasks rest) := by
        have hall (y : Task) (hy : y ∈ us ++ ts) : 0 < y.settleWeight := by
          rcases List.mem_append.mp hy with hy | hy
          · rcases hus with rfl | rfl
            · cases hy
            · rw [List.mem_singleton.mp hy]
              exact Nat.one_pos
          · exact hthere y hy
        have hless : 1 + settleWeights (us ++ ts) ≤ n := by
          rcases hus with rfl | rfl
          · rw [List.nil_append]
            omega
          · rw [List.singleton_append, hcoil]
            omega
        obtain ⟨k, hk, W', hrest⟩ := ih (settleWeights (us ++ ts)) (by omega) (s := (s.awaits W).setTasks (us ++ (ts ++ rest)))
          (ts := us ++ ts) (List.append_assoc us ts rest).symm hall hinc hphase rfl
        exact ⟨1 + k, by omega, W', hfirst.next hrest⟩
      cases x with
      | coilAnswer =>
        have hfirst : Leads q 0 1 s (s.setTasks (ts ++ rest)) := .exact h fun a => coilAnswer_unphased _ hphase
        have hone : 1 + settleWeights ts = n := hweight
        obtain ⟨k, hk, W, hrest⟩ := ih (settleWeights ts) (by omega) (s := s.setTasks (ts ++ rest)) rfl hthere hinc hphase rfl
        exact ⟨1 + k, by omega, W, hfirst.next hrest⟩
      | settleIncreases =>
        have hsettle (a : State) : ((s.setTasks (ts ++ rest)).withNoise a).settleIncreases =
            if s.allot.awaiting.isEmpty then ((s.setTasks (ts ++ rest)).withNoise a).hand [.coilAnswer]
            else (s.setTasks (ts ++ rest)).withNoise a := settleIncreases_none _ hinc
        by_cases hempty : s.allot.awaiting.isEmpty
        · exact hgo s.allot.awaiting [.coilAnswer] (.inr rfl) le_rfl (.exact h fun a => (hsettle a).trans (if_pos hempty))
        · exact hgo s.allot.awaiting [] (.inl rfl) le_rfl (.exact h fun a => (hsettle a).trans (if_neg hempty))
      | confirmDecrease c =>
        have hconfirm (a : State) : ((s.setTasks (ts ++ rest)).withNoise a).confirmDecrease c =
            if s.allot.awaiting.any (fun e => decide (e.claimant = c)) then
              (((s.setTasks (ts ++ rest)).withNoise a).awaits (unawait s.allot.awaiting c)).settleIncreases
            else (s.setTasks (ts ++ rest)).withNoise a := rfl
        have hsettle (a : State) : (((s.setTasks (ts ++ rest)).withNoise a).awaits (unawait s.allot.awaiting c)).settleIncreases =
            if (unawait s.allot.awaiting c).isEmpty then
              (((s.setTasks (ts ++ rest)).withNoise a).awaits (unawait s.allot.awaiting c)).hand [.coilAnswer]
            else ((s.setTasks (ts ++ rest)).withNoise a).awaits (unawait s.allot.awaiting c) := settleIncreases_none _ hinc
        by_cases hlisted : s.allot.awaiting.any (fun e => decide (e.claimant = c)) = true
        · by_cases hempty : (unawait s.allot.awaiting c).isEmpty
          · exact hgo (unawait s.allot.awaiting c) [.coilAnswer] (.inr rfl) le_rfl (.exact h fun a =>
              ((hconfirm a).trans (if_pos hlisted)).trans ((hsettle a).trans (if_pos hempty)))
          · exact hgo (unawait s.allot.awaiting c) [] (.inl rfl) le_rfl (.exact h fun a =>
              ((hconfirm a).trans (if_pos hlisted)).trans ((hsettle a).trans (if_neg hempty)))
        · exact hgo s.allot.awaiting [] (.inl rfl) le_rfl (.exact h fun a => (hconfirm a).trans (if_neg hlisted))
      | _ => exact absurd hhere (Nat.lt_irrefl 0)

/-! ## The backlight -/

/-- Whether a LIGHT can be sent. -/
def LinkState.lights (l : LinkState) : Bool := l == .ready || l == .quiesced

/-- The backlight level follows its grant, and what becomes of the LIGHT (R170). -/
theorem Leads.backlightGrant {rest : List Task} (h : s.tasks = .backlightGrant :: rest) :
    ∃ l ts, (ts = [] ∨ ts = [.confirmDecrease .backlight]) ∧ (s.link.state.lights = false → l = s.link) ∧
      Leads q 0 1 s
        { s with link := l, allot := { s.allot with level := s.allot.grant.backlight / 150 }, tasks := ts ++ rest } := by
  by_cases hlevel : s.allot.grant.backlight / 150 = s.allot.level
  · refine ⟨s.link, [], .inl rfl, fun _ => rfl, .exact h fun a => (if_pos hlevel).trans ?_⟩
    rw [hlevel]
    rfl
  have hgrant (a : State) : doTask .backlightGrant ((s.setTasks rest).withNoise a) =
      State.offerPacket { (s.setTasks rest).withNoise a with allot := { s.allot with level := s.allot.grant.backlight / 150 } }
        (.light (s.allot.grant.backlight / 150)) := if_neg hlevel
  by_cases hopen : s.link.capBacklight = true ∧ s.link.state.allows (.light (s.allot.grant.backlight / 150)) = true
  · refine ⟨s.link.offered s.sensor.period (.light (s.allot.grant.backlight / 150)), [], .inl rfl,
      fun hdark => absurd (hopen.2.symm.trans hdark) (by decide), .exact h fun a => ?_⟩
    rw [hgrant a, offerLight_eq]
    exact if_pos hopen
  · refine ⟨s.link, [.confirmDecrease .backlight], .inr rfl, fun _ => rfl, .exact h fun a => ?_⟩
    rw [hgrant a, offerLight_eq]
    exact if_neg hopen

/-- The demand of the wished level (R145). -/
def State.wished (s : State) : Nat := if s.link.capBacklight then 150 * s.attach.wish else 0

/-- Another demand of the backlight moves its own target alone (R166). -/
theorem targets_backlight (b : Nat) (d : Allotments) (x : Nat) :
    targets b { d with backlight := x } = { targets b d with backlight := (targets b { d with backlight := x }).backlight } := rfl

/-- The grants are those of the demands, nothing is on its way, and no release is in progress. -/
structure Rested (s : State) : Prop where
  grant : s.allot.grant = targets s.allot.budget s.allot.demand
  increases : s.allot.increases = noIncreases
  awaiting : s.allot.awaiting = []
  phase : s.attach.phase = none
  level : s.allot.level = s.allot.grant.backlight / 150

theorem Rested.of (h : GrantsWithinTargets s) (hinc : s.allot.increases = noIncreases) (hawaiting : s.allot.awaiting = [])
    (hphase : s.attach.phase = none) (hlevel : s.allot.level = s.allot.grant.backlight / 150) : Rested s := by
  obtain ⟨-, hraised, -⟩ := h
  rw [hinc] at hraised
  exact ⟨hraised, hinc, hawaiting, hphase, hlevel⟩

/-- What a restatement of the backlight's demand leaves of the allotment unit. -/
structure Restated (s : State) (A : AllotUnit) : Prop where
  demand : A.demand = { s.allot.demand with backlight := s.wished }
  grant : A.grant = targets s.allot.budget { s.allot.demand with backlight := s.wished }
  level : A.level = A.grant.backlight / 150
  increases : A.increases = noIncreases

theorem Leads.backlightLast {ts rest : List Task} (h : s.tasks = .backlightGrant :: (ts ++ rest)) (hts : ∀ x ∈ ts, 0 < x.settleWeight)
    (hinc : s.allot.increases = noIncreases) (hphase : s.attach.phase = none) :
    ∃ k ≤ settleWeights ts + 3, ∃ l W, (s.link.state.lights = false → l = s.link) ∧ Leads q 0 k s
      { s with link := l, allot := { s.allot with level := s.allot.grant.backlight / 150, awaiting := W }, tasks := rest } := by
  obtain ⟨l, us, hus, hdark, hgrant⟩ := Leads.backlightGrant (q := q) h
  obtain ⟨k, hk, W, hsettling⟩ := Leads.settling (q := q)
    (s := { s with link := l, allot := { s.allot with level := s.allot.grant.backlight / 150 }, tasks := us ++ (ts ++ rest) })
    (ts := us ++ ts) (rest := rest) (List.append_assoc us ts rest).symm (fun x hx => by
      rcases List.mem_append.mp hx with hx | hx
      · rcases hus with rfl | rfl
        · cases hx
        · rw [List.mem_singleton.mp hx]
          exact Nat.two_pos
      · exact hts x hx) hinc hphase
  have hweights : settleWeights (us ++ ts) ≤ 2 + settleWeights ts := by
    rcases hus with rfl | rfl
    · exact Nat.le_add_left _ 2
    · exact Nat.le_refl _
  exact ⟨1 + k, by omega, l, W, hdark, hgrant.next hsettling⟩

/-- A demand of the backlight that is stated anew, where no other grant is to move. -/
theorem Leads.restateBacklight {rest : List Task} (h : s.tasks = .stateBacklight :: rest)
    (hsame : s.allot.demand.backlight ≠ s.wished) (hawaiting : s.allot.awaiting = []) (hphase : s.attach.phase = none)
    (hlevel : s.allot.level = s.allot.grant.backlight / 150)
    (hothers : targets s.allot.budget { s.allot.demand with backlight := s.wished } =
      { s.allot.grant with backlight := (targets s.allot.budget { s.allot.demand with backlight := s.wished }).backlight }) :
    ∃ k ≤ 9, ∃ l A, (s.link.state.lights = false → l = s.link) ∧
      Leads q 0 k s { s with link := l, allot := A, tasks := rest } ∧ Restated s A := by
  obtain ⟨x, hx⟩ : ∃ x, x = (s.setTasks rest).setDemand fun a => { a with backlight := s.wished } := ⟨_, rfl⟩
  obtain ⟨T, hT⟩ : ∃ T, T = targets s.allot.budget { s.allot.demand with backlight := s.wished } := ⟨_, rfl⟩
  have hxgrant : x.allot.grant = s.allot.grant := by rw [hx]; rfl
  have htarget : x.target = T := by
    rw [hx, hT]
    rfl
  have hothers : T = { s.allot.grant with backlight := T.backlight } := by
    rw [hT]
    exact hothers
  have hstated : Leads q 0 1 s x.recomputed := by
    rw [hx]
    exact .recompute h fun a => if_neg hsame
  have htasks (hother : s.allot.grant.backlight ≠ T.backlight) : grantTasks x.allot.grant x.target = [.backlightGrant] := by
    rw [htarget, hxgrant, hothers]
    simp [grantTasks, hother]
  have hxdemand : x.allot.demand = { s.allot.demand with backlight := s.wished } := by rw [hx]; rfl
  have hxlink (y : AllotUnit) (l : LinkUnit) : ({ x with link := l, allot := y, tasks := rest } : State) =
      { s with link := l, allot := y, tasks := rest } := by
    rw [hx]
    rfl
  rcases Nat.lt_trichotomy s.allot.grant.backlight T.backlight with hrise | hstill | hfall
  · have hlowered : lowered x.allot.grant x.target = x.allot.grant := by
      rw [htarget, hxgrant]
      refine lowered_of_le _ _ ?_
      rw [hothers]
      exact ⟨le_rfl, le_rfl, le_rfl, Nat.le_of_lt hrise⟩
    have hrising := Leads.recomputeRising (q := q) x hlowered (by rw [hx]; exact hawaiting)
    rw [htasks (Nat.ne_of_lt hrise), htarget] at hrising
    obtain ⟨k, hk, l, W, hdark, hlast⟩ := Leads.backlightLast (q := q)
      (s := State.hand { x with allot := x.granted T noIncreases } [.backlightGrant, .coilAnswer, .coilAnswer])
      (ts := [.coilAnswer, .coilAnswer]) (rest := rest) (by rw [hx]; rfl) (by simp [Task.settleWeight]) rfl (by rw [hx]; exact hphase)
    have hk' : k ≤ 5 := hk
    refine ⟨1 + 1 + k, by omega, l, { x.granted T noIncreases with level := T.backlight / 150, awaiting := W },
      fun hclosed => ?_, ?_, hxdemand, hT, rfl, rfl⟩
    · rw [hdark (by rw [hx]; exact hclosed), hx]
      rfl
    rw [← hxlink]
    exact (hstated.next hrising).next hlast
  · have hTgrant : T = s.allot.grant := by rw [hothers, ← hstill]
    have hlowered : lowered x.allot.grant x.target = x.allot.grant := by
      rw [htarget, hxgrant, hTgrant]
      exact lowered_of_le _ _ ⟨le_rfl, le_rfl, le_rfl, le_rfl⟩
    have hrising := recomputed_rising x hlowered (by rw [hx]; exact hawaiting)
    have hnone : increasesOf x.allot.grant x.target = noIncreases := by
      rw [htarget, hxgrant, hTgrant]
      simp [increasesOf, increaseOf, noIncreases]
    rw [hnone] at hrising
    rw [hrising] at hstated
    obtain ⟨k, hk, W, hlast⟩ := Leads.settling (q := q)
      (s := State.hand { x with allot := { x.allot with increases := noIncreases } } [.settleIncreases, .coilAnswer])
      (ts := [.settleIncreases, .coilAnswer]) (rest := rest) (by rw [hx]; rfl) (by simp [Task.settleWeight]) rfl (by rw [hx]; exact hphase)
    have hk' : k ≤ 3 := hk
    refine ⟨1 + k, by omega, x.link, { x.allot with increases := noIncreases, awaiting := W }, fun _ => by rw [hx]; rfl, ?_, hxdemand, ?_, ?_, rfl⟩
    · rw [← hxlink]
      exact hstated.next hlast
    · show x.allot.grant = _
      rw [hxgrant, ← hT, hTgrant]
    · show x.allot.level = x.allot.grant.backlight / 150
      rw [hx]
      exact hlevel
  · have hlowered : lowered x.allot.grant x.target = x.target := by
      rw [htarget, hxgrant, hothers]
      simp [lowered, Nat.le_of_lt hfall]
    have hfalling := recomputed_falling x hlowered
    rw [htasks (Nat.ne_of_gt hfall), htarget] at hfalling
    obtain ⟨W₀, hW₀⟩ : ∃ W, W = awaitingAfter x.allot.awaiting x.allot.grant T (x.vbaseOn && !x.vbaseWith T) (x.after 100) := ⟨_, rfl⟩
    rw [← hW₀] at hfalling
    rw [hfalling] at hstated
    obtain ⟨k, hk, l, W, hdark, hlast⟩ := Leads.backlightLast (q := q)
      (s := State.hand { x with allot := { x.granted T noIncreases with awaiting := W₀ } } [.backlightGrant, .settleIncreases, .coilAnswer])
      (ts := [.settleIncreases, .coilAnswer]) (rest := rest) (by rw [hx]; rfl) (by simp [Task.settleWeight]) rfl (by rw [hx]; exact hphase)
    have hk' : k ≤ 6 := hk
    refine ⟨1 + k, by omega, l, { x.granted T noIncreases with level := T.backlight / 150, awaiting := W },
      fun hclosed => ?_, ?_, hxdemand, hT, rfl, rfl⟩
    · rw [hdark (by rw [hx]; exact hclosed), hx]
      rfl
    rw [← hxlink]
    exact hstated.next hlast

theorem Leads.stateBacklight {rest : List Task} (h : s.tasks = .stateBacklight :: rest) (hr : Rested s) :
    ∃ k ≤ 9, ∃ l A, Leads q 0 k s { s with link := l, allot := A, tasks := rest } ∧ Restated s A := by
  obtain ⟨hgrant, hinc, hawaiting, hphase, hlevel⟩ := hr
  by_cases hsame : s.allot.demand.backlight = s.wished
  · have hdemand : s.allot.demand = { s.allot.demand with backlight := s.wished } := by rw [← hsame]
    refine ⟨1, by decide, s.link, s.allot, .exact h fun a => if_pos hsame, hdemand, ?_, hlevel, hinc⟩
    rw [← hdemand]
    exact hgrant
  obtain ⟨k, hk, l, A, -, hleads, hrestated⟩ := Leads.restateBacklight (q := q) h hsame hawaiting hphase hlevel (by
    rw [hgrant]
    exact targets_backlight ..)
  exact ⟨k, hk, l, A, hleads, hrestated⟩

end Sys2Proof.Machine
end

section
/-! The requests SET_BACKLIGHT (R145, R166, R170) and SET_POWER_SOURCE (R163, R164). -/

namespace Sys2Proof.Machine

set_option Elab.async false

variable {q : Bool} {L M : BitVec 10} {s t u v w e : State}

/-! ## SET_BACKLIGHT -/

theorem exec_setBacklight_request (s : State) (n : Fin 32) (tag : Half) (level : Word) :
    exec (.setBacklight n tag level) s = takeEvent s fun u => u.makeRequest n .setBacklight tag [level] := by rfl

theorem serve_setBacklight (s : State) (hm : MemoryCanonical s) (n : Fin 32) (tag : Half) (level : Word) :
    (s.taken n .setBacklight tag [level]).serve n .setBacklight = (s.taken n .setBacklight tag [level]).setBacklight level.toNat := by
  unfold State.serve
  dsimp only
  rw [taken_param s hm n .setBacklight tag [level] (by simp) 0 (by simp)]
  simp only [List.getElem_cons_zero]

theorem setBacklight_bad (s : State) (l : Nat) (h : 3 < l) : s.setBacklight l = s.finishUnit .base .badParameter 0 [] := if_pos h

/-- A state with another wish. -/
def State.wishing (s : State) (l : Nat) : State := { s with attach := { s.attach with wish := l } }

theorem setBacklight_wish (s : State) (l : Nat) (h : ¬ 3 < l) :
    s.setBacklight l = (s.wishing l).hand [.stateBacklight, .finishBacklight] := if_neg h

/-- The target of the backlight is no more than its demand. -/
theorem targets_backlight_le (b : Nat) (d : Allotments) : (targets b d).backlight ≤ d.backlight := by
  unfold targets backlightTarget
  dsimp only
  split_ifs <;> omega

theorem wished_le (s : State) (l : Nat) (h : ¬ 3 < l) : (s.wishing l).wished ≤ 450 := by
  unfold State.wished State.wishing
  dsimp only
  split <;> omega

theorem stateBacklight_held (s : State) (h : s.allot.demand.backlight = s.wished) : s.stateBacklight = s := if_pos h

section
variable {n : Fin 32} {tag : Half} {level : Word} (hs : s.sound) (h : s.takesAtOnce n .base) (hlevel : ¬ 3 < level.toNat)
include hs h hlevel

theorem exec_backlightWish :
    ∃ t, exec (.setBacklight n tag level) s = .next t ∧ t.attach.wish = level.toNat := by
  obtain ⟨v, hv⟩ : ∃ v, v = s.taken n .setBacklight tag [level] := ⟨_, rfl⟩
  have hserve := (serve_setBacklight s hs.2 n tag level).trans (setBacklight_wish _ _ hlevel)
  rw [← hv] at hserve
  obtain ⟨t, hnext, hends⟩ := request_ends (k := 0) (u := (v.wishing level.toNat).hand [.stateBacklight, .finishBacklight])
    (r := .setBacklight) (tag := tag) (ps := [level]) hs h (by rw [← hv, hserve]; exact .refl _)
  have htasks : v.tasks = [.considerQueue] ∧ v.dispatch.queue = [] := by
    rw [hv]
    simp only [State.taken, and_self]
  have hkept := hends.keptUnits (by
    show (Task.stateBacklight :: .finishBacklight :: v.tasks).all Task.calm = true
    rw [htasks.1]
    rfl) htasks.2
  simp only [State.keptUnits, AttachUnit.kept, Prod.mk.injEq] at hkept
  obtain ⟨-, -, -, -, -, ⟨-, hwish⟩, -⟩ := hkept
  exact ⟨t, hnext, hwish⟩

theorem exec_backlightHeld (hdemand : s.allot.demand.backlight = (s.wishing level.toNat).wished) :
    ∃ t, exec (.setBacklight n tag level) s = .next t ∧ (s.wishing level.toNat).slotAnswered t n .ok 0 ∧
      t.resultWord n 0 = (word s.allot.level).toNat := by
  obtain ⟨v, hv⟩ : ∃ v, v = State.taken (s.wishing level.toNat) n .setBacklight tag [level] := ⟨_, rfl⟩
  have hallot : v.allot = s.allot := by
    rw [hv]
    simp only [State.taken, State.wishing]
  have hwished : v.wished = (s.wishing level.toNat).wished := by
    rw [hv]
    simp only [State.wished, State.taken]
    rfl
  have hserve : (s.taken n .setBacklight tag [level]).serve n .setBacklight = v.hand [.stateBacklight, .finishBacklight] := by
    rw [(serve_setBacklight s hs.2 n tag level).trans (setBacklight_wish _ _ hlevel), hv]
    simp only [State.taken, State.wishing, State.hand, State.setTasks]
  have hcarried : Carried 2 ((s.taken n .setBacklight tag [level]).serve n .setBacklight)
      (v.finishUnit .base .ok 0 [word v.allot.level, word v.grantedLevel]) := by
    rw [hserve]
    have hidle : Carried 1 (v.hand [.stateBacklight, .finishBacklight]) (v.hand [.finishBacklight]) :=
      .idle rfl (stateBacklight_held _ (by
        show v.allot.demand.backlight = v.wished
        rw [hallot, hwished, hdemand]))
    exact hidle.trans (.handed v .finishBacklight [] rfl)
  rw [hv] at hcarried
  obtain ⟨t, hnext, hanswered, hwords⟩ := exec_answeredAfter (b := s.wishing level.toNat) hs h hcarried (by decide)
  refine ⟨t, hnext, hanswered, (hwords 0 (by simp)).trans ?_⟩
  rw [← hv, ← hallot]
  rfl

theorem exec_backlightRestated (hr : Rested s) :
    ∃ t, exec (.setBacklight n tag level) s = .next t ∧ t.answered n .ok 0 ∧ t.attach = { s.attach with wish := level.toNat } ∧
      t.allot.demand = { s.allot.demand with backlight := (s.wishing level.toNat).wished } ∧
      t.allot.grant = targets s.allot.budget t.allot.demand ∧ t.allot.level = t.allot.grant.backlight / 150 ∧
      t.resultWord n 0 = t.allot.level ∧ t.resultWord n 1 = t.allot.level := by
  obtain ⟨u, hu⟩ : ∃ u, u = State.hand ((s.claimed n .setBacklight).wishing level.toNat) [.stateBacklight, .finishBacklight] := ⟨_, rfl⟩
  have hrested : Rested u := by
    obtain ⟨hgrant, hinc, hawaiting, hphase, hshown⟩ := hr
    rw [hu]
    exact ⟨hgrant, hinc, hawaiting, hphase, hshown⟩
  obtain ⟨k, hk, l, A, hleads, hdemand, hgrant, hAlevel, hinc⟩ := Leads.stateBacklight (q := false) (s := u)
    (rest := [.finishBacklight, .considerQueue]) (by rw [hu]; rfl) hrested
  have hwished : u.wished = (s.wishing level.toNat).wished := by
    rw [hu]
    rfl
  rw [hwished] at hdemand hgrant
  have hsmall : A.level < 2 ^ 32 := by
    have hle := targets_backlight_le u.allot.budget { u.allot.demand with backlight := (s.wishing level.toNat).wished }
    have hwish := wished_le s level.toNat hlevel
    rw [← hgrant] at hle
    change A.grant.backlight ≤ (s.wishing level.toNat).wished at hle
    rw [hAlevel]
    omega
  obtain ⟨t, hnext, hanswer⟩ := exec_answeredLeads (f := fun s => s.setBacklight level.toNat) (x := .finishBacklight) (words := [word A.level, word A.level])
    (code := .ok) (detail := 0) hs h (serve_setBacklight s hs.2 n tag level) hleads
    (fun a => .of_eq ((setBacklight_wish _ _ hlevel).trans (by rw [hu]; rfl))) rfl (by rw [hu]; rfl) (fun a => by
      show State.finishBacklight _ = _
      unfold State.finishBacklight State.grantedLevel
      simp only [State.withNoise, State.setTasks, hinc, hAlevel]
      rfl) (by decide) (by simp) (by simp) (by omega)
  have hframe := hanswer.frame
  have hallot := congrArg State.allot hframe
  have hattach := congrArg State.attach hframe
  change t.allot = A at hallot
  rw [hu] at hattach
  refine ⟨t, hnext, hanswer.answered, hattach, ?_⟩
  rw [hallot]
  refine ⟨?_, ?_, hAlevel, ?_, ?_⟩
  · rw [hdemand, hu]
    rfl
  · rw [hgrant, hdemand, hu]
    rfl
  · exact (hanswer.shown 0 (by simp)).trans (word_toNat _ hsmall)
  · exact (hanswer.shown 1 (by simp)).trans (word_toNat _ hsmall)

end

theorem setBacklight_request (s : State) (n : Fin 32) (tag : Half) (level : Word) (hs : s.sound) (h : s.takesAtOnce n .base) :
    ∃ t, exec (.setBacklight n tag level) s = .next t ∧
      (3 < level.toNat → s.slotAnswered t n .badParameter 0) ∧
      (level.toNat ≤ 3 →
        let d := if s.link.capBacklight then 150 * level.toNat else 0
        t.attach.wish = level.toNat ∧
        (s.allot.demand.backlight = d →
          State.slotAnswered { s with attach := { s.attach with wish := level.toNat } } t n .ok 0 ∧
            t.resultWord n 0 = (word s.allot.level).toNat) ∧
        (GrantsWithinTargets s → s.allot.increases = noIncreases → s.allot.awaiting = [] → s.attach.phase = none →
          s.allot.level = s.allot.grant.backlight / 150 →
          t.answered n .ok 0 ∧ t.attach = { s.attach with wish := level.toNat } ∧
          t.allot.demand = { s.allot.demand with backlight := d } ∧
          t.allot.grant = targets s.allot.budget t.allot.demand ∧ t.allot.level = t.allot.grant.backlight / 150 ∧
          t.resultWord n 0 = t.allot.level ∧ t.resultWord n 1 = t.allot.level)) := by
  by_cases hlevel : 3 < level.toNat
  · have hserve := (serve_setBacklight s hs.2 n tag level).trans (setBacklight_bad _ _ hlevel)
    obtain ⟨hnext, hanswered, -⟩ := exec_answeredFrom hs h hserve (by decide)
    exact ⟨_, hnext, fun _ => hanswered, fun hle => absurd hlevel (Nat.not_lt.mpr hle)⟩
  · obtain ⟨t, hnext, hwish⟩ := exec_backlightWish (tag := tag) hs h hlevel
    refine ⟨t, hnext, fun hmore => absurd hmore hlevel, fun _ => ⟨hwish, fun hdemand => ?_, fun hwithin hinc hawaiting hphase hshown => ?_⟩⟩
    · obtain ⟨t', hnext', hanswered⟩ := exec_backlightHeld (tag := tag) hs h hlevel hdemand
      obtain rfl := Host.Outcome.next.inj (hnext.symm.trans hnext')
      exact hanswered
    · obtain ⟨t', hnext', hanswered⟩ := exec_backlightRestated (tag := tag) hs h hlevel (.of hwithin hinc hawaiting hphase hshown)
      obtain rfl := Host.Outcome.next.inj (hnext.symm.trans hnext')
      exact hanswered

/-! ## SET_POWER_SOURCE -/

theorem exec_setPowerSource_request (s : State) (n : Fin 32) (tag : Half) (code : Word) :
    exec (.setPowerSource n tag code) s = takeEvent s fun u => u.makeRequest n .setPowerSource tag [code] := by rfl

theorem serve_setPowerSource (s : State) (hm : MemoryCanonical s) (n : Fin 32) (tag : Half) (code : Word) :
    (s.taken n .setPowerSource tag [code]).serve n .setPowerSource = (s.taken n .setPowerSource tag [code]).setSource code.toNat := by
  unfold State.serve
  dsimp only
  rw [taken_param s hm n .setPowerSource tag [code] (by simp) 0 (by simp)]
  simp only [List.getElem_cons_zero]

theorem sourceOfCode_none (c : Nat) (h : 2 < c) : PowerSource.ofCode c = none := by
  unfold PowerSource.ofCode
  split
  · omega
  · omega
  · omega
  · rfl

theorem sourceOfCode_code (p : PowerSource) : PowerSource.ofCode p.code = some p := by cases p <;> rfl

theorem setSource_bad (s : State) (c : Nat) (h : 2 < c) : s.setSource c = s.finishUnit .power .badParameter 0 [] := by
  unfold State.setSource
  rw [sourceOfCode_none c h]

/-- A state with another power source. -/
def State.sourced (s : State) (p : PowerSource) : State := { s with allot := { s.allot with source := p } }

theorem setSource_code (s : State) (p : PowerSource) :
    s.setSource p.code = ((s.sourced p).touchWhen (p ≠ s.allot.source)).hand [.selectBudget 0, .finishSource s.allot.source] := by
  unfold State.setSource
  rw [sourceOfCode_code]
  rfl

theorem sourceCode_lt (p : PowerSource) : p.code < 2 ^ 32 := by cases p <;> decide

section
variable {n : Fin 32} {tag : Half} {code : Word} {p : PowerSource} (hs : s.sound) (h : s.takesAtOnce n .power)
  (hcode : code.toNat = p.code)
include hs h hcode

theorem exec_sourceTaken : ∃ t, exec (.setPowerSource n tag code) s = .next t ∧ t.allot.source = p := by
  obtain ⟨v, hv⟩ : ∃ v, v = s.taken n .setPowerSource tag [code] := ⟨_, rfl⟩
  have hserve := serve_setPowerSource s hs.2 n tag code
  rw [hcode, setSource_code, ← hv] at hserve
  have htasks : v.tasks = [.considerQueue] ∧ v.dispatch.queue = [] := by
    rw [hv]
    simp only [State.taken, and_self]
  have htouch := (Becomes.touchWhen (q := false) (v.sourced p) (p ≠ v.allot.source)).hand
    [.selectBudget 0, .finishSource v.allot.source]
  have hframe := htouch.frame
  generalize State.hand _ _ = x at hserve hframe
  obtain ⟨t, hnext, hends⟩ := request_ends (k := 0) (u := x) (r := .setPowerSource) (tag := tag) (ps := [code]) hs h
    (by rw [← hv, hserve]; exact .refl _)
  have hkept := hends.keptUnits (by
    rw [hframe]
    show (Task.selectBudget 0 :: .finishSource v.allot.source :: v.tasks).all Task.calm = true
    rw [htasks.1]
    rfl) (by rw [hframe]; exact htasks.2)
  rw [hframe] at hkept
  simp only [State.keptUnits, AllotUnit.kept, Prod.mk.injEq] at hkept
  obtain ⟨-, -, -, -, -, -, -, ⟨hsource, -⟩, -⟩ := hkept
  exact ⟨t, hnext, hsource⟩

theorem exec_sourceSameBudget (hbudget : (s.sourced p).selectedBudget = s.allot.budget) :
    ∃ t, exec (.setPowerSource n tag code) s = .next t ∧ (s.sourced p).slotAnswered t n .ok 0 ∧
      t.resultWord n 0 = (word s.allot.budget).toNat ∧ t.resultWord n 1 = s.allot.source.code := by
  obtain ⟨b, hb⟩ : ∃ b, b = (s.sourced p).touchWhen (p ≠ s.allot.source) := ⟨_, rfl⟩
  have hframe : b = (s.sourced p).withNoise b := by
    rw [hb]
    exact (Becomes.touchWhen (q := false) _ _).frame
  have htouched : ∃ x, b.port = { s.port with boardTouched := x } ∧ b.mem = s.mem ∧ b.journal = s.journal := by
    rw [hb]
    unfold State.touchWhen
    split
    · exact ⟨true, rfl, rfl, rfl⟩
    · exact ⟨s.port.boardTouched, rfl, rfl, rfl⟩
  obtain ⟨x, hport, hmem, hjournal⟩ := htouched
  obtain ⟨v, hv⟩ : ∃ v, v = State.taken b n .setPowerSource tag [code] := ⟨_, rfl⟩
  have hallot : v.allot = (s.sourced p).allot := by
    rw [hv]
    simp only [State.taken]
    rw [hframe]
    rfl
  have hselected : v.selectedBudget = (s.sourced p).selectedBudget := by
    rw [hv]
    simp only [State.selectedBudget, State.taken]
    rw [hframe]
    rfl
  have hserve : (s.taken n .setPowerSource tag [code]).serve n .setPowerSource = v.hand [.selectBudget 0, .finishSource s.allot.source] := by
    have hserved := serve_setPowerSource s hs.2 n tag code
    rw [hcode, setSource_code] at hserved
    have hsource : (s.taken n .setPowerSource tag [code]).allot.source = s.allot.source := by simp only [State.taken]
    rw [hserved, hsource, hv, hb]
    unfold State.touchWhen
    by_cases hchanged : p ≠ s.allot.source
    · rw [if_pos hchanged, if_pos hchanged, ← taken_touchBoard]
      simp only [State.sourced, State.taken]
    · rw [if_neg hchanged, if_neg hchanged]
      simp only [State.sourced, State.taken]
  have hcarried : Carried 2 ((s.taken n .setPowerSource tag [code]).serve n .setPowerSource)
      (v.finishUnit .power .ok 0 [word v.allot.budget, word s.allot.source.code]) := by
    rw [hserve]
    have hidle : Carried 1 (v.hand [.selectBudget 0, .finishSource s.allot.source]) (v.hand [.finishSource s.allot.source]) := by
      refine .idle rfl (if_pos (hselected.trans (hbudget.trans ?_)))
      show s.allot.budget = v.allot.budget
      rw [hallot]
      rfl
    exact hidle.trans (.handed v (.finishSource s.allot.source) [] rfl)
  rw [hv] at hcarried
  obtain ⟨t, hnext, hanswered, hwords⟩ := exec_answeredAfter (b := b) hs h hcarried (by decide) (hmem := hmem)
    (hdispatch := by rw [hframe]; rfl) (htasks := by rw [hframe]; rfl) (htouched := ⟨x, hport⟩)
  have hplain : ({ b with port := s.port } : State) = s.sourced p := by
    rw [hframe]
    unfold State.withNoise
    rw [hmem, hjournal]
    rfl
  rw [hplain] at hanswered
  refine ⟨t, hnext, hanswered, (hwords 0 (by simp)).trans ?_, (hwords 1 (by simp)).trans (word_toNat _ (sourceCode_lt _))⟩
  show (word (State.taken b n .setPowerSource tag [code]).allot.budget).toNat = _
  rw [← hv, hallot]
  rfl

theorem exec_sourceUndrawn (hn : s.nothingDraws) :
    ∃ t, exec (.setPowerSource n tag code) s = .next t ∧ t.answered n .ok 0 ∧
      t.resultWord n 0 = (word (s.sourced p).selectedBudget).toNat ∧ t.resultWord n 1 = s.allot.source.code ∧
      t.allot = { s.allot with source := p, budget := (s.sourced p).selectedBudget } ∧
      t = { s with mem := t.mem, dispatch := t.dispatch, port := t.port, journal := t.journal, allot := t.allot } := by
  obtain ⟨u, hu⟩ : ∃ u, u = State.hand ((s.claimed n .setPowerSource).sourced p) [.selectBudget 0, .finishSource s.allot.source] :=
    ⟨_, rfl⟩
  obtain ⟨k, hk, hleads⟩ := Leads.selectBudget (s := u) (rest := [.finishSource s.allot.source, .considerQueue])
    (by rw [hu]; rfl) (by rw [hu]; exact hn)
  have hserve : (s.taken n .setPowerSource tag [code]).serve n .setPowerSource = (s.taken n .setPowerSource tag [code]).setSource p.code := by
    rw [serve_setPowerSource s hs.2 n tag code, hcode]
  obtain ⟨t, hnext, hanswer⟩ := exec_answeredLeads (f := fun s => s.setSource p.code) (x := .finishSource s.allot.source)
    (words := [word (s.sourced p).selectedBudget, word s.allot.source.code]) (code := .ok) (detail := 0) hs h
    hserve hleads (fun a => by
      have htouch := (Becomes.touchWhen (q := false) (((s.claimed n .setPowerSource).withNoise a).sourced p)
        (p ≠ s.allot.source)).hand [.selectBudget 0, .finishSource s.allot.source]
      have hset : State.setSource ((s.claimed n .setPowerSource).withNoise a) p.code = _ := setSource_code _ p
      rw [hu]
      show Becomes false 0 (State.setSource _ p.code) _
      rw [hset]
      exact htouch) rfl (by rw [hu]; rfl) (fun a => by
      rw [hu]
      rfl) (by decide) (by simp) (by simp) (by omega)
  have hframe := hanswer.frame
  have hallot := congrArg State.allot hframe
  rw [hu] at hallot hframe
  refine ⟨t, hnext, hanswer.answered, hanswer.shown 0 (by simp),
    (hanswer.shown 1 (by simp)).trans (word_toNat _ (sourceCode_lt _)), hallot, ?_⟩
  rw [hallot]
  exact hframe

end

theorem setPowerSource_request (s : State) (n : Fin 32) (tag : Half) (code : Word) (hs : s.sound) (h : s.takesAtOnce n .power) :
    ∃ t, exec (.setPowerSource n tag code) s = .next t ∧
      (2 < code.toNat → s.slotAnswered t n .badParameter 0) ∧
      ∀ source : PowerSource, code.toNat = source.code →
        let b := State.selectedBudget { s with allot := { s.allot with source := source } }
        t.allot.source = source ∧
        (b = s.allot.budget →
          State.slotAnswered { s with allot := { s.allot with source := source } } t n .ok 0 ∧
            t.resultWord n 0 = (word b).toNat ∧ t.resultWord n 1 = s.allot.source.code) ∧
        (s.nothingDraws →
          t.answered n .ok 0 ∧ t.resultWord n 0 = (word b).toNat ∧ t.resultWord n 1 = s.allot.source.code ∧
            t.allot = { s.allot with source := source, budget := b } ∧
            t = { s with mem := t.mem, dispatch := t.dispatch, port := t.port, journal := t.journal, allot := t.allot }) := by
  by_cases hbad : 2 < code.toNat
  · have hserve := (serve_setPowerSource s hs.2 n tag code).trans (setSource_bad _ _ hbad)
    obtain ⟨hnext, hanswered, -⟩ := exec_answeredFrom hs h hserve (by decide)
    refine ⟨_, hnext, fun _ => hanswered, fun source hcode => ?_⟩
    rw [hcode] at hbad
    cases source <;> exact absurd hbad (by decide)
  · obtain ⟨t, hnext⟩ : ∃ t, exec (.setPowerSource n tag code) s = .next t := ⟨_, rfl⟩
    refine ⟨t, hnext, fun hmore => absurd hmore hbad, fun source hcode => ⟨?_, fun hbudget => ?_, fun hn => ?_⟩⟩
    · obtain ⟨t', hnext', hsource⟩ := exec_sourceTaken (tag := tag) hs h hcode
      obtain rfl := Host.Outcome.next.inj (hnext.symm.trans hnext')
      exact hsource
    · obtain ⟨t', hnext', hanswered, hzero, hone⟩ := exec_sourceSameBudget (tag := tag) hs h hcode hbudget
      obtain rfl := Host.Outcome.next.inj (hnext.symm.trans hnext')
      rw [hbudget]
      exact ⟨hanswered, hzero, hone⟩
    · obtain ⟨t', hnext', hanswered⟩ := exec_sourceUndrawn (tag := tag) hs h hcode hn
      obtain rfl := Host.Outcome.next.inj (hnext.symm.trans hnext')
      exact hanswered

/-- Settles O36: by the parameter, and with the allotment at rest by one restatement of the claim or one selection of the budget. -/
theorem allotmentRequests : Obligations.AllotmentRequests := by
  unfold Obligations.AllotmentRequests
  exact ⟨setBacklight_request, setPowerSource_request⟩

end Sys2Proof.Machine
end

section
/-! HOST_STATE: SLEEP_ENTER (R179) and ON (R181). -/

namespace Sys2Proof.Machine

set_option Elab.async false

variable {q : Bool} {L M N : BitVec 10} {s t u v w e : State}

/-! ## A last hand-on that changes the units and finishes -/

/-- A request whose last hand-on goes on to w and finishes there. -/
theorem exec_answeredLast {n : Fin 32} {r : Request} {tag : Half} {ps : List Word} {code : ResultCode} {detail : Nat}
    {words : List Word} {k : Nat} {x : Task} {f : State → State} (hs : s.sound) (h : s.takesAtOnce n r.servedBy)
    (hserve : (s.taken n r tag ps).serve n r = f (s.taken n r tag ps))
    (hf : ∀ a, Becomes q L (f ((s.claimed n r).withNoise a)) (u.withNoise a)) (hl : Leads q M k u v)
    (hv : v.tasks = [x, .considerQueue])
    (hx : ∀ a, ∃ b, Becomes q N b (w.withNoise a) ∧
      doTask x ((v.setTasks [.considerQueue]).withNoise a) = b.finishUnit r.servedBy code detail words)
    (hw : w.tasks = [.considerQueue] ∧ w.dispatch = (s.claimed n r).dispatch) (hd : detail < 65536)
    (hp : ps.length ≤ 8 := by simp) (hk : k ≤ 97 := by decide) :
    ∃ e, takeEvent s (fun u => u.makeRequest n r tag ps) = .next e ∧ e.answered n code detail ∧
      (∀ i : Fin 4, ∀ h : i.val < words.length, e.resultWord n i = (words[i.val]'h).toNat) ∧
      e = { w with mem := e.mem, port := e.port, journal := e.journal, dispatch := e.dispatch, tasks := e.tasks } ∧
      ∀ i, N.getLsbD i = true → e.port.attnLatch.getLsbD i = true := by
  obtain ⟨hwtasks, hdispatch⟩ := hw
  have hserved := hf (s.taken n r tag ps)
  rw [← taken_claimed, ← hserve] at hserved
  rw [taken_dispatch s n r tag ps] at hdispatch
  obtain ⟨b, hb, hbecomes⟩ := hl ((s.taken n r tag ps).serve n r)
  rw [← hserved.renoised] at hb
  have hbtasks : b.tasks = [x, .considerQueue] := by
    rw [hbecomes.renoised]
    exact hv
  have hbset : b.setTasks [.considerQueue] = (v.setTasks [.considerQueue]).withNoise b := by
    rw [hbecomes.renoised]
    rfl
  obtain ⟨c, hcbecomes, hlast⟩ := hx b
  have hcframe := hcbecomes.renoised
  have hstep : Carried 1 b (c.finishUnit r.servedBy code detail words) := by
    refine Carried.front_eq hbtasks ?_
    rw [hbset]
    exact hlast
  have hcd : c.dispatch = (s.taken n r tag ps).dispatch := by
    rw [hcframe]
    exact hdispatch
  have hfinished : Carried 2 (c.finishUnit r.servedBy code detail words) (c.finishedSlot r.servedBy n code detail words) := by
    refine Carried.finished code detail words ?_ ?_ ?_ ?_
    · unfold State.servingSlot
      rw [hcd]
      exact taken_servingSlot s n r tag ps
    · unfold State.slotState
      rw [hcd]
      exact taken_slotState s n r tag ps
    · rw [hcd]
      rfl
    · rw [hcframe]
      exact hwtasks
  have hcanonical : MemoryCanonical c :=
    hcbecomes.drift.unnoised.canonical ((hserved.drift.unnoised.trans hbecomes.drift.unnoised).canonical (taken_canonical s hs.2 n r tag ps))
  obtain ⟨hanswered, hwords⟩ := finishedSlot_answered c r.servedBy n code detail words hcanonical hd
  refine ⟨(c.finishedSlot r.servedBy n code detail words).closeBoard s,
    exec_request hs h (hb.trans (hstep.trans hfinished)) rfl hp (by omega),
    closeBoard_answered _ _ _ _ _ hanswered, fun i hi => by rw [closeBoard_resultWord, hwords i hi], ?_, fun i hi => ?_⟩
  · rw [closeBoard_frame, hcframe]
    rfl
  · have hlatched := hcbecomes.drift.latched i hi
    rw [closeBoard_frame]
    show (c.port.attnLatch ||| Cause.requestDone.mask).getLsbD i = true
    rw [BitVec.getLsbD_or, hlatched]
    rfl

/-! ## SLEEP_ENTER (R179) -/

theorem exec_sleepEnter_request (s : State) (n : Fin 32) (tag : Half) (mask standby : Word) :
    exec (.sleepEnter n tag mask standby) s = takeEvent s fun u => u.makeRequest n .hostState tag [1, mask, standby] := by rfl

theorem serve_sleepEnter (s : State) (hm : MemoryCanonical s) (n : Fin 32) (tag : Half) (mask standby : Word) :
    (s.taken n .hostState tag [1, mask, standby]).serve n .hostState =
      (s.taken n .hostState tag [1, mask, standby]).enterSleep mask.toNat standby.toNat := by
  unfold State.serve
  dsimp only
  rw [taken_param s hm n .hostState tag [1, mask, standby] (by simp) 0 (by simp),
    taken_param s hm n .hostState tag [1, mask, standby] (by simp) 1 (by simp),
    taken_param s hm n .hostState tag [1, mask, standby] (by simp) 2 (by simp)]
  rfl

theorem enterSleep_badMask (s : State) (mask standby : Nat) (h : 255 < mask) :
    s.enterSleep mask standby = s.finishUnit .sleep .badParameter 1 [] := if_pos h

theorem enterSleep_badStandby (s : State) (mask standby : Nat) (h : ¬ 255 < mask) (h' : 1 < standby) :
    s.enterSleep mask standby = s.finishUnit .sleep .badParameter 2 [] := by
  unfold State.enterSleep
  rw [if_neg h, if_pos h']

/-- The sleep unit as the host enters sleep. -/
def SleepUnit.entered (u : SleepUnit) (mask standby : Nat) : SleepUnit :=
  { u with host := .sleeping, wakeMask := BitVec.ofNat 8 mask, standbyAllowed := standby == 1, wakeReasons := 0, wake := false
           answerTimer := none, gapTimer := none, assertions := 0, idle := .stopped, idleShown := 0xFFFFFFFF, grace := none
           holdAwake := none, advice := .none }

theorem Becomes.dropAdvice (s : State) : Becomes false 0 s.dropAdvice { s with sleep := { s.sleep with advice := .none } } := by
  unfold State.dropAdvice
  dsimp only
  split
  · next h => exact .of_eq (by rw [← h])
  · exact (Becomes.touchBoard _).join (.offerNotice _ _ _ _ _ _)

theorem Becomes.enterSleep (s : State) (mask standby : Nat) (h : ¬ 255 < mask) (h' : ¬ 1 < standby) :
    Becomes false 0 (s.enterSleep mask standby)
      (State.hand { s with sleep := s.sleep.entered mask standby } [.setPower .doze 0, .startDozeTimer, .finish .sleep .ok 0 [word mask]]) := by
  unfold State.enterSleep
  rw [if_neg h, if_neg h']
  dsimp only
  have htouch := Becomes.touchWhen (q := false)
    (s.updSleep fun u => { u with host := .sleeping, wakeMask := BitVec.ofNat 8 mask, standbyAllowed := standby == 1, wakeReasons := 0 })
    (s.hostOn = true ∨ s.sleep.wakeReasons ≠ 0)
  have hstop := (htouch.apply (op := fun s => s.stopWake)
    (g := fun s => { s with sleep := { s.sleep with wake := false, answerTimer := none, gapTimer := none, assertions := 0 } })
    fun w => .refl false _)
  have hidle := hstop.apply (op := fun s => s.setIdle .stopped 0xFFFFFFFF)
    (g := fun s => { s with sleep := { s.sleep with idle := .stopped, idleShown := 0xFFFFFFFF } }) fun w => .setIdle w _ _
  have hgrace := hidle.apply (op := fun s => s.updSleep fun u => { u with grace := none, holdAwake := none })
    (g := fun s => { s with sleep := { s.sleep with grace := none, holdAwake := none } }) fun w => .refl false _
  exact (hgrace.apply (op := fun s => s.dropAdvice) (g := fun s => { s with sleep := { s.sleep with advice := .none } })
    fun w => .dropAdvice w).hand _

section
variable {n : Fin 32} {tag : Half} {mask standby : Word} (hs : s.sound) (h : s.takesAtOnce n .sleep)
  (hmask : ¬ 255 < mask.toNat) (hstandby : ¬ 1 < standby.toNat)
include hs h hmask hstandby

theorem exec_sleepEntered :
    ∃ t, exec (.sleepEnter n tag mask standby) s = .next t ∧ t.sleep.host = .sleeping ∧ t.sleep.wakeMask = mask.setWidth 8 ∧
      t.sleep.standbyAllowed = (standby == 1) ∧ t.sleep.holdAwake = none := by
  obtain ⟨v, hv⟩ : ∃ v, v = s.taken n .hostState tag [1, mask, standby] := ⟨_, rfl⟩
  have hserve := serve_sleepEnter s hs.2 n tag mask standby
  rw [← hv] at hserve
  have hframe := (Becomes.enterSleep v mask.toNat standby.toNat hmask hstandby).frame
  have htasks : v.tasks = [.considerQueue] ∧ v.dispatch.queue = [] := by
    rw [hv]
    simp only [State.taken, and_self]
  generalize v.enterSleep mask.toNat standby.toNat = x at hserve hframe
  obtain ⟨t, hnext, hends⟩ := request_ends (k := 0) (u := x) (r := .hostState) (tag := tag) (ps := [1, mask, standby]) hs h
    (by rw [← hv, hserve]; exact .refl _)
  have hkept := hends.keptUnits (by
    rw [hframe]
    show (Task.setPower .doze 0 :: .startDozeTimer :: .finish .sleep .ok 0 [word mask.toNat] :: v.tasks).all Task.calm = true
    rw [htasks.1]
    rfl) (by rw [hframe]; exact htasks.2)
  rw [hframe] at hkept
  simp only [State.keptUnits, SleepUnit.kept, Prod.mk.injEq] at hkept
  obtain ⟨-, -, -, -, -, -, -, -, ⟨hhost, hwake, hallowed, hhold, -⟩, -⟩ := hkept
  refine ⟨t, hnext, hhost, hwake.trans (BitVec.ofNat_toNat 8 mask), hallowed.trans ?_, hhold⟩
  show (standby.toNat == 1) = (standby == 1)
  rw [Bool.eq_iff_iff, beq_iff_eq, beq_iff_eq, ← BitVec.toNat_inj]
  rfl

theorem exec_sleepUndrawn (hn : s.nothingDraws) (hactive : s.sleep.power = .active) :
    ∃ t, exec (.sleepEnter n tag mask standby) s = .next t ∧ t.answered n .ok 0 ∧ t.resultWord n 0 = mask.toNat ∧
      t.sleep = { s.sleep with
                  host := .sleeping, power := .doze, advice := .none, idle := .stopped, idleShown := 0xFFFFFFFF
                  grace := none, holdAwake := none, wakeMask := mask.setWidth 8, standbyAllowed := standby == 1
                  dozeTimer := if standby = 1 then some (s.after (1000 * s.settings.active.dozeToStandby)) else none
                  wakeReasons := 0, wake := false, answerTimer := none, gapTimer := none, assertions := 0
                  withdrawal := false } ∧
      t.allot = { s.allot with budget := State.selectedBudget { s with sleep := { s.sleep with power := .doze } } } ∧
      t.sensor = { s.sensor with lidSupply := true } ∧
      t = { s with mem := t.mem, dispatch := t.dispatch, port := t.port, journal := t.journal, sleep := t.sleep
                   allot := t.allot, sensor := t.sensor } := by
  obtain ⟨u, hu⟩ : ∃ u, u = State.hand
      { s.claimed n .hostState with sleep := (s.claimed n .hostState).sleep.entered mask.toNat standby.toNat }
      [.setPower .doze 0, .startDozeTimer, .finish .sleep .ok 0 [word mask.toNat]] := ⟨_, rfl⟩
  obtain ⟨x, hx⟩ : ∃ x, x = ({ s.claimed n .hostState with sleep := (s.claimed n .hostState).sleep.entered mask.toNat standby.toNat } : State) :=
    ⟨_, rfl⟩
  have hpower : PowerState.doze ≠ x.sleep.power := by
    rw [hx]
    show PowerState.doze ≠ s.sleep.power
    rw [hactive]
    decide
  have hset : Leads false 0 1 u ((x.repowered .doze).setTasks
      (Machine.powerReaders x.sleep.power 0 ++ [.startDozeTimer, .finish .sleep .ok 0 [word mask.toNat], .considerQueue])) := by
    rw [hu, ← hx]
    refine .front (x := .setPower .doze 0) (rest := [.startDozeTimer, .finish .sleep .ok 0 [word mask.toNat], .considerQueue])
      (by rw [hx]; rfl) fun a => ?_
    exact Becomes.setPower ((x.setTasks [.startDozeTimer, .finish .sleep .ok 0 [word mask.toNat], .considerQueue]).withNoise a) .doze 0 hpower
  obtain ⟨k, hk, hreaders⟩ := Leads.powerReaders (s := x) (after := .doze) (cause := 0)
    (rest := [.startDozeTimer, .finish .sleep .ok 0 [word mask.toNat], .considerQueue]) (by rw [hx]; exact hn) (by decide)
    (fun h => by cases h)
  obtain ⟨y, hy⟩ : ∃ y, y = x.changedPower .doze [.finish .sleep .ok 0 [word mask.toNat], .considerQueue] := ⟨_, rfl⟩
  obtain ⟨d, hd⟩ : ∃ d, d = (if y.sleep.standbyAllowed ∧ y.sleep.power = .doze then y.start (1000 * y.settings.active.dozeToStandby) else none) :=
    ⟨_, rfl⟩
  have hdoze : Leads false 0 1 (x.changedPower .doze [.startDozeTimer, .finish .sleep .ok 0 [word mask.toNat], .considerQueue])
      { y with sleep := { y.sleep with dozeTimer := d } } := by
    rw [hd, hy]
    exact .exact (x := .startDozeTimer) rfl fun a => rfl
  obtain ⟨t, hnext, hanswer⟩ := exec_answeredLeads (f := fun s => s.enterSleep mask.toNat standby.toNat)
    (x := .finish .sleep .ok 0 [word mask.toNat]) (words := [word mask.toNat]) (code := .ok) (detail := 0) hs h
    (serve_sleepEnter s hs.2 n tag mask standby) ((hset.next hreaders).next hdoze)
    (fun a => by
      rw [hu]
      exact Becomes.enterSleep ((s.claimed n .hostState).withNoise a) mask.toNat standby.toNat hmask hstandby)
    (by rw [hy]; rfl) (by rw [hy, hx]; rfl) (fun a => rfl) (by decide) (by simp) (by simp) (by omega)
  have hframe := hanswer.frame
  have hysleep : y.sleep = { x.sleep with power := .doze, withdrawal := false } := by
    rw [hy]
    rfl
  have hyother : y = { x with sleep := y.sleep, allot := y.allot, sensor := y.sensor, tasks := y.tasks } := by
    have hlink : (x.repowered .doze).poweredLink x.sleep.power = x.link := by
      unfold State.poweredLink
      rw [if_neg (fun h => by cases h), if_neg (fun h => by rw [hx] at h; exact absurd (hactive.symm.trans h.1) (by decide))]
      rfl
    have hposture : (x.repowered .doze).poweredPosture = x.posture := by
      unfold State.poweredPosture
      rw [if_neg (fun h => by cases h)]
      rfl
    rw [hy]
    unfold State.changedPower
    rw [hlink, hposture]
    rfl
  have hsensor : y.sensor = { s.sensor with lidSupply := true } := by
    have hpowered : (x.repowered .doze).poweredSensor x.sleep.power = { x.sensor with lidSupply := true } := by
      unfold State.poweredSensor
      rw [if_neg (fun h => by cases h), if_neg (fun h => by rw [hx] at h; exact absurd (hactive.symm.trans h) (by decide))]
      rfl
    rw [hy]
    refine hpowered.trans ?_
    rw [hx]
    rfl
  have hallot : y.allot = { s.allot with budget := State.selectedBudget { s with sleep := { s.sleep with power := .doze } } } := by
    rw [hy, hx]
    rfl
  have hdeadline : d = if standby = 1 then some (s.after (1000 * s.settings.active.dozeToStandby)) else none := by
    have hsettings : y.settings = s.settings ∧ y.now = s.now := by
      rw [hyother, hx]
      exact ⟨rfl, rfl⟩
    have hallowed : y.sleep.standbyAllowed = (standby.toNat == 1) ∧ y.sleep.power = .doze := by
      rw [hysleep, hx]
      exact ⟨rfl, rfl⟩
    have hone : standby.toNat = 1 ↔ standby = 1 := by
      rw [← BitVec.toNat_inj]
      rfl
    rw [hd, hallowed.1, hallowed.2, hsettings.1]
    unfold State.start State.after
    rw [hsettings.2]
    refine if_congr ?_ rfl rfl
    rw [beq_iff_eq, hone]
    exact and_iff_left rfl
  have htsleep := congrArg State.sleep hframe
  have htallot := congrArg State.allot hframe
  have htsensor := congrArg State.sensor hframe
  change t.sleep = { y.sleep with dozeTimer := d } at htsleep
  change t.allot = y.allot at htallot
  change t.sensor = y.sensor at htsensor
  refine ⟨t, hnext, hanswer.answered, (hanswer.shown 0 (by simp)).trans (word_toNat _ (by omega)), ?_, htallot.trans hallot,
    htsensor.trans hsensor, ?_⟩
  · have hwords : BitVec.ofNat 8 mask.toNat = mask.setWidth 8 ∧ (standby.toNat == 1) = (standby == 1) := by
      refine ⟨BitVec.ofNat_toNat 8 mask, ?_⟩
      rw [Bool.eq_iff_iff, beq_iff_eq, beq_iff_eq, ← BitVec.toNat_inj]
      rfl
    rw [htsleep, hdeadline, hysleep, hx, ← hwords.1, ← hwords.2]
    rfl
  · rw [htsleep, htallot, htsensor]
    rw [hyother, hx] at hframe
    exact hframe

end

end Sys2Proof.Machine
end

section
/-! HOST_STATE: ON (R181). -/

namespace Sys2Proof.Machine

set_option Elab.async false

variable {q : Bool} {L M N : BitVec 10} {s t u v w e : State}

/-! ## The end of ON (R181, steps 3 to 7) -/

/-- The sleep unit with WAKE deasserted and the doze-to-standby timer stopped. -/
def SleepUnit.unwoken (u : SleepUnit) : SleepUnit :=
  { u with wake := false, answerTimer := none, gapTimer := none, assertions := 0, dozeTimer := none }

/-- A state with that, and WAKE_UNANSWERED cleared. -/
def State.answeredWake (s : State) : State :=
  { s with sleep := s.sleep.unwoken, settings := s.settings.withFault .wakeUnanswered FaultEntry.deactivated }

/-- A state with its idle timer restarted. -/
def State.idling (s : State) : State :=
  { s with sleep := { s.sleep with idle := s.idleRestarted.1, idleShown := s.idleRestarted.2 } }

theorem answeredWake_fault (s : State) : (s.answeredWake.faultEntry .wakeUnanswered).active = false := by
  show ((s.settings.withFault .wakeUnanswered FaultEntry.deactivated).faults[FaultKind.wakeUnanswered.index]).active = false
  rw [withFault_entry]
  exact deactivated_inactive _

theorem Becomes.answeredWake (s : State) :
    Becomes false 0 (State.reportInactive { s with sleep := s.sleep.unwoken } .wakeUnanswered) s.answeredWake := .reportInactive _ _

section
variable (s : State)

/-- ON with the host already ON finishes after steps 3 and 4. -/
theorem resumeHost_on :
    ∃ b, Becomes false 0 b s.answeredWake ∧ s.resumeHost true = b.finishUnit .sleep .ok 0 [word s.sleep.wakeReasons.toNat] := by
  have hbecomes := Becomes.answeredWake s
  refine ⟨_, hbecomes, ?_⟩
  have hreasons : (State.reportInactive { s with sleep := s.sleep.unwoken } .wakeUnanswered).sleep.wakeReasons = s.sleep.wakeReasons := by
    rw [hbecomes.frame]
    rfl
  rw [← hreasons]
  rfl

/-- ON with the host SLEEPING: the idle timer restarted, and the grace timer for a closed lid. -/
theorem resumeHost_off {op : State → State} (hop : Becomes false N (op (State.restartIdle (State.reportInactive
      { s with sleep := s.sleep.unwoken } .wakeUnanswered))) w) (hreasons : w.sleep.wakeReasons = s.sleep.wakeReasons)
    (hposture : ∀ v : State, v.posture = s.posture → v.settings.active = s.settings.active → v.now = s.now →
      (if v.posture.posture = .closed then v.startGrace else v) = op v) :
    ∃ b, Becomes false N b w ∧ s.resumeHost false = b.finishUnit .sleep .ok 0 [word s.sleep.wakeReasons.toNat] := by
  refine ⟨_, hop, ?_⟩
  have hkept : (State.restartIdle (State.reportInactive { s with sleep := s.sleep.unwoken } .wakeUnanswered)).posture = s.posture ∧
      (State.restartIdle (State.reportInactive { s with sleep := s.sleep.unwoken } .wakeUnanswered)).settings.active = s.settings.active ∧
      (State.restartIdle (State.reportInactive { s with sleep := s.sleep.unwoken } .wakeUnanswered)).now = s.now := by
    have hframe := (Becomes.restartIdle (q := false) (State.reportInactive { s with sleep := s.sleep.unwoken } .wakeUnanswered)).frame
    have hinner := (Becomes.answeredWake s).frame
    generalize State.reportInactive _ _ = x at hframe hinner
    generalize x.restartIdle = y at hframe
    rw [hframe, hinner]
    exact ⟨rfl, rfl, rfl⟩
  obtain ⟨hkposture, hkactive, hknow⟩ := hkept
  have hlast := hposture _ hkposture hkactive hknow
  have hreasons' : (op (State.restartIdle (State.reportInactive { s with sleep := s.sleep.unwoken } .wakeUnanswered))).sleep.wakeReasons =
      s.sleep.wakeReasons := by
    rw [hop.frame]
    exact hreasons
  rw [← hreasons', ← hlast]
  rfl

theorem Becomes.idling : Becomes false 0 (State.restartIdle (State.reportInactive { s with sleep := s.sleep.unwoken } .wakeUnanswered))
    s.answeredWake.idling :=
  (Becomes.answeredWake s).apply (op := fun s => s.restartIdle) (g := fun s => s.idling) fun w => .restartIdle w

/-- A state whose grace timer has started, or expired at once (R181; log 19). -/
def State.gracing (s : State) : State :=
  if s.settings.active.lidCloseGrace = 0 then { s with sleep := { s.sleep with grace := none, advice := .lidClosed } }
  else { s with sleep := { s.sleep with grace := some (s.after s.settings.active.lidCloseGrace) } }

theorem gracing_expired (h : s.settings.active.lidCloseGrace = 0) :
    s.gracing = { s with sleep := { s.sleep with grace := none, advice := .lidClosed } } := if_pos h

theorem gracing_started (h : s.settings.active.lidCloseGrace ≠ 0) :
    s.gracing = { s with sleep := { s.sleep with grace := some (s.after s.settings.active.lidCloseGrace) } } := if_neg h

theorem resumeHost_opened (h : s.posture.posture ≠ .closed) :
    ∃ b, Becomes false 0 b s.answeredWake.idling ∧ s.resumeHost false = b.finishUnit .sleep .ok 0 [word s.sleep.wakeReasons.toNat] :=
  resumeHost_off s (op := id) (.idling s) rfl fun v hv _ _ => if_neg (by rw [hv]; exact h)

theorem resumeHost_grace (h : s.posture.posture = .closed) (hgrace : s.settings.active.lidCloseGrace ≠ 0) :
    ∃ b, Becomes false 0 b s.answeredWake.idling.gracing ∧
      s.resumeHost false = b.finishUnit .sleep .ok 0 [word s.sleep.wakeReasons.toNat] := by
  refine resumeHost_off s (op := fun v => { v with sleep := { v.sleep with grace := some (v.after v.settings.active.lidCloseGrace) } })
    ?_ ?_ fun v hv hactive hnow => ?_
  · rw [gracing_started s.answeredWake.idling hgrace]
    exact (Becomes.idling s).blind
      (f := fun v => { v with sleep := { v.sleep with grace := some (v.after v.settings.active.lidCloseGrace) } })
      ⟨fun _ _ => rfl, fun _ => ⟨rfl, rfl, rfl⟩⟩
  · rw [gracing_started s.answeredWake.idling hgrace]
    rfl
  · rw [if_pos (by rw [hv]; exact h)]
    unfold State.startGrace
    rw [if_neg (by rw [hactive]; exact hgrace)]
    rfl

theorem resumeHost_noGrace (h : s.posture.posture = .closed) (hgrace : s.settings.active.lidCloseGrace = 0) :
    ∃ b, Becomes false Cause.sleepAdvice.mask b s.answeredWake.idling.gracing ∧
      s.resumeHost false = b.finishUnit .sleep .ok 0 [word s.sleep.wakeReasons.toNat] := by
  refine resumeHost_off s (op := fun v => v.graceExpired) ?_ ?_ fun v hv hactive hnow => ?_
  · rw [gracing_expired s.answeredWake.idling hgrace]
    have happlied := (Becomes.idling s).apply (op := fun s => s.graceExpired)
      (g := fun s => { s with sleep := { s.sleep with grace := none, advice := .lidClosed } }) fun w => .graceExpired w
    rwa [show (0 : BitVec 10) ||| Cause.sleepAdvice.mask = Cause.sleepAdvice.mask by simp] at happlied
  · rw [gracing_expired s.answeredWake.idling hgrace]
    rfl
  · rw [if_pos (by rw [hv]; exact h)]
    unfold State.startGrace
    rw [if_pos (by rw [hactive]; exact hgrace)]

/-- What ON leaves at its end, and the causes it latches. -/
def State.resumed (s : State) : State :=
  if s.posture.posture = .closed then s.answeredWake.idling.gracing else s.answeredWake.idling

def State.resumeLatches (s : State) : BitVec 10 :=
  if s.posture.posture = .closed ∧ s.settings.active.lidCloseGrace = 0 then Cause.sleepAdvice.mask else 0

theorem resumeHost_sleeping :
    ∃ b, Becomes false s.resumeLatches b s.resumed ∧ s.resumeHost false = b.finishUnit .sleep .ok 0 [word s.sleep.wakeReasons.toNat] := by
  unfold State.resumed State.resumeLatches
  by_cases hclosed : s.posture.posture = .closed
  · by_cases hgrace : s.settings.active.lidCloseGrace = 0
    · rw [if_pos hclosed, if_pos ⟨hclosed, hgrace⟩]
      exact resumeHost_noGrace s hclosed hgrace
    · rw [if_pos hclosed, if_neg fun h => hgrace h.2]
      exact resumeHost_grace s hclosed hgrace
  · rw [if_neg hclosed, if_neg fun h => hclosed h.1]
    exact resumeHost_opened s hclosed

/-- What ON leaves of the sleep unit. -/
theorem resumed_sleep :
    s.resumed.sleep.power = s.sleep.power ∧ s.resumed.sleep.wake = false ∧ s.resumed.sleep.answerTimer = none ∧
      s.resumed.sleep.gapTimer = none ∧ s.resumed.sleep.assertions = 0 ∧ s.resumed.sleep.dozeTimer = none ∧
      s.resumed.sleep.idle = s.idleRestarted.1 ∧
      (s.posture.posture ≠ .closed → s.resumed.sleep.grace = s.sleep.grace ∧ s.resumed.sleep.advice = s.sleep.advice) ∧
      (s.posture.posture = .closed →
        (s.settings.active.lidCloseGrace ≠ 0 →
          s.resumed.sleep.grace = some (s.after s.settings.active.lidCloseGrace) ∧ s.resumed.sleep.advice = s.sleep.advice) ∧
        (s.settings.active.lidCloseGrace = 0 → s.resumed.sleep.grace = none ∧ s.resumed.sleep.advice = .lidClosed)) := by
  unfold State.resumed
  by_cases hclosed : s.posture.posture = .closed
  · rw [if_pos hclosed]
    by_cases hgrace : s.settings.active.lidCloseGrace = 0
    · rw [gracing_expired s.answeredWake.idling hgrace]
      exact ⟨rfl, rfl, rfl, rfl, rfl, rfl, rfl, fun h => absurd hclosed h, fun _ => ⟨fun h => absurd hgrace h, fun _ => ⟨rfl, rfl⟩⟩⟩
    · rw [gracing_started s.answeredWake.idling hgrace]
      exact ⟨rfl, rfl, rfl, rfl, rfl, rfl, rfl, fun h => absurd hclosed h, fun _ => ⟨fun _ => ⟨rfl, rfl⟩, fun h => absurd h hgrace⟩⟩
  · rw [if_neg hclosed]
    exact ⟨rfl, rfl, rfl, rfl, rfl, rfl, rfl, fun _ => ⟨rfl, rfl⟩, fun h => absurd h hclosed⟩

theorem resumed_frame : s.resumed = { s with sleep := s.resumed.sleep, settings := s.answeredWake.settings } := by
  unfold State.resumed State.gracing
  split
  · split <;> rfl
  · rfl

end

/-! ## ON (R181) -/

theorem exec_hostOn_request (s : State) (n : Fin 32) (tag : Half) :
    exec (.hostOn n tag) s = takeEvent s fun u => u.makeRequest n .hostState tag [0] := by rfl

theorem serve_hostOn (s : State) (hm : MemoryCanonical s) (n : Fin 32) (tag : Half) :
    (s.taken n .hostState tag [0]).serve n .hostState = (s.taken n .hostState tag [0]).turnOn := by
  unfold State.serve
  dsimp only
  rw [taken_param s hm n .hostState tag [0] (by simp) 0 (by simp)]
  rfl

/-- A state with the host ON. -/
def State.hosted (s : State) : State := { s with sleep := { s.sleep with host := .on } }

theorem setPower_active (s : State) (cause : Nat) (h : s.sleep.power = .active) : s.setPower .active cause = s := by
  rw [← h]
  exact setPower_same s cause

theorem idleRestarted_congr (hposture : u.posture = s.posture) (hsettings : u.settings = s.settings) (hnow : u.now = s.now) :
    u.idleRestarted = s.idleRestarted := by
  unfold State.idleRestarted State.idleTimeout State.committedBand State.after
  rw [hposture, hsettings, hnow]

/-- What ON hands on. -/
def State.turnOnActs (s : State) : List Task := if s.hostOn then [.resumeHost true] else [.setPower .active 3, .resumeHost false]

theorem Becomes.turnOn (s : State) : Becomes q 0 s.turnOn (s.hosted.hand s.turnOnActs) := by
  have htouch := (Becomes.touchWhen (q := q) (s.updSleep fun u => { u with host := .on }) (s.hostOn = false)).hand s.turnOnActs
  have hacts : s.turnOn = State.hand ((s.updSleep fun u => { u with host := .on }).touchWhen (s.hostOn = false)) s.turnOnActs := by
    unfold State.turnOn State.turnOnActs
    cases s.hostOn <;> rfl
  rw [hacts]
  exact htouch

section
variable {n : Fin 32} {tag : Half} (hs : s.sound) (h : s.takesAtOnce n .sleep)
include hs h

theorem exec_hostTurnedOn : ∃ t, exec (.hostOn n tag) s = .next t ∧ t.sleep.host = .on := by
  obtain ⟨v, hv⟩ : ∃ v, v = s.taken n .hostState tag [0] := ⟨_, rfl⟩
  have hserve := serve_hostOn s hs.2 n tag
  rw [← hv] at hserve
  have hframe := (Becomes.turnOn (q := false) v).frame
  have htasks : v.tasks = [.considerQueue] ∧ v.dispatch.queue = [] := by
    rw [hv]
    simp only [State.taken, and_self]
  generalize v.turnOn = x at hserve hframe
  obtain ⟨t, hnext, hends⟩ := request_ends (k := 0) (u := x) (r := .hostState) (tag := tag) (ps := [0]) hs h
    (by rw [← hv, hserve]; exact .refl _)
  have hkept := hends.keptUnits (by
    rw [hframe]
    show (v.turnOnActs ++ v.tasks).all Task.calm = true
    rw [htasks.1]
    unfold State.turnOnActs
    split <;> rfl) (by rw [hframe]; exact htasks.2)
  rw [hframe] at hkept
  simp only [State.keptUnits, SleepUnit.kept, Prod.mk.injEq] at hkept
  obtain ⟨-, -, -, -, -, -, -, -, ⟨hhost, -⟩, -⟩ := hkept
  exact ⟨t, hnext, hhost⟩

theorem exec_hostOnAgain (hon : s.sleep.host = .on) :
    ∃ t, exec (.hostOn n tag) s = .next t ∧ t.answered n .ok 0 ∧ t.resultWord n 0 = s.sleep.wakeReasons.toNat ∧
      t.sleep = { s.sleep with
                  wake := false, answerTimer := none, gapTimer := none, assertions := 0, dozeTimer := none } ∧
      (t.faultEntry .wakeUnanswered).active = false := by
  have hacts (a : State) : ((s.claimed n .hostState).withNoise a).turnOnActs = [.resumeHost true] :=
    if_pos ((hostOn_iff s).mpr hon)
  obtain ⟨u, hu⟩ : ∃ u, u = (s.claimed n .hostState).hosted.hand [.resumeHost true] := ⟨_, rfl⟩
  obtain ⟨t, hnext, hanswered, hshown, hframe, -⟩ := exec_answeredLast (f := fun s => s.turnOn) (x := .resumeHost true) (v := u)
    (w := (s.claimed n .hostState).hosted.answeredWake) (words := [word s.sleep.wakeReasons.toNat]) (code := .ok) (detail := 0) hs h
    (serve_hostOn s hs.2 n tag) (fun a => by
      have hturn := Becomes.turnOn (q := false) ((s.claimed n .hostState).withNoise a)
      rw [hacts a] at hturn
      rw [hu]
      exact hturn) (.refl false u) (by rw [hu]; rfl)
    (fun a => by
      rw [hu]
      exact resumeHost_on ((((s.claimed n .hostState).hosted.hand [.resumeHost true]).setTasks [.considerQueue]).withNoise a))
    ⟨rfl, rfl⟩ (by decide)
  have hsleep := congrArg State.sleep hframe
  have hsettings := congrArg State.settings hframe
  refine ⟨t, hnext, hanswered, (hshown 0 (by simp)).trans (word_toNat _ (by omega)), ?_, ?_⟩
  · refine hsleep.trans ?_
    show ({ s.sleep with host := .on, wake := false, answerTimer := none, gapTimer := none, assertions := 0, dozeTimer := none } :
      SleepUnit) = _
    rw [← hon]
  · unfold State.faultEntry
    rw [hsettings]
    exact answeredWake_fault (s.claimed n .hostState).hosted

/-- ON with the host SLEEPING, from the state v in which the power has changed. -/
theorem exec_hostResumed {k : Nat} (hoff : s.sleep.host = .sleeping)
    (hpower : Leads false 0 k ((s.claimed n .hostState).hosted.hand [.setPower .active 3, .resumeHost false]) v)
    (hv : v.tasks = [.resumeHost false, .considerQueue] ∧ v.dispatch = (s.claimed n .hostState).dispatch) (hk : k ≤ 97)
    (hsame : v.posture = s.posture ∧ v.settings = s.settings ∧ v.now = s.now)
    (hsleep : v.sleep.power = .active ∧ v.sleep.wakeReasons = s.sleep.wakeReasons ∧ v.sleep.grace = s.sleep.grace ∧
      v.sleep.advice = s.sleep.advice) :
    ∃ t, exec (.hostOn n tag) s = .next t ∧ t.answered n .ok 0 ∧ t.resultWord n 0 = s.sleep.wakeReasons.toNat ∧
      t.sleep.power = .active ∧ t.sleep.wake = false ∧ t.sleep.answerTimer = none ∧ t.sleep.gapTimer = none ∧
      t.sleep.assertions = 0 ∧ t.sleep.dozeTimer = none ∧ t.sleep.idle = s.idleRestarted.1 ∧
      (t.faultEntry .wakeUnanswered).active = false ∧
      (s.posture.posture ≠ .closed → t.sleep.grace = s.sleep.grace ∧ t.sleep.advice = s.sleep.advice) ∧
      (s.posture.posture = .closed →
        (s.settings.active.lidCloseGrace ≠ 0 →
          t.sleep.grace = some (s.after s.settings.active.lidCloseGrace) ∧ t.sleep.advice = s.sleep.advice) ∧
        (s.settings.active.lidCloseGrace = 0 →
          t.sleep.grace = none ∧ t.sleep.advice = .lidClosed ∧ t.port.attnLatch.getLsbD Cause.sleepAdvice.bit = true)) := by
  obtain ⟨hposture, hsettings, hnow⟩ := hsame
  obtain ⟨hactive, hreasons, hgrace, hadvice⟩ := hsleep
  obtain ⟨x, hx⟩ : ∃ x, x = v.setTasks [.considerQueue] := ⟨_, rfl⟩
  obtain ⟨t, hnext, hanswered, hshown, hframe, hlatched⟩ := exec_answeredLast (f := fun s => s.turnOn) (x := .resumeHost false) (v := v)
    (N := x.resumeLatches) (w := x.resumed) (words := [word s.sleep.wakeReasons.toNat]) (code := .ok) (detail := 0) hs h
    (serve_hostOn s hs.2 n tag) (fun a => by
      have hturn := Becomes.turnOn (q := false) ((s.claimed n .hostState).withNoise a)
      rw [show ((s.claimed n .hostState).withNoise a).turnOnActs = [.setPower .active 3, .resumeHost false] from
        if_neg (by rw [show ((s.claimed n .hostState).withNoise a).hostOn = false from (hostOff_iff s).mpr hoff]; decide)] at hturn
      exact hturn) hpower hv.1
    (fun a => by
      have hresume := resumeHost_sleeping ((v.setTasks [.considerQueue]).withNoise a)
      rw [show ((v.setTasks [.considerQueue]).withNoise a).sleep.wakeReasons = s.sleep.wakeReasons from hreasons] at hresume
      rw [hx]
      have hnoise : State.resumed ((v.setTasks [.considerQueue]).withNoise a) = (State.resumed (v.setTasks [.considerQueue])).withNoise a := by
        unfold State.resumed State.gracing
        simp only [apply_ite (fun s : State => s.withNoise a)]
        rfl
      rw [hnoise] at hresume
      exact hresume)
    (by
      rw [resumed_frame, hx]
      exact ⟨rfl, hv.2⟩) (by decide) (by simp) hk
  obtain ⟨hpow, hwake, hanswer, hgap, hassert, hdoze, hidle, hopen, hclosed⟩ := resumed_sleep x
  have htsleep := congrArg State.sleep hframe
  have htsettings := congrArg State.settings hframe
  change t.sleep = x.resumed.sleep at htsleep
  change t.settings = x.resumed.settings at htsettings
  have hxsame : x.posture = s.posture ∧ x.settings = s.settings ∧ x.now = s.now := by
    rw [hx]
    exact ⟨hposture, hsettings, hnow⟩
  obtain ⟨hxposture, hxsettings, hxnow⟩ := hxsame
  have hxidle := idleRestarted_congr hxposture hxsettings hxnow
  have hxafter (d : Nat) : x.after d = s.after d := by
    unfold State.after
    rw [hxnow]
  have hxsleep : x.sleep = v.sleep := by rw [hx]; rfl
  rw [hxidle] at hidle
  rw [hxposture, hxsleep, hgrace, hadvice] at hopen
  rw [hxposture, hxsettings, hxsleep, hadvice, hxafter] at hclosed
  refine ⟨t, hnext, hanswered, (hshown 0 (by simp)).trans (word_toNat _ (by omega)), ?_⟩
  rw [htsleep]
  refine ⟨hpow.trans ((congrArg SleepUnit.power hxsleep).trans hactive), hwake, hanswer, hgap, hassert, hdoze, hidle, ?_, hopen,
    fun hcl => ⟨(hclosed hcl).1, fun hzero => ?_⟩⟩
  · unfold State.faultEntry
    rw [htsettings, resumed_frame]
    exact answeredWake_fault x
  · obtain ⟨hnone, hlid⟩ := (hclosed hcl).2 hzero
    refine ⟨hnone, hlid, hlatched Cause.sleepAdvice.bit ?_⟩
    unfold State.resumeLatches
    rw [hxposture, hxsettings, if_pos ⟨hcl, hzero⟩]
    decide

theorem exec_hostWoken (hoff : s.sleep.host = .sleeping) (hpower : s.sleep.power = .active ∨ s.nothingDraws) :
    ∃ t, exec (.hostOn n tag) s = .next t ∧ t.answered n .ok 0 ∧ t.resultWord n 0 = s.sleep.wakeReasons.toNat ∧
      t.sleep.power = .active ∧ t.sleep.wake = false ∧ t.sleep.answerTimer = none ∧ t.sleep.gapTimer = none ∧
      t.sleep.assertions = 0 ∧ t.sleep.dozeTimer = none ∧ t.sleep.idle = s.idleRestarted.1 ∧
      (t.faultEntry .wakeUnanswered).active = false ∧
      (s.posture.posture ≠ .closed → t.sleep.grace = s.sleep.grace ∧ t.sleep.advice = s.sleep.advice) ∧
      (s.posture.posture = .closed →
        (s.settings.active.lidCloseGrace ≠ 0 →
          t.sleep.grace = some (s.after s.settings.active.lidCloseGrace) ∧ t.sleep.advice = s.sleep.advice) ∧
        (s.settings.active.lidCloseGrace = 0 →
          t.sleep.grace = none ∧ t.sleep.advice = .lidClosed ∧ t.port.attnLatch.getLsbD Cause.sleepAdvice.bit = true)) := by
  obtain ⟨x, hx⟩ : ∃ x, x = (s.claimed n .hostState).hosted := ⟨_, rfl⟩
  by_cases hactive : s.sleep.power = .active
  · have hsame : Leads false 0 1 ((s.claimed n .hostState).hosted.hand [.setPower .active 3, .resumeHost false])
        (x.setTasks [.resumeHost false, .considerQueue]) := by
      rw [← hx]
      exact .exact (x := .setPower .active 3) (rest := [.resumeHost false, .considerQueue]) (by rw [hx]; rfl) fun a =>
        setPower_active ((x.setTasks [.resumeHost false, .considerQueue]).withNoise a) 3 (by rw [hx]; exact hactive)
    exact exec_hostResumed (tag := tag) hs h hoff hsame (by rw [hx]; exact ⟨rfl, rfl⟩) (by decide) (by rw [hx]; exact ⟨rfl, rfl, rfl⟩)
      (by rw [hx]; exact ⟨hactive, rfl, rfl, rfl⟩)
  · have hn := hpower.resolve_left hactive
    have hset : Leads false 0 1 ((s.claimed n .hostState).hosted.hand [.setPower .active 3, .resumeHost false])
        ((x.repowered .active).setTasks (Machine.powerReaders x.sleep.power 3 ++ [.resumeHost false, .considerQueue])) := by
      rw [← hx]
      refine .front (x := .setPower .active 3) (rest := [.resumeHost false, .considerQueue]) (by rw [hx]; rfl) fun a => ?_
      exact Becomes.setPower ((x.setTasks [.resumeHost false, .considerQueue]).withNoise a) .active 3
        (by rw [hx]; exact fun h => hactive h.symm)
    obtain ⟨k, hk, hreaders⟩ := Leads.powerReaders (s := x) (after := .active) (cause := 3)
      (rest := [.resumeHost false, .considerQueue]) (by rw [hx]; exact hn) (by decide) (fun h => by cases h)
    have hposture : (x.repowered .active).poweredPosture = x.posture := if_neg (fun h => by cases h)
    exact exec_hostResumed (tag := tag) hs h hoff (hset.next hreaders) ⟨rfl, by rw [hx]; rfl⟩ (by omega)
      ⟨hposture.trans (by rw [hx]; rfl), by rw [hx]; rfl, by rw [hx]; rfl⟩ (by rw [hx]; exact ⟨rfl, rfl, rfl, rfl⟩)

end

/-- Settles O40: each action by its words, and by the host's state and the power. -/
theorem hostStateRequest : Obligations.HostStateRequest := by
  unfold Obligations.HostStateRequest
  refine ⟨fun s n tag mask standby hs h => ?_, fun s n tag hs h => ?_⟩
  · by_cases hmask : 255 < mask.toNat
    · obtain ⟨hnext, hanswered, -⟩ := exec_answeredFrom hs h
        ((serve_sleepEnter s hs.2 n tag mask standby).trans (enterSleep_badMask _ _ _ hmask)) (by decide)
      exact ⟨_, hnext, fun _ => hanswered, fun hle => absurd hmask (Nat.not_lt.mpr hle), fun hle => absurd hmask (Nat.not_lt.mpr hle)⟩
    by_cases hstandby : 1 < standby.toNat
    · obtain ⟨hnext, hanswered, -⟩ := exec_answeredFrom hs h
        ((serve_sleepEnter s hs.2 n tag mask standby).trans (enterSleep_badStandby _ _ _ hmask hstandby)) (by decide)
      exact ⟨_, hnext, fun hmore => absurd hmore hmask, fun _ _ => hanswered, fun _ hle => absurd hstandby (Nat.not_lt.mpr hle)⟩
    obtain ⟨t, hnext, hhost, hwake, hallowed, hhold⟩ := exec_sleepEntered (tag := tag) hs h hmask hstandby
    refine ⟨t, hnext, fun hmore => absurd hmore hmask, fun _ hmore => absurd hmore hstandby,
      fun _ _ => ⟨hhost, hwake, hallowed, hhold, fun hn hactive => ?_⟩⟩
    obtain ⟨t', hnext', hanswer⟩ := exec_sleepUndrawn (tag := tag) hs h hmask hstandby hn hactive
    obtain rfl := Host.Outcome.next.inj (hnext.symm.trans hnext')
    exact hanswer
  · obtain ⟨t, hnext, hhost⟩ := exec_hostTurnedOn (tag := tag) hs h
    refine ⟨t, hnext, hhost, fun hon => ?_, fun hoff hpower => ?_⟩
    · obtain ⟨t', hnext', hanswer⟩ := exec_hostOnAgain (tag := tag) hs h hon
      obtain rfl := Host.Outcome.next.inj (hnext.symm.trans hnext')
      exact hanswer
    · obtain ⟨t', hnext', hanswer⟩ := exec_hostWoken (tag := tag) hs h hoff hpower
      obtain rfl := Host.Outcome.next.inj (hnext.symm.trans hnext')
      exact hanswer

end Sys2Proof.Machine
end

section
/-! APPLY_SETTINGS (R28, R30, R82, R163) and LOCK_SETTINGS (R31). -/

namespace Sys2Proof.Machine

set_option Elab.async false

variable {q : Bool} {L M N : BitVec 10} {s t u v w e x c : State}

/-! ## A request finished from a state that its unit left -/

/-- The end of an event in which a request taken in s is finished from the state c. -/
def State.finishedIn (s : State) (n : Fin 32) (r : Request) (code : ResultCode) (detail : Nat) (words : List Word) (c : State) : State :=
  (c.finishedSlot r.servedBy n code detail words).closeBoard s

section
variable {n : Fin 32} {r : Request} {tag : Half} {ps : List Word} {code : ResultCode} {detail k : Nat} {words : List Word}

theorem exec_finishedIn (hs : s.sound) (h : s.takesAtOnce n r.servedBy)
    (hc : Carried k ((s.taken n r tag ps).serve n r) (c.finishUnit r.servedBy code detail words))
    (hdispatch : c.dispatch = (s.taken n r tag ps).dispatch) (htasks : c.tasks = [.considerQueue])
    (hp : ps.length ≤ 8 := by simp) (hk : k ≤ 98 := by decide) :
    takeEvent s (fun u => u.makeRequest n r tag ps) = .next (s.finishedIn n r code detail words c) := by
  refine exec_request hs h (hc.trans (Carried.finished code detail words ?_ ?_ ?_ htasks)) rfl hp (by omega)
  · unfold State.servingSlot
    rw [hdispatch]
    exact taken_servingSlot s n r tag ps
  · unfold State.slotState
    rw [hdispatch]
    exact taken_slotState s n r tag ps
  · rw [hdispatch]
    rfl

theorem finishedIn_frame (htasks : s.tasks = []) :
    s.finishedIn n r code detail words c =
      { c with mem := (s.finishedIn n r code detail words c).mem, dispatch := (s.finishedIn n r code detail words c).dispatch
               port := (s.finishedIn n r code detail words c).port, tasks := s.tasks } := by
  unfold State.finishedIn
  rw [closeBoard_frame, htasks]
  rfl

theorem finishedIn_dispatch (h : s.takesAtOnce n r.servedBy) (hdispatch : c.dispatch = (s.taken n r tag ps).dispatch) :
    (s.finishedIn n r code detail words c).dispatch = { s.dispatch with slots := s.dispatch.slots.set n .done } := by
  obtain ⟨-, -, -, hqueue, hidle⟩ := h
  rw [← finishedSlot_taken_dispatch s n r tag ps code detail words hqueue hidle]
  unfold State.finishedIn
  rw [closeBoard_frame]
  show (c.finishedSlot r.servedBy n code detail words).dispatch = _
  unfold State.finishedSlot
  rw [hdispatch]

theorem finishedIn_answered (hm : MemoryCanonical c) (hd : detail < 65536) :
    (s.finishedIn n r code detail words c).answered n code detail ∧
      ∀ i : Fin 4, ∀ h : i.val < words.length,
        (s.finishedIn n r code detail words c).resultWord n i = (words[i.val]'h).toNat := by
  obtain ⟨hanswered, hwords⟩ := finishedSlot_answered c r.servedBy n code detail words hm hd
  exact ⟨closeBoard_answered _ _ _ _ _ hanswered, fun i hi => (closeBoard_resultWord _ _ _ _).trans (hwords i hi)⟩

theorem finishedIn_memory (hm : MemoryCanonical c) (hw : words.length ≤ 4) (a : Nat) (ha : a < slotBase n ∨ slotBase n + 64 ≤ a) :
    (s.finishedIn n r code detail words c).mem.get a = c.mem.get a := by
  unfold State.finishedIn
  rw [closeBoard_mem, finishedSlot_get_ne c _ n code detail words hm hw a (by omega)]

theorem finishedIn_port (hport : c.port = s.port) (htouched : s.port.boardTouched = false) :
    PortUnit.sameButBoard { s.port with attnLatch := s.port.attnLatch ||| Cause.requestDone.mask }
      (s.finishedIn n r code detail words c).port := by
  refine (closeBoard_sameButBoard (c.finishedSlot r.servedBy n code detail words) s
    { s.port with attnLatch := s.port.attnLatch ||| Cause.requestDone.mask } htouched ⟨false, ?_⟩).1
  show ({ c.port with attnLatch := c.port.attnLatch ||| Cause.requestDone.mask } : PortUnit) = _
  rw [hport, ← htouched]

theorem slotState_done (h : e.dispatch = { s.dispatch with slots := s.dispatch.slots.set n .done }) (k : Fin 32) (hk : k ≠ n) :
    e.slotState k = s.slotState k := by
  unfold State.slotState
  rw [h]
  exact slotState_set_ne _ _ _ _ hk

end

/-! ## The settings block (R28) -/

theorem settingRanges_small : ∀ r ∈ settingRanges, r.highest < 2 ^ 32 := by decide

/-- Every value taken is one word. -/
theorem settle_small (v : List Nat) (hv : v.length = 31) (i : Nat) (hi : i < 31) : (settle v).getD i 0 < 2 ^ 32 := by
  have hbounded (j : Nat) (hj : j < settingRanges.length) : (clampOwn v).getD j 0 < 2 ^ 32 :=
    Nat.lt_of_le_of_lt (clampOwn_bounds v hv j hj).2 (settingRanges_small _ (List.getElem_mem hj))
  by_cases htop : i = penTopUpIndex
  · have htarget := hbounded penTargetIndex (by decide)
    have hown := hbounded penTopUpIndex (by decide)
    rw [htop, settle_topUp v hv]
    split <;> omega
  · rw [settle_getD_ne v i htop]
    exact hbounded i hi

theorem settingWords_congr {m m' : Memory} (h : ∀ a, settingsBase ≤ a → a < settingOffset 31 → m'.get a = m.get a) :
    m'.settingWords = m.settingWords := by
  unfold Memory.settingWords
  refine List.map_congr_left fun i hi => getLE_congr _ _ _ _ fun b hb hbn => h b ?_ ?_
  · unfold settingOffset at hb
    omega
  · have hi' : i < 31 := List.mem_range.mp hi
    unfold settingOffset at hbn ⊢
    omega

theorem getLE_putSettings (m : Memory) (hm : m.wf = true) (i : Nat) (vs : List Nat) (j : Nat) (hj : j < vs.length)
    (hsmall : vs[j] < 2 ^ 32) : (m.putSettings i vs).getLE (settingOffset (i + j)) 4 = vs[j] := by
  induction vs generalizing m i j with
  | nil => exact absurd hj (Nat.not_lt_zero j)
  | cons v vs ih =>
    have hwf := Memory.wf_putLE m (settingOffset i) 4 v hm
    cases j with
    | zero =>
      show ((m.putLE (settingOffset i) 4 v).putSettings (i + 1) vs).getLE (settingOffset i) 4 = v
      rw [getLE_congr (m.putLE (settingOffset i) 4 v) _ _ _ fun b hb hbn => putSettings_get_ne _ hwf _ _ b (.inl (by
        unfold settingOffset at hbn ⊢
        omega)), Memory.getLE_putLE m hm]
      exact Nat.mod_eq_of_lt hsmall
    | succ j =>
      have hplace : i + (j + 1) = i + 1 + j := by omega
      rw [hplace]
      exact ih (m.putLE (settingOffset i) 4 v) hwf (i + 1) j (Nat.lt_of_succ_lt_succ hj) hsmall

theorem putSettings_settingWords (m : Memory) (hm : m.wf = true) (vs : List Nat) (hlength : vs.length = 31)
    (hsmall : ∀ i, i < 31 → vs.getD i 0 < 2 ^ 32) : (m.putSettings 0 vs).settingWords = vs := by
  refine List.ext_getElem ((length_settingWords _).trans hlength.symm) fun i hi hvs => ?_
  have hlt : i < 31 := hlength ▸ hvs
  have hone := hsmall i hlt
  rw [List.getD_eq_getElem _ _ hvs] at hone
  have hread := getLE_putSettings m hm 0 vs i hvs hone
  rw [Nat.zero_add] at hread
  simp only [Memory.settingWords, List.getElem_map, List.getElem_range, hread]

/-! ## APPLY_SETTINGS -/

theorem exec_applySettings_request (s : State) (n : Fin 32) (tag : Half) :
    exec (.applySettings n tag) s = takeEvent s fun u => u.makeRequest n .applySettings tag [] := by rfl

theorem applySettings_locked (s : State) (h : s.settings.locked = true) :
    s.applySettings = s.finishUnit .settings .locked 0 [] := if_pos h

/-- The settings unit with the settings of a block, and the angle unit with the collection that a changed OFFSET restarts. -/
def SettingsUnit.taking (u : SettingsUnit) (vs : List Nat) : SettingsUnit :=
  { u with active := Settings.ofList vs, generation := u.generation + 1 }

def State.recollected (s : State) (vs : List Nat) : AngleUnit :=
  { s.angle with
    calibration := if (Settings.ofList vs).offset = s.settings.active.offset then s.angle.calibration
                   else s.angle.calibration.map fun c => { run := 0, sum := 0, sets := c.sets } }

theorem recollected_same (s : State) (vs : List Nat) (h : (Settings.ofList vs).offset = s.settings.active.offset) :
    s.recollected vs = s.angle := by
  unfold State.recollected
  rw [if_pos h]

theorem recollected_changed (s : State) (vs : List Nat) (h : ¬ (Settings.ofList vs).offset = s.settings.active.offset) :
    s.recollected vs =
      { s.angle with calibration := s.angle.calibration.map fun c => { run := 0, sum := 0, sets := c.sets } } := by
  unfold State.recollected
  rw [if_neg h]

/-- A state with the settings of its block taken. -/
def State.settledSettings (s : State) : State :=
  { s with mem := s.mem.putSettings 0 (settle s.mem.settingWords)
           settings := s.settings.taking (settle s.mem.settingWords)
           angle := s.recollected (settle s.mem.settingWords) }

/-- The words of the answer. -/
def State.settingsAnswer (s : State) : List Word :=
  [word (changedOffsets 0 s.mem.settingWords (settle s.mem.settingWords)).length,
   word ((changedOffsets 0 s.mem.settingWords (settle s.mem.settingWords)).headD 0), s.settings.generation + 1]

theorem applySettings_unlocked (s : State) (h : s.settings.locked = false) :
    s.applySettings = s.settledSettings.hand [.selectBudget 2, .finish .settings .ok 0 s.settingsAnswer] := by
  unfold State.applySettings State.settledSettings State.settingsAnswer
  rw [if_neg (by rw [h]; decide)]
  dsimp only
  generalize changedOffsets 0 s.mem.settingWords (settle s.mem.settingWords) = l
  generalize settle s.mem.settingWords = w
  generalize s.mem.putSettings 0 w = m
  split
  · next hoffset =>
    rw [recollected_same s w hoffset]
    rfl
  · next hoffset =>
    rw [recollected_changed s w hoffset]
    rfl

theorem changedOffsets_length_le (i : Nat) (v w : List Nat) : (changedOffsets i v w).length ≤ v.length := by
  induction v generalizing i w with
  | nil => simp [changedOffsets]
  | cons a as ih =>
    cases w with
    | nil => simp [changedOffsets]
    | cons b bs =>
      unfold changedOffsets
      split
      · exact (ih (i + 1) bs).trans (Nat.le_succ _)
      · exact Nat.succ_le_succ (ih (i + 1) bs)

theorem changedOffsets_le (v w : List Nat) (i a : Nat) (ha : a ∈ changedOffsets i v w) : a < settingOffset (i + v.length) := by
  induction v generalizing i w with
  | nil => simp [changedOffsets] at ha
  | cons b bs ih =>
    cases w with
    | nil => simp [changedOffsets] at ha
    | cons d ds =>
      have hplace : i + 1 + bs.length = i + (bs.length + 1) := by omega
      unfold changedOffsets at ha
      rw [List.length_cons, ← hplace]
      split at ha
      · exact ih _ _ ha
      · rcases List.mem_cons.mp ha with rfl | ha
        · unfold settingOffset
          omega
        · exact ih _ _ ha

/-- The words of the answer as numbers. -/
theorem settingsAnswer_toNat (s : State) :
    (word (changedOffsets 0 s.mem.settingWords (settle s.mem.settingWords)).length).toNat =
        (changedOffsets 0 s.mem.settingWords (settle s.mem.settingWords)).length ∧
      (word ((changedOffsets 0 s.mem.settingWords (settle s.mem.settingWords)).headD 0)).toNat =
        (changedOffsets 0 s.mem.settingWords (settle s.mem.settingWords)).headD 0 := by
  have hlength := changedOffsets_length_le 0 s.mem.settingWords (settle s.mem.settingWords)
  have hbound := changedOffsets_le s.mem.settingWords (settle s.mem.settingWords) 0
  rw [length_settingWords] at hlength hbound
  generalize changedOffsets 0 s.mem.settingWords (settle s.mem.settingWords) = l at hlength hbound
  refine ⟨word_toNat _ (by omega), word_toNat _ ?_⟩
  cases l with
  | nil => decide
  | cons a as =>
    have ha := hbound a (by simp)
    unfold settingOffset settingsBase at ha
    show a < 2 ^ 32
    omega

section
variable {n : Fin 32} {tag : Half} (hs : s.sound) (h : s.takesAtOnce n .settings)
include hs h

theorem settingWords_taken (r : Request) : (s.taken n r tag []).mem.settingWords = s.mem.settingWords := by
  refine settingWords_congr fun a _ ha => taken_get_ne s hs.2 n r tag [] (by simp) a (.inl ?_)
  unfold settingOffset settingsBase at ha
  unfold slotBase
  omega

theorem exec_settingsTaken (hlocked : s.settings.locked = false) :
    ∃ t, exec (.applySettings n tag) s = .next t ∧ t.settings.active = Settings.ofList (settle s.mem.settingWords) ∧
      t.settings.generation = s.settings.generation + 1 ∧ t.settings.locked = false ∧ t.settings.table = s.settings.table := by
  obtain ⟨v, hv⟩ : ∃ v, v = s.taken n .applySettings tag [] := ⟨_, rfl⟩
  have hwords : v.mem.settingWords = s.mem.settingWords := by
    rw [hv]
    exact settingWords_taken hs h .applySettings
  have hfields : v.settings = s.settings ∧ v.tasks = [.considerQueue] ∧ v.dispatch.queue = [] := by
    rw [hv]
    simp only [State.taken, and_self]
  obtain ⟨hsettings, htasks, hqueue⟩ := hfields
  have hserve : (s.taken n .applySettings tag []).serve n .applySettings =
      v.settledSettings.hand [.selectBudget 2, .finish .settings .ok 0 v.settingsAnswer] := by
    rw [← applySettings_unlocked v (by rw [hsettings]; exact hlocked), hv]
    rfl
  obtain ⟨t, hnext, hends⟩ := request_ends (k := 0) (r := .applySettings) (tag := tag) (ps := []) hs h
    (u := v.settledSettings.hand [.selectBudget 2, .finish .settings .ok 0 v.settingsAnswer]) (by rw [hserve]; exact .refl _)
  have hkept := hends.keptUnits (by
    show (Task.selectBudget 2 :: .finish .settings .ok 0 v.settingsAnswer :: v.tasks).all Task.calm = true
    rw [htasks]
    rfl) hqueue
  simp only [State.keptUnits, SettingsUnit.kept, Prod.mk.injEq] at hkept
  obtain ⟨-, ⟨hactive, hgeneration, hlock, htable⟩, -⟩ := hkept
  refine ⟨t, hnext, hactive.trans ?_, hgeneration.trans ?_, hlock.trans ?_, htable.trans ?_⟩
  · show Settings.ofList (settle v.mem.settingWords) = _
    rw [hwords]
  · show v.settings.generation + 1 = _
    rw [hsettings]
  · show v.settings.locked = false
    rw [hsettings]
    exact hlocked
  · show v.settings.table = _
    rw [hsettings]

/-- The settings taken and answered from the state c, reached from the taking up to drift. -/
theorem exec_settingsAnswered (hlocked : s.settings.locked = false)
    (hbudget : ∀ v : State, v.allot = s.allot → v.sleep = s.sleep → v.attach = s.attach →
      v.settings = s.settings.taking (settle s.mem.settingWords) → ∀ rest, v.tasks = .selectBudget 2 :: rest →
      ∃ k ≤ 4, ∃ c, Carried k v c ∧ Drift false 0 v c ∧ c = State.withNoise (v.rebudgeted.setTasks rest) c ∧
        (v.selectedBudget = s.allot.budget → c.mem = v.mem ∧ c.port = v.port ∧ c.journal = v.journal)) :
    let given := s.mem.settingWords
    let taken := settle given
    let changed := changedOffsets 0 given taken
    let budget := State.selectedBudget { s with settings := { s.settings with active := Settings.ofList taken } }
    ∃ t, exec (.applySettings n tag) s = .next t ∧
      t.answered n .ok 0 ∧ t.resultWord n 0 = changed.length ∧ t.resultWord n 1 = changed.headD 0 ∧
      t.resultWord n 2 = (s.settings.generation + 1).toNat ∧ t.mem.settingWords = taken ∧
      (∀ k, k ≠ n → t.slotState k = s.slotState k) ∧ t.dispatch.queue = [] ∧
      t.dispatch.serving = s.dispatch.serving ∧
      t.settings = { s.settings with active := Settings.ofList taken, generation := s.settings.generation + 1 } ∧
      t.allot = { s.allot with budget := budget } ∧
      t.angle = { s.angle with
                  calibration := if t.settings.active.offset = s.settings.active.offset then s.angle.calibration
                                 else s.angle.calibration.map fun c => { run := 0, sum := 0, sets := c.sets } } ∧
      t = { s with mem := t.mem, dispatch := t.dispatch, port := t.port, journal := t.journal, settings := t.settings
                   angle := t.angle, allot := t.allot } ∧
      (budget = s.allot.budget →
        t.journal = s.journal ∧
          PortUnit.sameButBoard { s.port with attnLatch := s.port.attnLatch ||| Cause.requestDone.mask } t.port ∧
          ∀ a, a < slotBase n ∨ slotBase n + 64 ≤ a → a < settingsBase ∨ settingOffset 31 ≤ a →
            t.mem.get a = s.mem.get a) := by
  intro given taken changed budget
  obtain ⟨v, hv⟩ : ∃ v, v = s.taken n .applySettings tag [] := ⟨_, rfl⟩
  have hwords : v.mem.settingWords = s.mem.settingWords := by
    rw [hv]
    exact settingWords_taken hs h .applySettings
  have hframe : v = { s with mem := v.mem, dispatch := v.dispatch, tasks := [.considerQueue] } := by
    rw [hv]
    simp only [State.taken]
  have hcanonical : MemoryCanonical v := by
    rw [hv]
    exact taken_canonical s hs.2 n .applySettings tag []
  have hserve : (s.taken n .applySettings tag []).serve n .applySettings =
      v.settledSettings.hand [.selectBudget 2, .finish .settings .ok 0 v.settingsAnswer] := by
    rw [← applySettings_unlocked v (by rw [hframe]; exact hlocked), hv]
    rfl
  have hanswer : v.settingsAnswer = s.settingsAnswer := by
    unfold State.settingsAnswer
    rw [hwords, congrArg State.settings hframe]
  obtain ⟨x, hx⟩ : ∃ x, x = v.settledSettings.hand [.selectBudget 2, .finish .settings .ok 0 v.settingsAnswer] := ⟨_, rfl⟩
  have hxframe : x = { s with mem := x.mem, dispatch := v.dispatch, settings := s.settings.taking taken, angle := s.recollected taken
                              tasks := [.selectBudget 2, .finish .settings .ok 0 s.settingsAnswer, .considerQueue] } := by
    rw [hx, hanswer]
    unfold State.settledSettings
    rw [hwords]
    generalize v.mem.putSettings 0 (settle s.mem.settingWords) = m
    rw [hframe]
    rfl
  have hxcanonical : MemoryCanonical x := by
    rw [hx]
    exact putSettings_wf _ _ _ hcanonical
  have hxmem : x.mem = v.mem.putSettings 0 taken := by
    rw [hx]
    show v.mem.putSettings 0 (settle v.mem.settingWords) = _
    rw [hwords]
  obtain ⟨k, hk, b, hcarried, hdrift, hbframe, hsame⟩ := hbudget x (by rw [hxframe]) (by rw [hxframe]) (by rw [hxframe]) (by rw [hxframe])
    [.finish .settings .ok 0 s.settingsAnswer, .considerQueue] (by rw [hxframe])
  obtain ⟨c, hc⟩ : ∃ c, c = b.setTasks [.considerQueue] := ⟨_, rfl⟩
  have hbtasks : b.tasks = [.finish .settings .ok 0 s.settingsAnswer, .considerQueue] := by
    rw [hbframe]
    rfl
  have hfinish : Carried 1 b (c.finishUnit .settings .ok 0 s.settingsAnswer) := .front_eq hbtasks (by rw [hc]; rfl)
  have hall : Carried (k + 1) ((s.taken n .applySettings tag []).serve n .applySettings) (c.finishUnit .settings .ok 0 s.settingsAnswer) := by
    rw [hserve, ← hx]
    exact hcarried.trans hfinish
  have hcframe : c = State.withNoise { s with dispatch := v.dispatch, settings := s.settings.taking taken, angle := s.recollected taken
                                              allot := { s.allot with budget := budget }, tasks := [.considerQueue] } c := by
    rw [hc, hbframe]
    have hselected : x.rebudgeted.allot = { s.allot with budget := budget } := by
      rw [hxframe]
      rfl
    unfold State.withNoise State.setTasks
    rw [hselected, hxframe]
    rfl
  have hcm : MemoryCanonical c := by
    have := hdrift.canonical hxcanonical
    rw [hc]
    exact this
  have hdispatch : c.dispatch = (s.taken n .applySettings tag []).dispatch := by
    rw [hcframe, hv]
    rfl
  have hnext := exec_finishedIn (n := n) (r := .applySettings) (tag := tag) (ps := []) hs h hall hdispatch (by rw [hcframe]; rfl)
    (hk := by omega)
  obtain ⟨t, ht⟩ : ∃ t, t = s.finishedIn n .applySettings .ok 0 s.settingsAnswer c := ⟨_, rfl⟩
  obtain ⟨hanswered, hshown⟩ := finishedIn_answered (s := s) (n := n) (r := .applySettings) (code := .ok) (detail := 0)
    (words := s.settingsAnswer) hcm (by decide)
  have htdispatch := finishedIn_dispatch (code := .ok) (detail := 0) (words := s.settingsAnswer) h hdispatch
  have htframe := finishedIn_frame (s := s) (n := n) (r := .applySettings) (code := .ok) (detail := 0) (words := s.settingsAnswer)
    (c := c) hs.1.1
  have htmem := finishedIn_memory (s := s) (n := n) (r := .applySettings) (code := .ok) (detail := 0)
    (words := s.settingsAnswer) hcm (by simp [State.settingsAnswer])
  have htport := finishedIn_port (s := s) (n := n) (r := .applySettings) (code := .ok) (detail := 0)
    (words := s.settingsAnswer) (c := c)
  rw [← ht] at hnext hanswered hshown htdispatch htframe htmem htport
  have hcmem (a : Nat) (ha : a < 0x2800) : c.mem.get a = x.mem.get a := by
    rw [hc]
    exact hdrift.memory hxcanonical a ha
  obtain ⟨hlengthWord, hheadWord⟩ := settingsAnswer_toNat s
  have htsettings : t.settings = s.settings.taking taken := by
    rw [htframe, hcframe]
    rfl
  have htallot : t.allot = { s.allot with budget := budget } := by
    rw [htframe, hcframe]
    rfl
  have htangle : t.angle = s.recollected taken := by
    rw [htframe, hcframe]
    rfl
  have hlength : taken.length = 31 := length_settle _ (length_settingWords _)
  refine ⟨t, hnext, hanswered, (hshown 0 (by simp [State.settingsAnswer])).trans hlengthWord,
    (hshown 1 (by simp [State.settingsAnswer])).trans hheadWord, hshown 2 (by simp [State.settingsAnswer]), ?_,
    slotState_done htdispatch, ?_, ?_, htsettings, htallot, ?_, ?_, fun hbudgetSame => ?_⟩
  · refine Eq.trans (settingWords_congr fun a ha hb => ?_) (putSettings_settingWords v.mem hcanonical taken hlength
      fun i hi => settle_small _ (length_settingWords _) i hi)
    rw [← hxmem, htmem a (.inl (by unfold settingOffset settingsBase at hb; unfold slotBase; omega)),
      hcmem a (by unfold settingOffset settingsBase at hb; omega)]
  · rw [htdispatch]
    exact h.2.2.2.1
  · rw [htdispatch]
  · rw [htangle, htsettings]
    rfl
  · have htjournal : t.journal = c.journal := by rw [htframe]
    rw [htsettings, htangle, htallot, htjournal]
    rw [hcframe] at htframe
    exact htframe
  · obtain ⟨hbmem, hbport, hbjournal⟩ := hsame (by rw [hxframe]; exact hbudgetSame)
    have hcport : c.port = s.port := by
      rw [hc]
      refine hbport.trans ?_
      rw [hxframe]
    refine ⟨?_, htport hcport hs.1.2, fun a hslot hblock => ?_⟩
    · rw [congrArg State.journal htframe, hc]
      refine hbjournal.trans ?_
      rw [hxframe]
    · rw [htmem a hslot, hc]
      show b.mem.get a = _
      rw [hbmem, hxmem, putSettings_get_ne _ hcanonical _ _ _ (by rw [hlength]; exact hblock), hv]
      exact taken_get_ne s hs.2 n .applySettings tag [] (by simp) a hslot

end

theorem selectBudget_same (s : State) (cause : Nat) (h : s.selectedBudget = s.allot.budget) : s.selectBudget cause = s := if_pos h

theorem carried_sameBudget {cause : Nat} {rest : List Task} (hrest : s.tasks = .selectBudget cause :: rest)
    (hheld : s.selectedBudget = s.allot.budget) :
    ∃ c, Carried 1 s c ∧ Drift false 0 s c ∧ c = State.withNoise (s.rebudgeted.setTasks rest) c ∧
      (s.selectedBudget = w.allot.budget → c.mem = s.mem ∧ c.port = s.port ∧ c.journal = s.journal) := by
  refine ⟨s.setTasks rest, .idle hrest (selectBudget_same _ cause hheld), (Drift.refl false s).congr ⟨rfl, rfl, rfl⟩ ⟨rfl, rfl, rfl⟩,
    ?_, fun _ => ⟨rfl, rfl, rfl⟩⟩
  rw [rebudgeted_same s hheld]
  rfl

theorem applySettings_request (s : State) (n : Fin 32) (tag : Half) (hs : s.sound) (h : s.takesAtOnce n .settings) :
    let given := s.mem.settingWords
    let taken := Machine.settle given
    let changed := changedOffsets 0 given taken
    ∃ t, exec (.applySettings n tag) s = .next t ∧
      (s.settings.locked = true → s.slotAnswered t n .locked 0) ∧
      (s.settings.locked = false →
        t.settings.active = Settings.ofList taken ∧ t.settings.generation = s.settings.generation + 1 ∧
        t.settings.locked = false ∧ t.settings.table = s.settings.table) ∧
      (s.settings.locked = false →
        let budget := State.selectedBudget { s with settings := { s.settings with active := Settings.ofList taken } }
        budget = s.allot.budget ∨ s.nothingDraws →
        t.answered n .ok 0 ∧ t.resultWord n 0 = changed.length ∧ t.resultWord n 1 = changed.headD 0 ∧
        t.resultWord n 2 = (s.settings.generation + 1).toNat ∧ t.mem.settingWords = taken ∧
        (∀ k, k ≠ n → t.slotState k = s.slotState k) ∧ t.dispatch.queue = [] ∧
        t.dispatch.serving = s.dispatch.serving ∧
        t.settings = { s.settings with active := Settings.ofList taken, generation := s.settings.generation + 1 } ∧
        t.allot = { s.allot with budget := budget } ∧
        t.angle = { s.angle with
                    calibration := if t.settings.active.offset = s.settings.active.offset then s.angle.calibration
                                   else s.angle.calibration.map fun c => { run := 0, sum := 0, sets := c.sets } } ∧
        t = { s with mem := t.mem, dispatch := t.dispatch, port := t.port, journal := t.journal, settings := t.settings
                     angle := t.angle, allot := t.allot } ∧
        (budget = s.allot.budget →
          t.journal = s.journal ∧
            PortUnit.sameButBoard { s.port with attnLatch := s.port.attnLatch ||| Cause.requestDone.mask } t.port ∧
            ∀ a, a < slotBase n ∨ slotBase n + 64 ≤ a → a < settingsBase ∨ settingOffset 31 ≤ a →
              t.mem.get a = s.mem.get a)) := by
  intro given taken changed
  cases hlocked : s.settings.locked with
  | true =>
    have hserve : (s.taken n .applySettings tag []).serve n .applySettings =
        (s.taken n .applySettings tag []).finishUnit .settings .locked 0 [] :=
      applySettings_locked (s.taken n .applySettings tag []) (by simp only [State.taken]; exact hlocked)
    obtain ⟨hnext, hanswered⟩ := exec_slotAnswered hs h hserve (by decide)
    exact ⟨_, hnext, fun _ => hanswered, fun h => (by cases h), fun h => (by cases h)⟩
  | false =>
    obtain ⟨t, hnext, htaken⟩ := exec_settingsTaken (tag := tag) hs h hlocked
    refine ⟨t, hnext, fun h => (by cases h), fun _ => htaken, fun _ => ?_⟩
    intro budget hbudget
    obtain ⟨t', hnext', hanswer⟩ := exec_settingsAnswered (tag := tag) hs h hlocked
      fun v hallot hsleep hattach hsettings rest hrest => by
        have hselected : v.selectedBudget = budget := by
          unfold State.selectedBudget
          rw [hallot, hsleep, hsettings]
          rfl
        by_cases hsame : budget = s.allot.budget
        · have hheld : v.selectedBudget = v.allot.budget := by rw [hselected, hsame, hallot]
          exact ⟨1, by decide, carried_sameBudget hrest hheld⟩
        · have hn : v.nothingDraws := by
            unfold State.nothingDraws
            rw [hallot, hattach]
            exact hbudget.resolve_left hsame
          obtain ⟨k, hk, hleads⟩ := Leads.selectBudget hrest hn
          obtain ⟨c, hc, hbecomes⟩ := hleads v
          exact ⟨k, hk, c, hc, hbecomes.drift.congr ⟨rfl, rfl, rfl⟩ ⟨rfl, rfl, rfl⟩, hbecomes.renoised, fun hsame' =>
            absurd (hselected.symm.trans hsame') hsame⟩
    obtain rfl := Host.Outcome.next.inj (hnext.symm.trans hnext')
    exact hanswer

/-! ## LOCK_SETTINGS -/

theorem exec_lockSettings_request (s : State) (n : Fin 32) (tag : Half) :
    exec (.lockSettings n tag) s = takeEvent s fun u => u.makeRequest n .lockSettings tag [] := by rfl

theorem lockSettings_locked (s : State) (h : s.settings.locked = true) :
    s.lockSettings = s.finishUnit .settings .locked 0 [] := if_pos h

theorem lockSettings_unlocked (s : State) (h : s.settings.locked = false) :
    s.lockSettings = (s.updSettings fun u => { u with locked := true }).finishUnit .settings .ok 0 [] :=
  if_neg (by rw [h]; decide)

theorem lockSettings_request (s : State) (n : Fin 32) (tag : Half) (hs : s.sound) (h : s.takesAtOnce n .settings) :
    ∃ t, exec (.lockSettings n tag) s = .next t ∧
      State.slotAnswered { s with settings := { s.settings with locked := true } } t n
        (if s.settings.locked then .locked else .ok) 0 := by
  cases hlocked : s.settings.locked with
  | true =>
    have hserve : (s.taken n .lockSettings tag []).serve n .lockSettings =
        (s.taken n .lockSettings tag []).finishUnit .settings .locked 0 [] :=
      lockSettings_locked (s.taken n .lockSettings tag []) (by simp only [State.taken]; exact hlocked)
    obtain ⟨hnext, hanswered⟩ := exec_slotAnswered hs h hserve (by decide)
    have hsame : ({ s with settings := { s.settings with locked := true } } : State) = s := by rw [← hlocked]
    refine ⟨_, hnext, ?_⟩
    rw [hsame]
    exact hanswered
  | false =>
    have hserve : (s.taken n .lockSettings tag []).serve n .lockSettings =
        (State.taken (s.updSettings fun u => { u with locked := true }) n .lockSettings tag []).finishUnit .settings .ok 0 [] := by
      rw [← taken_updSettings]
      exact lockSettings_unlocked (s.taken n .lockSettings tag []) (by simp only [State.taken]; exact hlocked)
    obtain ⟨hnext, hanswered, -⟩ := exec_answeredFrom hs h hserve (by decide)
    exact ⟨_, hnext, hanswered⟩

/-- Settles O28: by the lock; the settings taken, with the budget they select in force already or nothing drawn from it. -/
theorem applyAndLockSettings : Obligations.ApplyAndLockSettings := by
  unfold Obligations.ApplyAndLockSettings
  exact ⟨applySettings_request, lockSettings_request⟩

end Sys2Proof.Machine
end

section
/-! LOAD_POSTURE_TABLE (R87). -/

namespace Sys2Proof.Machine

set_option Elab.async false

variable {s t : State}

/-! ## The bands of Staging -/

theorem readBand_congr {m m' : Memory} {i : Nat}
    (h : ∀ a, stagingBase i ≤ a → a < stagingBase i + 32 → m'.get a = m.get a) : m'.readBand i = m.readBand i := by
  have hnumber (d n : Nat) (hd : d + n ≤ 32) : m'.getLE (stagingBase i + d) n = m.getLE (stagingBase i + d) n :=
    getLE_congr m m' _ _ fun b hb hbn => h b (by omega) (by omega)
  have hcode : m'.getLE (stagingBase i) 1 = m.getLE (stagingBase i) 1 := hnumber 0 1 (by decide)
  unfold Memory.readBand
  simp only [hcode, hnumber 1 1, hnumber 3 1, hnumber 4 2, hnumber 6 2, hnumber 8 2, hnumber 10 2, h (stagingBase i + 2) (by omega)
    (by omega), Nat.reduceAdd, Nat.reduceLeDiff]

/-- Sixteen bands from Staging's start are all that LOAD_POSTURE_TABLE reads. -/
theorem readBands_congr {m m' : Memory} (h : ∀ a, 0x0E00 ≤ a → m'.get a = m.get a) (i n : Nat) :
    m'.readBands i n = m.readBands i n := by
  induction n generalizing i with
  | zero => rfl
  | succ n ih =>
    unfold Memory.readBands
    rw [readBand_congr (m := m) fun a ha _ => h a (by
      unfold stagingBase at ha
      omega), ih]

theorem readBand_reason {m : Memory} {i reason : Nat} (h : m.readBand i = .inr reason) : reason ≤ 6 := by
  unfold Memory.readBand at h
  dsimp only at h
  split at h
  · cases h
    decide
  split at h
  · cases h
    decide
  split_ifs at h <;> cases h <;> decide

theorem readBands_fault {m : Memory} {i n j reason : Nat} (h : m.readBands i n = .inr (j, reason)) : j < i + n ∧ reason ≤ 6 := by
  induction n generalizing i with
  | zero => cases h
  | succ n ih =>
    unfold Memory.readBands at h
    split at h
    next _ hband =>
      cases h
      exact ⟨by omega, readBand_reason hband⟩
    next b _ =>
      split at h
      next => cases h
      next _ hrest =>
        cases h
        have hbound := ih hrest
        omega

theorem readBands_length {m : Memory} {i n : Nat} {bands : List Band} (h : m.readBands i n = .inl bands) : bands.length = n := by
  induction n generalizing i bands with
  | zero =>
    cases h
    rfl
  | succ n ih =>
    unfold Memory.readBands at h
    split at h
    next => cases h
    next =>
      split at h
      next _ hrest =>
        cases h
        exact congrArg Nat.succ (ih hrest)
      next => cases h

/-- A request taken leaves Staging as it is. -/
theorem taken_readBands (s : State) (hm : MemoryCanonical s) (n : Fin 32) (r : Request) (tag : Half) (ps : List Word)
    (hp : ps.length ≤ 8) (i k : Nat) : (s.taken n r tag ps).mem.readBands i k = s.mem.readBands i k :=
  readBands_congr (fun a ha => taken_get_ne s hm n r tag ps hp a (.inr (by
    unfold slotBase
    omega))) i k

/-! ## The table taken -/

theorem loadTable_badCount (s : State) {k : Nat} (h : k = 0 ∨ 16 < k) : s.loadTable k = s.finishUnit .settings .badParameter 0 [] :=
  if_pos h

theorem loadTable_badBand (s : State) {k i reason : Nat} (h : ¬ (k = 0 ∨ 16 < k)) (hband : s.mem.readBands 0 k = .inr (i, reason)) :
    s.loadTable k = s.finishUnit .settings .badParameter 1 [word i, word reason] := by
  unfold State.loadTable
  rw [if_neg h, hband]

theorem loadTable_bands (s : State) {k : Nat} {bands : List Band} (h : ¬ (k = 0 ∨ 16 < k)) (hbands : s.mem.readBands 0 k = .inl bands) :
    s.loadTable k = (s.updSettings fun u => { u with table := bands }).hand [.freshEvaluation 4, .finishLoad k] := by
  unfold State.loadTable
  rw [if_neg h, hbands]

/-- The posture unit after a fresh evaluation that keeps DETACHED and its orientation (R88, R102). -/
def PostureUnit.refreshed (u : PostureUnit) : PostureUnit :=
  { u with dwell := none, unavailable := none, candidate := none, orientationCandidate := u.oriented, orientationDwell := none }

theorem gateRotation_detached (s : State) (h : s.posture.posture = .detached) (hlock : s.posture.lock = none)
    (hsensed : s.posture.sensed = s.posture.oriented) :
    s.gateRotation = s.updPosture fun u => { u with orientationCandidate := u.oriented, orientationDwell := none } := by
  have hallowed : s.rotationAllowed = true := by
    unfold State.rotationAllowed State.postureFlag
    rw [h]
  unfold State.gateRotation
  rw [if_pos hallowed, hlock]
  exact if_pos hsensed

theorem freshEvaluation_detached (s : State) (cause : Nat) (h : s.posture.posture = .detached) :
    s.freshEvaluation cause =
      (s.updPosture fun u => { u with dwell := none, unavailable := none, candidate := none }).hand [.gateRotation] := if_pos h

/-- With DETACHED committed the table's loading goes to its answer, with nothing but the posture unit's timers put down. -/
theorem Carried.loadDetached {s : State} (k : Nat) (h : s.posture.posture = .detached) (hlock : s.posture.lock = none)
    (hsensed : s.posture.sensed = s.posture.oriented) :
    Carried 3 (s.hand [.freshEvaluation 4, .finishLoad k])
      ((s.updPosture PostureUnit.refreshed).finishUnit .settings .ok 0 [word k, word Posture.detached.code, word s.bandShown]) := by
  have hfresh : Carried 1 (s.hand [.freshEvaluation 4, .finishLoad k])
      ((s.updPosture fun u => { u with dwell := none, unavailable := none, candidate := none }).hand
        [.gateRotation, .finishLoad k]) :=
    Carried.handed s _ _ (freshEvaluation_detached (s.hand [.finishLoad k]) 4 h)
  have hgate := Carried.handed (s.updPosture fun u => { u with dwell := none, unavailable := none, candidate := none })
    .gateRotation [.finishLoad k] (gateRotation_detached _ h hlock hsensed)
  have hfinish := Carried.handed (s.updPosture PostureUnit.refreshed) (.finishLoad k) [] rfl
  have hanswer : State.finishLoad ((s.updPosture PostureUnit.refreshed).hand []) k =
      (s.updPosture PostureUnit.refreshed).finishUnit .settings .ok 0
        [word k, word Posture.detached.code, word s.bandShown] := by
    rw [← h]
    rfl
  rw [← hanswer]
  exact (hfresh.trans hgate).trans hfinish

theorem exec_loadPostureTable_request (s : State) (n : Fin 32) (tag : Half) (count : Word) :
    exec (.loadPostureTable n tag count) s = takeEvent s fun u => u.makeRequest n .loadPostureTable tag [count] := by rfl

theorem serve_loadPostureTable (s : State) (hm : MemoryCanonical s) (n : Fin 32) (tag : Half) (count : Word) :
    (s.taken n .loadPostureTable tag [count]).serve n .loadPostureTable =
      (s.taken n .loadPostureTable tag [count]).loadTable count.toNat := by
  unfold State.serve
  dsimp only
  rw [taken_param s hm n .loadPostureTable tag [count] (by simp) 0 (by simp)]
  simp only [List.getElem_cons_zero]

section
variable {n : Fin 32} {tag : Half} {count : Word} {bands : List Band} (hs : s.sound) (h : s.takesAtOnce n .settings)
  (hcount : ¬ (count.toNat = 0 ∨ 16 < count.toNat)) (hbands : s.mem.readBands 0 count.toNat = .inl bands)
include hs h hcount hbands

theorem serve_loadBands :
    (s.taken n .loadPostureTable tag [count]).serve n .loadPostureTable =
      ((s.updSettings fun u => { u with table := bands }).taken n .loadPostureTable tag [count]).hand
        [.freshEvaluation 4, .finishLoad count.toNat] := by
  rw [serve_loadPostureTable s hs.2, loadTable_bands _ hcount
    ((taken_readBands s hs.2 n .loadPostureTable tag [count] (by simp) 0 _).trans hbands), taken_updSettings]

/-- A sound run of bands becomes the active table. -/
theorem exec_loadBands : ∃ t, exec (.loadPostureTable n tag count) s = .next t ∧ t.settings.table = bands := by
  have hserve := serve_loadBands (tag := tag) hs h hcount hbands
  generalize hv : ((s.updSettings fun u => { u with table := bands }).taken n .loadPostureTable tag [count]).hand
    [.freshEvaluation 4, .finishLoad count.toNat] = v at hserve
  have htasks : v.tasks = [.freshEvaluation 4, .finishLoad count.toNat, .considerQueue] := by
    rw [← hv]
    simp only [State.taken]
    rfl
  have htable : v.settings.table = bands := by
    rw [← hv]
    simp only [State.taken]
    rfl
  have hqueue : v.dispatch.queue = [] := by
    rw [← hv]
    simp only [State.taken]
    rfl
  obtain ⟨t, hnext, hends⟩ := request_ends (tag := tag) (ps := [count]) (k := 0) hs h (by rw [hserve]; exact .refl v)
  have hkept := hends.keptUnits (by rw [htasks]; rfl) hqueue
  simp only [State.keptUnits, SettingsUnit.kept, Prod.mk.injEq] at hkept
  obtain ⟨-, ⟨-, -, -, htaken⟩, -⟩ := hkept
  exact ⟨t, hnext, htaken.trans htable⟩

/-- For a committed DETACHED whose orientation follows the lid the request is answered in its event (R88). -/
theorem exec_loadDetached (hposture : s.posture.posture = .detached) (hlock : s.posture.lock = none)
    (hsensed : s.posture.sensed = s.posture.oriented) :
    ∃ t, exec (.loadPostureTable n tag count) s = .next t ∧ t.answered n .ok 0 ∧ t.resultWord n 0 = count.toNat ∧
      t.resultWord n 1 = Posture.detached.code ∧ t.posture.posture = .detached ∧ t.posture.dwell = none ∧
      t.posture.unavailable = none := by
  have hserve := serve_loadBands (tag := tag) hs h hcount hbands
  obtain ⟨b, hb⟩ : ∃ b, b = s.updSettings fun u => { u with table := bands } := ⟨_, rfl⟩
  rw [← hb] at hserve
  have hpostures : b.posture = s.posture := by rw [hb]; rfl
  have htaken : (b.taken n .loadPostureTable tag [count]).posture = s.posture := by
    simp only [State.taken]
    exact hpostures
  have hrun := Carried.loadDetached (s := b.taken n .loadPostureTable tag [count]) count.toNat (by rw [htaken]; exact hposture)
    (by rw [htaken]; exact hlock) (by rw [htaken]; exact hsensed)
  rw [← hserve, taken_updPosture] at hrun
  obtain ⟨t, hnext, ⟨hanswered, -, -, -, -, hframe, -⟩, hwords⟩ := exec_answeredAfter hs h hrun (by decide)
    (by rw [hb]; rfl) (by rw [hb]; rfl) (by rw [hb]; rfl) ⟨s.port.boardTouched, by rw [hb]; rfl⟩
  have hunit : t.posture = b.posture.refreshed := by
    have hfield := congrArg State.posture hframe
    exact hfield
  rw [hpostures] at hunit
  exact ⟨t, hnext, hanswered, (hwords 0 (by simp)).trans (word_toNat _ (by omega)), hwords 1 (by simp),
    by rw [hunit]; exact hposture, by rw [hunit]; rfl, by rw [hunit]; rfl⟩

end

/-- Settles O30: a refused table leaves the units to their frame; a sound one is kept by every later hand-on, and with
DETACHED committed the three hand-ons to the answer are followed one by one. -/
theorem loadPostureTable : Obligations.LoadPostureTable := by
  unfold Obligations.LoadPostureTable
  intro s n tag count hs h
  have hzero : count = 0 ↔ count.toNat = 0 := by
    rw [← BitVec.toNat_inj]
    rfl
  have hgood (h0 : count ≠ 0) (h16 : count.toNat ≤ 16) : ¬ (count.toNat = 0 ∨ 16 < count.toNat) := by
    rw [ne_eq, hzero] at h0
    omega
  have hserve := serve_loadPostureTable s hs.2 n tag count
  by_cases hcount : count.toNat = 0 ∨ 16 < count.toNat
  · rw [loadTable_badCount _ hcount] at hserve
    obtain ⟨hnext, ⟨hanswered, hmem, -, -, -, hframe, -⟩, -⟩ := exec_answeredFrom hs h hserve (by decide)
    exact ⟨_, hnext, fun _ => ⟨hanswered, (congrArg State.settings hframe :), (congrArg State.posture hframe :), hmem⟩,
      fun h0 h16 => (hgood h0 h16 hcount).elim, fun h0 h16 => (hgood h0 h16 hcount).elim⟩
  have hbad : ¬ (count = 0 ∨ 16 < count.toNat) := by rwa [hzero]
  have hread := taken_readBands s hs.2 n .loadPostureTable tag [count] (by simp) 0 count.toNat
  cases hbands : s.mem.readBands 0 count.toNat with
  | inr fault =>
    obtain ⟨i, reason⟩ := fault
    obtain ⟨hi, hreason⟩ := readBands_fault hbands
    rw [loadTable_badBand _ hcount (hread.trans hbands)] at hserve
    obtain ⟨hnext, ⟨hanswered, hmem, -, -, -, hframe, -⟩, hwords⟩ := exec_answeredFrom hs h hserve (by decide)
    refine ⟨_, hnext, fun h0 => absurd h0 hbad, fun _ _ j r hfault => ?_, fun _ _ bands hfault => nomatch hfault⟩
    cases hfault
    exact ⟨hanswered, (hwords 0 (by simp)).trans (word_toNat _ (by omega)),
      (hwords 1 (by simp)).trans (word_toNat _ (by omega)), (congrArg State.settings hframe :), hmem⟩
  | inl bands =>
    obtain ⟨t, hnext, htable⟩ := exec_loadBands (tag := tag) hs h hcount hbands
    refine ⟨t, hnext, fun h0 => absurd h0 hbad, fun _ _ i reason hfault => (nomatch hfault), fun _ _ bands' hfault => ?_⟩
    cases hfault
    refine ⟨htable, readBands_length hbands, fun hposture hlock hsensed => ?_⟩
    obtain ⟨t', hnext', hclauses⟩ := exec_loadDetached (tag := tag) hs h hcount hbands hposture hlock hsensed
    rw [Host.Outcome.next.inj (hnext.symm.trans hnext')]
    exact hclauses

end Sys2Proof.Machine
end

section
/-! The arrival of a packet (R112, R116 to R118): from the bytes to the packet served, and the events it begins. -/

namespace Sys2Proof.Machine

set_option Elab.async false

variable {q : Bool} {L M : BitVec 10} {s t u v w e : State} {p : BasePacket} {bytes : List Byte}

/-! ## Events followed exactly at first and up to drift then -/

theorem takeEvent_carriedLeads {j k : Nat} {f : State → State} (hs : s.betweenEvents) (hc : Carried j (f s) u)
    (h : Leads q M k u t) (ht : t.tasks = []) (hk : j + k ≤ 100 := by decide) :
    ∃ e, takeEvent s f = .next e ∧ e = t.withNoise e ∧ Drift q M u e := by
  obtain ⟨b, hb, hbecomes⟩ := h u
  have htasks : b.tasks = [] := by
    rw [hbecomes.renoised]
    exact ht
  refine ⟨b.closeBoard s, takeEvent_carried hs (hc.trans hb) htasks hk, ?_, ?_⟩
  · rw [(Becomes.closeBoard (q := q) b s).frame, hbecomes.renoised]
    rfl
  · have := (hbecomes.drift.congr (s' := u) (e' := b) ⟨rfl, rfl, rfl⟩ ⟨rfl, rfl, rfl⟩).trans (Becomes.closeBoard b s).drift
    rwa [show M ||| (0 : BitVec 10) = M by simp] at this

theorem takeEvent_carriedGoes {j k : Nat} {f : State → State} (hs : s.betweenEvents) (hc : Carried j (f s) e) (hu : Like u e)
    (h : Goes M k u t) (ht : t.tasks = []) (hk : j + k ≤ 100 := by decide) :
    ∃ x, takeEvent s f = .next x ∧ Like t x ∧ Drift false M e x := by
  obtain ⟨i, hi, w, hw, hlike, hdrift⟩ := h e hu
  have htasks : w.tasks = [] := by
    rw [hlike.frame]
    exact ht
  have hclose := Becomes.closeBoard (q := false) w s
  refine ⟨w.closeBoard s, takeEvent_carried hs (hc.trans hw) htasks (by omega), hlike.trans ⟨w.sleep, _, .refl _, hclose.frame⟩, ?_⟩
  have := hdrift.trans hclose.drift
  rwa [show M ||| (0 : BitVec 10) = M by simp] at this

/-! ## The packet kinds -/

section
variable (a b c d e f : Byte)

theorem parse_hello : parsePacket (packet [0x13, a, b, c]) = some (.hello a b c) :=
  Laws.parsePacket_packet 0x13 [a, b, c] (by decide) (by decide : 3 = (0x13 : Byte).toNat % 16)

theorem parse_key (ha : a ≠ 0) (ha' : a ≠ 255) (pressed : Bool) :
    parsePacket (packet [0x22, a, if pressed then 1 else 0]) = some (.key a pressed) := by
  rw [Laws.parsePacket_packet 0x22 [a, if pressed then 1 else 0] (by decide) (by decide : 2 = (0x22 : Byte).toNat % 16)]
  show (if a = 0 ∨ a = 255 then none else _) = some (BasePacket.key a pressed)
  rw [if_neg (not_or.mpr ⟨ha, ha'⟩)]
  cases pressed <;> rfl

theorem parse_pointer : parsePacket (packet [0x33, a, b, c]) = some (.pointer a b (c.setWidth 3)) :=
  Laws.parsePacket_packet 0x33 [a, b, c] (by decide) (by decide : 3 = (0x33 : Byte).toNat % 16)

theorem parse_sample : parsePacket (packet [0x46, a, b, c, d, e, f]) = some (.sample (half a b) (half c d) (half e f)) :=
  Laws.parsePacket_packet 0x46 [a, b, c, d, e, f] (by decide) (by decide : 6 = (0x46 : Byte).toNat % 16)

theorem parse_status : parsePacket (packet [0x52, a, b]) = some (.status a b) :=
  Laws.parsePacket_packet 0x52 [a, b] (by decide) (by decide : 2 = (0x52 : Byte).toNat % 16)

theorem parse_button : parsePacket (packet [0x60]) = some .button := Laws.parsePacket_packet 0x60 [] (by decide) (by decide : 0 = (0x60 : Byte).toNat % 16)

theorem parse_ack : parsePacket (packet [0x71, a]) = some (.ack a) := Laws.parsePacket_packet 0x71 [a] (by decide) (by decide : 1 = (0x71 : Byte).toNat % 16)

end

/-- A half word cut into its bytes and put together again. -/
theorem half_bytes (x : Half) : half (x.setWidth 8) ((x >>> 8).setWidth 8) = x := by
  unfold half
  apply BitVec.eq_of_getLsbD_eq
  intro i hi
  rw [BitVec.getLsbD_append]
  by_cases hlow : i < 8
  · simp [hlow]
  · simp [hlow, show i - 8 < 8 by omega, show 8 + (i - 8) = i by omega]

theorem exec_arrival (h : parsePacket bytes = some p) :
    exec (.packetArrival bytes) s = takeEvent s fun u => u.packetArrived p := by
  show takeEvent s _ = _
  simp only [h]

/-! ## A packet that finds the queue empty -/

/-- The receiver takes bytes, and nothing waits to be served. -/
def State.listens (s : State) : Prop :=
  s.link.state.receiving = true ∧ s.link.ignoring = false ∧ s.link.receiveQueue = [] ∧ s.link.owed = []

/-- The base link unit after a packet that leaves the queue as it arrives, in GREETING too. -/
def State.heardLink (s : State) : LinkUnit := if s.link.state = .greeting then { s.link with hold := false } else s.linkHeard

/-- The packet of an arrival on its way to be served. -/
def State.serving (s : State) (p : BasePacket) : State :=
  { s with link := s.heardLink, tasks := [.servePacket ⟨p, s.now⟩, .serveReceiveQueue] }

/-- The state in which the packet of an arrival is served. -/
def State.heard (s : State) : State := { s with link := s.heardLink, tasks := [.serveReceiveQueue] }

theorem heardLink_greeting (h : s.link.state = .greeting) : s.heardLink = { s.link with hold := false } := if_pos h

theorem heardLink_open (h : s.link.state = .ready ∨ s.link.state = .quiesced) : s.heardLink = s.linkHeard :=
  if_neg (by rcases h with h | h <;> rw [h] <;> decide)

theorem listens_of (h : s.linkListens) : s.listens := by
  obtain ⟨hstate, hignoring, hqueue, howed, -⟩ := h
  exact ⟨by rcases hstate with h | h <;> rw [h] <;> rfl, hignoring, hqueue, howed⟩

theorem heardLink_queue (s : State) :
    s.heardLink.receiveQueue = s.link.receiveQueue ∧ s.heardLink.owed = s.link.owed ∧ s.heardLink.state = s.link.state ∧
      s.heardLink.pressed = s.link.pressed ∧ s.heardLink.buttons = s.link.buttons := by
  unfold State.heardLink
  split <;> exact ⟨rfl, rfl, rfl, rfl, rfl⟩

theorem receiveQueue_self (u : LinkUnit) (h : u.receiveQueue = []) : { u with receiveQueue := [] } = u := by rw [← h]

/-- An arriving packet is put in the empty queue. -/
theorem packetArrived_listening (h : s.listens) :
    s.packetArrived p =
      State.hand { s with link := { s.heardLink with receiveQueue := [⟨p, s.now⟩] } } [.serveReceiveQueue] := by
  obtain ⟨hreceiving, hignoring, hqueue, -⟩ := h
  have hroom : s.link.receiveQueue.length < 16 := by
    rw [hqueue]
    decide
  unfold State.packetArrived State.heardLink
  rw [if_pos (by rw [hreceiving, hignoring]; rfl)]
  by_cases hgreeting : s.link.state = .greeting
  · rw [if_pos hgreeting, if_pos hgreeting]
    dsimp only
    rw [if_pos hroom]
    simp only [State.setReceiveQueue, State.updLink, hqueue]
    rfl
  · rw [if_neg hgreeting, if_neg hgreeting]
    dsimp only
    rw [if_pos (show (s.setLinkTimer .supervision 300).link.receiveQueue.length < 16 from hroom)]
    simp only [State.setReceiveQueue, State.setLinkTimer, State.updLink, hqueue]
    rfl

theorem serveReceiveQueue_next {r : Received} (htasks : s.tasks.contains .serveAfterReset = false) (howed : s.link.owed = [])
    (hnext : s.nextEntry = some r) :
    s.serveReceiveQueue = (s.setReceiveQueue (s.link.receiveQueue.erase r)).hand [.servePacket r, .serveReceiveQueue] := by
  unfold State.serveReceiveQueue
  rw [if_neg (by rw [htasks]; decide), if_neg (by rw [howed]; simp), hnext]

/-- The packet leaves the queue to be served: every kind in GREETING, an input packet where there is room for it. -/
theorem arrival_carried (htasks : s.tasks = []) (h : s.listens)
    (hserved : s.link.state = .greeting ∨ p.isInput = false ∨ 1 ≤ s.room inputJournal) :
    Carried 1 (s.packetArrived p) (s.serving p) := by
  obtain ⟨hfound, howed, hstate, -⟩ := heardLink_queue s
  obtain ⟨r, hr⟩ : ∃ r : Received, r = ⟨p, s.now⟩ := ⟨_, rfl⟩
  obtain ⟨v, hv⟩ : ∃ v, v = State.setTasks { s with link := { s.heardLink with receiveQueue := [r] } } [] := ⟨_, rfl⟩
  have hwaits : v.link.owed = [] := by
    rw [hv]
    exact howed.trans h.2.2.2
  have hnext : v.nextEntry = some r := by
    have hqueue : v.link.receiveQueue = [r] := by rw [hv]; rfl
    have hvstate : v.link.state = s.link.state := by rw [hv]; exact hstate
    have hroom : v.room inputJournal = s.room inputJournal := by rw [hv]; rfl
    unfold State.nextEntry State.inputFree
    rw [hqueue, hvstate, hwaits, hroom]
    rcases hserved with hgreeting | hkind | hfree
    · rw [if_pos (.inl hgreeting)]
      rfl
    · split
      · rfl
      · rw [List.find?_cons_of_pos (by rw [hr, hkind]; rfl)]
    · rw [if_pos (.inr (by simp [hfree]))]
      rfl
  have hserve := serveReceiveQueue_next (by rw [hv]; rfl) hwaits hnext
  refine .front_eq (x := .serveReceiveQueue) (rest := []) (by rw [packetArrived_listening h, State.hand, htasks]; rfl) ?_
  have hset : (s.packetArrived p).setTasks [] = v := by
    rw [packetArrived_listening h, hv, hr]
    rfl
  show State.serveReceiveQueue ((s.packetArrived p).setTasks []) = _
  rw [hset, hserve, hv]
  have herase : [r].erase r = [] := List.erase_cons_head r []
  have hhold : holdAfter s.heardLink.hold 0 = s.heardLink.hold := by
    unfold State.heardLink
    split <;> rfl
  show State.hand { s with link := { s.heardLink with receiveQueue := [r].erase r, hold := holdAfter s.heardLink.hold ([r].erase r).length }, tasks := [] } _ = _
  rw [herase, List.length_nil, hhold, receiveQueue_self s.heardLink (hfound.trans h.2.2.1), hr]
  rfl

theorem arrival_served (htasks : s.tasks = []) (h : s.listens)
    (hserved : s.link.state = .greeting ∨ p.isInput = false ∨ 1 ≤ s.room inputJournal) :
    Carried 2 (s.packetArrived p) (s.heard.servePacket ⟨p, s.now⟩) :=
  (arrival_carried htasks h hserved).trans (.front_eq rfl rfl)

/-- An arrival after whose packet nothing but the empty queue is left to serve. -/
theorem arrival_still {k : Nat} (htasks : s.tasks = []) (h : s.listens)
    (hserved : s.link.state = .greeting ∨ p.isInput = false ∨ 1 ≤ s.room inputJournal)
    (hv : Carried k (s.heard.servePacket ⟨p, s.now⟩) (v.setTasks [.serveReceiveQueue])) (hvtasks : v.tasks = [])
    (hqueue : v.link.receiveQueue = []) (howed : v.link.owed = []) :
    Carried (2 + k + 1) (s.packetArrived p) v := by
  refine ((arrival_served htasks h hserved).trans hv).trans (.front_eq (x := .serveReceiveQueue) (rest := []) rfl ?_)
  exact (serveReceiveQueue_idle (v.setTasks []) hqueue howed).trans (setTasks_self v hvtasks)

theorem exec_arrivalUnseen {k : Nat} (hp : parsePacket bytes = some p) (hs : s.betweenEvents) (h : s.listens)
    (hserved : s.link.state = .greeting ∨ p.isInput = false ∨ 1 ≤ s.room inputJournal)
    (hv : Carried k (s.heard.servePacket ⟨p, s.now⟩) (v.setTasks [.serveReceiveQueue])) (hbetween : v.betweenEvents)
    (hqueue : v.link.receiveQueue = []) (howed : v.link.owed = []) (hboard : v.boardWords = s.boardWords)
    (hk : k ≤ 90 := by decide) : exec (.packetArrival bytes) s = .next v := by
  rw [exec_arrival hp]
  exact takeEvent_settled hs (arrival_still hs.1 h hserved hv hbetween.1 hqueue howed) hbetween hboard (by omega)

/-- A packet that is ignored leaves what its arrival does. -/
theorem exec_arrivalIgnored {k : Nat} (hp : parsePacket bytes = some p) (hs : s.betweenEvents) (h : s.listens)
    (hserved : s.link.state = .greeting ∨ p.isInput = false ∨ 1 ≤ s.room inputJournal)
    (hv : Carried k (s.heard.servePacket ⟨p, s.now⟩) s.heard) (hk : k ≤ 90 := by decide) :
    exec (.packetArrival bytes) s = .next { s with link := s.heardLink } := by
  obtain ⟨hqueue, howed, hstate, -⟩ := heardLink_queue s
  refine exec_arrivalUnseen (v := { s with link := s.heardLink }) hp hs h hserved hv hs (hqueue.trans h.2.2.1)
    (howed.trans h.2.2.2) ?_ hk
  have hcounts : s.heardLink.keyDropped = s.link.keyDropped ∧ s.heardLink.overruns = s.link.overruns := by
    unfold State.heardLink
    split <;> exact ⟨rfl, rfl⟩
  obtain ⟨hkeys, hruns⟩ := hcounts
  unfold State.boardWords State.boardFields
  dsimp only
  rw [hstate, hkeys, hruns]
  rfl

/-! ## The link failed by a packet (R111, R112, R114) -/

/-- A packet that takes a link alone to FAULTED. -/
theorem exec_arrivalFailed (cause : Nat) (hp : parsePacket bytes = some p) (hs : s.betweenEvents) (h : s.listens)
    (ha : s.linkAlone) (hserved : s.link.state = .greeting ∨ p.isInput = false ∨ 1 ≤ s.room inputJournal)
    (hf : s.heard.servePacket ⟨p, s.now⟩ = s.heard.enterFaulted cause) :
    ∃ t, exec (.packetArrival bytes) s = .next t ∧ Failed s.heard t := by
  obtain ⟨hqueue, howed, -, hpressed, hbuttons⟩ := heardLink_queue s
  have halone : Alone s.heard := (Alone.of ha).congr
    ((Alone.of ha).calm.congr rfl ⟨hqueue, howed, hpressed, hbuttons⟩) (Alone.of ha).release
  obtain ⟨t, hgoes, htasks, -, hfailed⟩ := Goes.failed (rest := [.serveReceiveQueue]) halone
  have hfirst := Becomes.enterFaulted s.heard cause
  rw [← hf] at hfirst
  have hhand : State.hand s.heard.failedLink (s.heard.enterActs .faulted ++ [.baseFaultedOff]) =
      s.heard.failedLink.setTasks (s.heard.enterActs .faulted ++ .baseFaultedOff :: [.serveReceiveQueue]) := by
    show s.heard.failedLink.setTasks (_ ++ [.serveReceiveQueue]) = _
    rw [List.append_assoc]
    rfl
  rw [hhand] at hfirst
  have hidle : Goes 0 1 t (t.setTasks []) := .still htasks fun v hv => by
    obtain ⟨τ, a, -, rfl⟩ := hv
    have hlink := hfailed.link
    have hinputs := enteredLink_still s.heard .faulted halone.calm.inputs
    exact serveReceiveQueue_idle _ (by show t.link.receiveQueue = []; rw [hlink]; exact hinputs.1)
      (by show t.link.owed = []; rw [hlink]; exact hinputs.2.1)
  obtain ⟨x, hnext, hlike, -⟩ := takeEvent_carriedGoes (f := fun u => u.packetArrived p) hs (arrival_served hs.1 h hserved)
    ⟨_, _, .refl _, hfirst.frame⟩ (hgoes.next hidle) rfl
  obtain ⟨hnow, hlink, hfault, hattach, hoff, hdemand⟩ := hfailed
  have hdone : Failed s.heard (t.setTasks []) := ⟨hnow, hlink, hfault, hattach, hoff, hdemand⟩
  exact ⟨x, (exec_arrival hp).trans hnext, hdone.like hlike⟩

/-! ## Receivers that take nothing (R105) -/

theorem exec_arrivalDeaf (s : State) (bytes : List Byte) (hs : s.betweenEvents)
    (h : s.link.state.receiving = false ∨ s.link.ignoring = true) : exec (.packetArrival bytes) s = .next s := by
  refine takeEvent_self s _ hs ?_
  cases hp : parsePacket bytes with
  | none =>
    exact discardPacket_deaf s _ h
  | some p =>
    refine if_neg ?_
    rcases h with h | h <;> rw [h] <;> simp

end Sys2Proof.Machine
end

section
/-! PACKET_ARRIVAL (R112, R116 to R119) refuted: nothing in it asks that no slot waits when a LIGHT is acknowledged. -/

namespace Sys2Proof.Machine

set_option Elab.async false

/-- A part that awaits the backlight's confirmation while the base's grant is to fall to nothing. The link that loses it takes
the attachment, whose DETECT line is absent, to DETACHED; the calibration that fails frees the way for the slot that waits, and
its SET_POWER_SOURCE grants BASE_BASIC again. -/
def State.queuedBehind : State :=
  { State.reset with
    port := { State.reset.port with phase := .running }
    dispatch := { slots := (State.reset.dispatch.slots.set 0 (.taken false)).set 1 .posted, queue := [1]
                  serving := State.reset.dispatch.serving.set ServingUnit.angle.index (some 0) }
    angle := { State.reset.angle with calibration := some ⟨0, 0, 0⟩ }
    link := { State.reset.link with state := .ready }
    attach := { State.reset.attach with state := .attached }
    allot := { State.reset.allot with demand := ⟨0, 250, 0, 0⟩, grant := ⟨0, 250, 0, 0⟩
                                      increases := { noIncreases with base := some 0 }, awaiting := [⟨.backlight, 0⟩] }
    mem := [(slotBase 1 + 1, BitVec.ofNat 8 Request.setPowerSource.code)] }

/-- The acknowledgement of LIGHT by the model: BASE_BASIC is granted again at the end of the event. -/
theorem queuedBehind_regranted :
    exec (.packetArrival (packet [0x71, 0xB])) State.queuedBehind = .next (State.queuedBehind.event fun u => u.packetArrived (.ack 0xB)) ∧
      (State.queuedBehind.event fun u => u.packetArrived (.ack 0xB)).allot.grant.base = 250 :=
  ⟨exec_arrival (parse_ack 0xB), by decide +kernel⟩

/-- Refutes O46: with a slot waiting, the ACK of LIGHT does not leave the grants as the confirmation raises them. -/
theorem not_packetArrival : ¬ Obligations.PacketArrival := by
  unfold Obligations.PacketArrival
  intro h
  obtain ⟨-, hopen, -, -⟩ := h
  obtain ⟨-, -, -, -, -, -, -, -, -, hconfirmed⟩ := hopen State.queuedBehind ⟨rfl, rfl⟩ ⟨.inl rfl, rfl, rfl, rfl, rfl⟩
  obtain ⟨t, hnext, -, hgrant, -⟩ := hconfirmed 0 rfl (fun level hlevel => nomatch hlevel) rfl rfl ⟨rfl, rfl, rfl, rfl⟩
  obtain ⟨hrun, hbase⟩ := queuedBehind_regranted
  have hsame := Host.Outcome.next.inj (hnext.symm.trans hrun)
  rw [← hsame, hgrant] at hbase
  exact absurd hbase (by decide)

end Sys2Proof.Machine
end

section
/-! Input records and the input gate (R118, R120 to R124). -/

namespace Sys2Proof.Machine

set_option Elab.async false

variable {q : Bool} {L M : BitVec 10} {s t u v w e : State}

/-! ## An Input record (R124) -/

/-- The fields of an Input record with their widths in bytes. -/
def inputFields (kind : InputKind) (code dx dy : Byte) (time : PartTime) : List (Nat × Nat) :=
  [(1, kind.code), (1, code.toNat), (1, dx.toNat), (1, dy.toNat), (2, time.toNat % 65536), (2, 0)]

theorem inputFields_fit (kind : InputKind) (code dx dy : Byte) (time : PartTime) :
    ∀ f ∈ inputFields kind code dx dy time, f.2 < 256 ^ f.1 := by
  have hkind : kind.code < 256 := by cases kind <;> decide
  have hcode := code.isLt
  have hdx := dx.isLt
  have hdy := dy.isLt
  simp only [inputFields, List.forall_mem_cons]
  exact ⟨by simpa using hkind, by simpa using hcode, by simpa using hdx, by simpa using hdy,
    Nat.mod_lt _ (by decide), by decide, fun _ h => nomatch h⟩

theorem inputBytes_eq (kind : InputKind) (code dx dy : Byte) (time : PartTime) :
    bytesLE 1 kind.code ++ [code, dx, dy] ++ bytesLE 2 (time.toNat % 65536) ++ bytesLE 2 0 =
      recordBytes (inputFields kind code dx dy time) := by
  simp [recordBytes, inputFields, bytesLE]

theorem input_place (w : Half) :
    journalBase inputJournal + recordSize inputJournal * (w.toNat % journalCapacity inputJournal) = inputPlace w := rfl

/-- An Input record written with room, whole (R124). -/
theorem writeInput_eq (s : State) (kind : InputKind) (code dx dy : Byte) (time : PartTime) (h : s.used inputJournal < 256) :
    s.writeInput kind code dx dy time =
      { s with
        mem := s.mem.putBytes (inputPlace (s.journalOf inputJournal).writeCount) (recordBytes (inputFields kind code dx dy time))
        journal := { s.journal with
                     journals := s.journal.journals.set inputJournal ((s.journalOf inputJournal).advanced inputJournal)
                     quiet := some (s.after 20) }
        port := { s.port with attnLatch := s.recordLatch inputJournal } } := by
  unfold State.writeInput
  rw [inputBytes_eq, writeRecord_eq s inputJournal _ h, input_place]
  rfl

theorem get_of_getLE_one {m : Memory} {a : Nat} {b : Byte} (h : m.getLE a 1 = b.toNat) : m.get a = b :=
  BitVec.eq_of_toNat_eq h

/-- What an Input record written with room leaves. -/
structure InputWritten (s t : State) (kind : InputKind) (code dx dy : Byte) (time : PartTime) : Prop where
  record : t.inputAt (s.journalOf inputJournal).writeCount kind code dx dy time
  memory : ∀ a, a < inputPlace (s.journalOf inputJournal).writeCount ∨ inputPlace (s.journalOf inputJournal).writeCount + 8 ≤ a →
    t.mem.get a = s.mem.get a
  canonical : MemoryCanonical t
  count : (t.journalOf inputJournal).writeCount = (s.journalOf inputJournal).writeCount + 1
  used : t.used inputJournal = s.used inputJournal + 1
  quiet : t.journal.quiet = some (s.after 20)
  frame : t = s.withNoise t

theorem writeInput_written (s : State) (kind : InputKind) (code dx dy : Byte) (time : PartTime) (hm : MemoryCanonical s)
    (h : s.used inputJournal < 256) : InputWritten s (s.writeInput kind code dx dy time) kind code dx dy time := by
  have hwhole := writeInput_eq s kind code dx dy time h
  have hmem := congrArg State.mem hwhole
  have hjournal := congrArg (fun u : State => u.journalOf inputJournal) hwhole
  have hquiet := congrArg (fun u : State => u.journal.quiet) hwhole
  dsimp only at hmem hquiet hjournal
  have hqueue : (s.writeInput kind code dx dy time).journalOf inputJournal = (s.journalOf inputJournal).advanced inputJournal := by
    rw [hjournal]
    simp [State.journalOf]
  have hrecord := holdsRecord_putBytes s.mem hm (inputPlace (s.journalOf inputJournal).writeCount) _
    (inputFields_fit kind code dx dy time)
  obtain ⟨hkind, hcode, hdx, hdy, htime, hpad, -⟩ := hrecord
  refine ⟨?_, fun a ha => ?_, ?_, ?_, ?_, hquiet, ?_⟩
  · unfold State.inputAt
    rw [hmem]
    exact ⟨hkind, get_of_getLE_one hcode, get_of_getLE_one hdx, get_of_getLE_one hdy, htime, hpad⟩
  · rw [hmem]
    refine Memory.get_putBytes_ne _ hm _ _ _ ?_
    have hlength : (recordBytes (inputFields kind code dx dy time)).length = 8 := rfl
    rw [hlength]
    exact ha
  · unfold MemoryCanonical
    rw [hmem]
    exact Memory.wf_putBytes _ _ _ hm
  · rw [hqueue]
    rfl
  · unfold State.used
    rw [hqueue]
    exact used_advanced inputJournal _ h
  · rw [hwhole]
    rfl

theorem room_input (s : State) : s.room inputJournal = 256 - s.used inputJournal := rfl

/-! ## Owed releases (R123, R124) -/

/-- The kind and the code of an owed release's record. -/
def Owed.kind : Owed → InputKind
  | .key _ => .synthRelease
  | .pointer => .synthPointer

def Owed.code : Owed → Byte
  | .key code => code
  | .pointer => 0

theorem writeOwed_eq (s : State) {o : Owed} {rest : List Owed} (h : s.link.owed = o :: rest) :
    s.writeOwed = State.writeInput { s with link := { s.link with owed := rest } } o.kind o.code 0 0 s.now := by
  unfold State.writeOwed
  rw [h]
  cases o <;> rfl

theorem serveReceiveQueue_owes (s : State) (htasks : s.tasks = []) (h : s.link.owed ≠ []) (hroom : 1 ≤ s.room inputJournal) :
    s.serveReceiveQueue = s.writeOwed.hand [.serveReceiveQueue] := by
  unfold State.serveReceiveQueue
  rw [if_neg (by rw [htasks]; decide), if_pos (by simp [h, hroom])]

theorem nextEntry_none (s : State) (hqueue : s.link.receiveQueue = []) : s.nextEntry = none := by
  unfold State.nextEntry
  rw [hqueue]
  split <;> rfl

theorem serveReceiveQueue_full (s : State) (hqueue : s.link.receiveQueue = []) (hroom : s.room inputJournal = 0) :
    s.serveReceiveQueue = s := by
  unfold State.serveReceiveQueue
  rw [nextEntry_none s hqueue, hroom]
  simp

/-- From s to t the first k of the releases owed are written, oldest first. -/
structure ReleasesWritten (s t : State) (k : Nat) : Prop where
  frame : t = { s.withNoise t with link := { s.link with owed := s.link.owed.drop k }, tasks := [] }
  count : (t.journalOf inputJournal).writeCount = (s.journalOf inputJournal).writeCount + BitVec.ofNat 16 k
  memory : ∀ a, (∀ i, i < k → a < inputPlace ((s.journalOf inputJournal).writeCount + BitVec.ofNat 16 i) ∨
      inputPlace ((s.journalOf inputJournal).writeCount + BitVec.ofNat 16 i) + 8 ≤ a) → t.mem.get a = s.mem.get a
  records : ∀ i o, i < k → s.link.owed[i]? = some o →
    t.inputAt ((s.journalOf inputJournal).writeCount + BitVec.ofNat 16 i) o.kind o.code 0 0 s.now

theorem inputAt_congr {s t : State} {w : Half} {kind : InputKind} {code dx dy : Byte} {time : PartTime}
    (hmem : ∀ b, inputPlace w ≤ b → b < inputPlace w + 8 → t.mem.get b = s.mem.get b) (h : s.inputAt w kind code dx dy time) :
    t.inputAt w kind code dx dy time := by
  have field (a n : Nat) (hlo : inputPlace w ≤ a) (hhi : a + n ≤ inputPlace w + 8) : t.mem.getLE a n = s.mem.getLE a n :=
    getLE_congr _ _ _ _ fun b hb hbn => hmem b (by omega) (by omega)
  unfold State.inputAt at h ⊢
  rwa [field _ 1 (by omega) (by omega), field _ 2 (by omega) (by omega), field _ 2 (by omega) (by omega),
    hmem _ (by omega) (by omega), hmem _ (by omega) (by omega), hmem _ (by omega) (by omega)]

/-- Fewer than 256 records apart, two Input records share no byte. -/
theorem inputPlace_ne (w : Half) (i : Nat) (hi : i + 1 < 256) :
    inputPlace w + 8 ≤ inputPlace (w + 1 + BitVec.ofNat 16 i) ∨ inputPlace (w + 1 + BitVec.ofNat 16 i) + 8 ≤ inputPlace w := by
  have hone : (1 : Half).toNat = 1 := rfl
  unfold inputPlace
  rw [BitVec.toNat_add, BitVec.toNat_add, BitVec.toNat_ofNat, hone]
  omega

theorem ReleasesWritten.none (s : State) : ReleasesWritten s (s.setTasks []) 0 :=
  ⟨rfl, by simp [State.setTasks, State.journalOf], fun _ _ => rfl, fun i _ hi => absurd hi (Nat.not_lt_zero i)⟩

theorem ReleasesWritten.next {o : Owed} {rest : List Owed} {k : Nat} (howed : s.link.owed = o :: rest) (hk : k + 1 ≤ 256)
    (hfirst : InputWritten { s with link := { s.link with owed := rest }, tasks := [] } u o.kind o.code 0 0 s.now)
    (h : ReleasesWritten (u.setTasks [.serveReceiveQueue]) t k) :
    ReleasesWritten s t (k + 1) := by
  obtain ⟨hrecord, hmem, -, hcount, -, -, hu⟩ := hfirst
  obtain ⟨hframe, hcounts, hmemory, hrecords⟩ := h
  have hnow : u.now = s.now := by rw [hu]; rfl
  have hlink : u.link = { s.link with owed := rest } := by rw [hu]; rfl
  have hcount : (u.journalOf inputJournal).writeCount = (s.journalOf inputJournal).writeCount + 1 := hcount
  have hsucc (i : Nat) : (s.journalOf inputJournal).writeCount + BitVec.ofNat 16 (i + 1) =
      (s.journalOf inputJournal).writeCount + 1 + BitVec.ofNat 16 i := by
    rw [BitVec.add_assoc, Nat.add_comm i 1, BitVec.ofNat_add]
    rfl
  have hplace (i : Nat) : (u.journalOf inputJournal).writeCount + BitVec.ofNat 16 i =
      (s.journalOf inputJournal).writeCount + BitVec.ofNat 16 (i + 1) := by rw [hcount, hsucc]
  refine ⟨?_, ?_, fun a ha => ?_, fun i p hi hp => ?_⟩
  · rw [howed]
    change t = { u.withNoise t with link := { u.link with owed := u.link.owed.drop k }, tasks := [] } at hframe
    rw [hlink, hu] at hframe
    exact hframe
  · exact hcounts.trans (hplace k)
  · have hlater := hmemory a fun i hi => by
      have := ha (i + 1) (by omega)
      rwa [← hplace] at this
    have hzero := ha 0 (by omega)
    rw [show (s.journalOf inputJournal).writeCount + BitVec.ofNat 16 0 = (s.journalOf inputJournal).writeCount by simp] at hzero
    exact hlater.trans (hmem a hzero)
  · rw [howed] at hp
    cases i with
    | zero =>
      obtain rfl : o = p := Option.some.inj hp
      rw [show (s.journalOf inputJournal).writeCount + BitVec.ofNat 16 0 = (s.journalOf inputJournal).writeCount by simp]
      refine inputAt_congr (fun b hlo hhi => hmemory b fun i hi' => ?_) hrecord
      have hapart := inputPlace_ne (s.journalOf inputJournal).writeCount i (by omega)
      rw [← hsucc, ← hplace] at hapart
      change inputPlace (s.journalOf inputJournal).writeCount + 8 ≤ inputPlace ((u.journalOf inputJournal).writeCount + _) ∨
        inputPlace ((u.journalOf inputJournal).writeCount + _) + 8 ≤ _ at hapart
      show b < inputPlace ((u.journalOf inputJournal).writeCount + _) ∨ inputPlace ((u.journalOf inputJournal).writeCount + _) + 8 ≤ b
      omega
    | succ i =>
      have hlater := hrecords i p (by omega) (by
        show u.link.owed[i]? = some p
        rw [hlink]
        exact hp)
      rw [← hplace, ← hnow]
      exact hlater

/-- The releases owed are written while there is room. -/
theorem Carried.owedWritten (owed : List Owed) (s : State) (hm : MemoryCanonical s) (htasks : s.tasks = [.serveReceiveQueue])
    (hqueue : s.link.receiveQueue = []) (howed : s.link.owed = owed) :
    ∃ t, Carried (min owed.length (s.room inputJournal) + 1) s t ∧ ReleasesWritten s t (min owed.length (s.room inputJournal)) := by
  induction owed generalizing s with
  | nil =>
    rw [List.length_nil, Nat.zero_min]
    exact ⟨_, .front_eq htasks (serveReceiveQueue_idle (s.setTasks []) hqueue howed), .none s⟩
  | cons o rest ih =>
    by_cases hroom : s.room inputJournal = 0
    · rw [hroom, Nat.min_zero]
      exact ⟨_, .front_eq htasks (serveReceiveQueue_full (s.setTasks []) hqueue hroom), .none s⟩
    obtain ⟨x, hx⟩ : ∃ x, x = State.setTasks { s with link := { s.link with owed := rest } } [] := ⟨_, rfl⟩
    have hused : x.used inputJournal < 256 := by
      rw [hx]
      have hcapacity := room_input s
      show s.used inputJournal < 256
      omega
    have hwritten := writeInput_written x o.kind o.code 0 0 s.now (by rw [hx]; exact hm) hused
    obtain ⟨y, hy⟩ : ∃ y, y = x.writeInput o.kind o.code 0 0 s.now := ⟨_, rfl⟩
    rw [← hy] at hwritten
    have hyframe := hwritten.frame
    have hytasks : y.tasks = [] := by rw [hyframe, hx]; rfl
    have hstep : Carried 1 s (y.setTasks [.serveReceiveQueue]) := by
      refine .front_eq htasks ?_
      show State.serveReceiveQueue (s.setTasks []) = _
      rw [serveReceiveQueue_owes (s.setTasks []) rfl (by rw [show (s.setTasks []).link.owed = o :: rest from howed]; simp)
        (Nat.one_le_iff_ne_zero.mpr hroom), writeOwed_eq (s.setTasks []) howed]
      show State.hand (State.writeInput (State.setTasks { s with link := { s.link with owed := rest } } []) o.kind o.code 0 0 s.now) _ = _
      rw [← hx, ← hy, State.hand, hytasks]
      rfl
    have hroom' : (y.setTasks [.serveReceiveQueue]).room inputJournal = s.room inputJournal - 1 := by
      have hyused : (y.setTasks [.serveReceiveQueue]).used inputJournal = s.used inputJournal + 1 := by
        refine hwritten.used.trans ?_
        rw [hx]
        rfl
      rw [room_input, room_input, hyused]
      omega
    obtain ⟨t, hcarried, hdone⟩ := ih (y.setTasks [.serveReceiveQueue]) hwritten.canonical rfl
      (by show y.link.receiveQueue = []; rw [hyframe, hx]; exact hqueue) (by show y.link.owed = rest; rw [hyframe, hx]; rfl)
    rw [hroom'] at hcarried hdone
    have hmin : min (o :: rest).length (s.room inputJournal) = min rest.length (s.room inputJournal - 1) + 1 := by
      rw [List.length_cons]
      omega
    rw [hmin]
    refine ⟨t, ?_, .next howed ?_ (by rw [hx] at hwritten; exact hwritten) hdone⟩
    · have hall := hstep.trans hcarried
      rwa [Nat.add_comm 1] at hall
    · have hcapacity := room_input s
      omega

/-- An event whose hand-ons may be as many as the releases that the Input Journal holds. -/
theorem takeEvent_carriedLong {k : Nat} {f : State → State} (hs : s.betweenEvents) (h : Carried k (f s) t) (ht : t.tasks = [])
    (hk : k ≤ 300) : takeEvent s f = .next (t.closeBoard s) := by
  have hlimit : 300 ≤ Config.handOnLimit := by decide
  unfold takeEvent
  rw [event_between s f hs, h.done ht _ (hk.trans hlimit), setTasks_self t ht]

/-- A read count that makes room in the Input Journal has the releases owed written (R17, R123, R124). -/
theorem exec_releasesWritten (s : State) (data : Word) (hs : s.sound) (hh : s.port.hrst = false)
    (hqueue : s.link.receiveQueue = []) (hused : ((s.journalOf inputJournal).writeCount - data.setWidth 16).toNat ≤ 256)
    (hroom : s.room inputJournal < 256 - ((s.journalOf inputJournal).writeCount - data.setWidth 16).toNat) :
    ∃ u, exec (.readCountWrite inputJournal data) s = .next (u.closeBoard s) ∧
      ReleasesWritten (s.readMoved inputJournal (data.setWidth 16)) u
        (min s.link.owed.length (256 - ((s.journalOf inputJournal).writeCount - data.setWidth 16).toNat)) := by
  obtain ⟨v, hv⟩ : ∃ v, v = s.readMoved inputJournal (data.setWidth 16) := ⟨_, rfl⟩
  have hframe := readMoved_frame s inputJournal (data.setWidth 16)
  rw [← hv] at hframe
  have hvroom : v.room inputJournal = 256 - ((s.journalOf inputJournal).writeCount - data.setWidth 16).toNat := by
    have hvused := readMoved_used s inputJournal (data.setWidth 16)
    rw [if_pos (show _ ≤ journalCapacity inputJournal from hused), ← hv] at hvused
    rw [room_input, hvused]
  have hmoved : s.moveReadCount inputJournal data = v.setTasks [.serveReceiveQueue] := by
    rw [moveReadCount_eq s inputJournal data fun h => absurd h (by decide), if_pos ⟨rfl, by rw [← hv, hvroom]; exact hroom⟩, ← hv,
      State.hand, show v.tasks = [] by rw [hframe]; exact hs.1.1]
    rfl
  obtain ⟨u, hcarried, hwritten⟩ := Carried.owedWritten s.link.owed (v.setTasks [.serveReceiveQueue])
    (by show v.mem.wf = true; rw [hframe]; exact hs.2) rfl (by show v.link.receiveQueue = []; rw [hframe]; exact hqueue)
    (by show v.link.owed = s.link.owed; rw [hframe])
  change ReleasesWritten _ u (min _ (v.room inputJournal)) at hwritten
  change Carried (min _ (v.room inputJournal) + 1) _ u at hcarried
  rw [hvroom] at hcarried hwritten
  have hfew : min s.link.owed.length (256 - ((s.journalOf inputJournal).writeCount - data.setWidth 16).toNat) + 1 ≤ 300 := by omega
  refine ⟨u, ?_, ?_⟩
  · refine takeEvent_carriedLong hs.1 ?_ (by rw [hwritten.frame]) hfew
    rw [whenOpen_open s _ hh, hmoved]
    exact hcarried
  · rw [← hv]
    obtain ⟨hf, hc, hm, hr⟩ := hwritten
    exact ⟨hf, hc, hm, hr⟩

end Sys2Proof.Machine
end

section
/-! KEY and POINTER packets at the input gate (R118, R120 to R124). -/

namespace Sys2Proof.Machine

set_option Elab.async false

variable {q : Bool} {L M : BitVec 10} {s t u v w e : State} {p : BasePacket} {bytes : List Byte}

/-! ## A packet delivered (R124) -/

/-- From s to t an Input record is delivered, with the activity it is. -/
structure Delivered (s t : State) (kind : InputKind) (code dx dy : Byte) (link : LinkUnit) : Prop where
  link : t.link = link
  record : t.inputAt (s.journalOf inputJournal).writeCount kind code dx dy s.now
  count : (t.journalOf inputJournal).writeCount = (s.journalOf inputJournal).writeCount + 1
  quiet : t.journal.quiet = some (s.after 20)
  idle : t.sleep.idle = s.idleRestarted.1
  idleShown : t.sleep.idleShown = s.idleRestarted.2

theorem inputPlace_bounds (w : Half) : 0x2000 ≤ inputPlace w ∧ inputPlace w + 8 ≤ 0x2800 := by
  unfold inputPlace
  omega

theorem activeSleep_on (s : State) (h : s.hostOn = true) :
    s.activeSleep.idle = s.idleRestarted.1 ∧ s.activeSleep.idleShown = s.idleRestarted.2 := by
  unfold State.activeSleep
  rw [if_pos h]
  exact ⟨rfl, rfl⟩

/-- Activity, a wake event that finds the host ON, and the queue looked to. -/
theorem Leads.delivered {wake : List Task} (hwake : wake = [] ∨ ∃ w, wake = [.wakeEvent w])
    (htasks : s.tasks = .activity :: (wake ++ [.serveReceiveQueue])) (hon : s.sleep.host = .on) (hqueue : s.link.receiveQueue = [])
    (howed : s.link.owed = []) : ∃ k ≤ 3, Leads false 0 k s { s with sleep := s.activeSleep, tasks := [] } := by
  have hactive := Leads.activity htasks
  obtain ⟨σ, hσ⟩ : ∃ σ, σ = s.activeSleep := ⟨_, rfl⟩
  have hhost : σ.host = .on := by
    rw [hσ, activeSleep_alike]
    exact hon
  rw [← hσ] at hactive ⊢
  have hlast : Leads false 0 1 { s with sleep := σ, tasks := [.serveReceiveQueue] } { s with sleep := σ, tasks := [] } :=
    .exact rfl fun a => serveReceiveQueue_idle _ hqueue howed
  rcases hwake with rfl | ⟨w, rfl⟩
  · exact ⟨2, by decide, hactive.next hlast⟩
  · have hevent : Leads false 0 1 { s with sleep := σ, tasks := [.wakeEvent w, .serveReceiveQueue] }
        { s with sleep := σ, tasks := [.serveReceiveQueue] } := .exact rfl fun a => wakeEvent_on _ w hhost
    exact ⟨3, by decide, (hactive.next hevent).next hlast⟩

theorem exec_delivered {wake : List Task} {kind : InputKind} {code dx dy : Byte} {link : LinkUnit}
    (hp : parsePacket bytes = some p) (hs : s.sound) (h : s.linkListens) (hroom : 1 ≤ s.room inputJournal)
    (hwake : wake = [] ∨ ∃ w, wake = [.wakeEvent w])
    (hserve : s.heard.servePacket ⟨p, s.now⟩ = State.deliver { s.heard with link := link } kind code dx dy s.now wake)
    (hqueue : link.receiveQueue = []) (howed : link.owed = []) :
    ∃ t, exec (.packetArrival bytes) s = .next t ∧ Delivered s t kind code dx dy link := by
  obtain ⟨x, hx⟩ : ∃ x, x = { s.heard with link := link } := ⟨_, rfl⟩
  have hused : x.used inputJournal < 256 := by
    have hcapacity := room_input s
    rw [hx]
    show s.used inputJournal < 256
    omega
  have hwritten := writeInput_written x kind code dx dy s.now (by rw [hx]; exact hs.2) hused
  have hserved := arrival_served hs.1.1 (listens_of h) (.inr (.inr hroom)) (p := p)
  rw [hserve, ← hx] at hserved
  unfold State.deliver at hserved
  generalize x.writeInput kind code dx dy s.now = y at hserved hwritten
  obtain ⟨hrecord, -, hcanonical, hcount, -, hquiet, hframe⟩ := hwritten
  have hyx : y.link = link ∧ y.tasks = [.serveReceiveQueue] ∧ y.sleep = s.sleep ∧ y.idleRestarted = s.idleRestarted := by
    rw [hframe, hx]
    exact ⟨rfl, rfl, rfl, rfl⟩
  obtain ⟨hlink, htasks, hsleep, hidle⟩ := hyx
  have hon : (y.hand (.activity :: wake)).hostOn = true := by
    unfold State.hostOn
    rw [show (y.hand (.activity :: wake)).sleep = s.sleep from hsleep]
    exact h.2.2.2.2
  obtain ⟨k, hk, hleads⟩ := Leads.delivered (s := y.hand (.activity :: wake)) hwake
    (by show _ ++ y.tasks = _; rw [htasks]; rfl) ((hostOn_iff _).mp hon) (by show y.link.receiveQueue = []; rw [hlink]; exact hqueue)
    (by show y.link.owed = []; rw [hlink]; exact howed)
  obtain ⟨t, hnext, htframe, hdrift⟩ := takeEvent_carriedLeads (f := fun u => u.packetArrived p) hs.1 hserved hleads rfl (by omega)
  have hplace := inputPlace_bounds (x.journalOf inputJournal).writeCount
  obtain ⟨hidle', hshown'⟩ := activeSleep_on _ hon
  have hjournal : t.journalOf inputJournal = y.journalOf inputJournal := hdrift.journals inputJournal (by decide)
  refine ⟨t, (exec_arrival hp).trans hnext, ?_, ?_, ?_, ?_, ?_, ?_⟩
  · rw [htframe]
    exact hlink
  · have hin := inputAt_congr (t := t) (fun b hlo hhi => hdrift.memory hcanonical b (by omega)) hrecord
    rw [hx] at hin
    exact hin
  · rw [hjournal, hcount, hx]
    rfl
  · rw [hdrift.timer]
    refine hquiet.trans ?_
    rw [hx]
    rfl
  · rw [htframe]
    exact hidle'.trans (congrArg Prod.fst hidle)
  · rw [htframe]
    exact hshown'.trans (congrArg Prod.snd hidle)

/-! ## Arrivals that rewrite the board, or wait -/

theorem exec_arrivalSeen {k : Nat} (hp : parsePacket bytes = some p) (hs : s.betweenEvents) (h : s.listens)
    (hserved : s.link.state = .greeting ∨ p.isInput = false ∨ 1 ≤ s.room inputJournal)
    (hv : Carried k (s.heard.servePacket ⟨p, s.now⟩) (v.setTasks [.serveReceiveQueue])) (hbetween : v.betweenEvents)
    (hqueue : v.link.receiveQueue = []) (howed : v.link.owed = []) (hk : k ≤ 90 := by decide) :
    ∃ t, exec (.packetArrival bytes) s = .next t ∧ t = { v with port := t.port } ∧ PortUnit.sameButBoard v.port t.port := by
  refine ⟨v.closeBoard s, ?_, ?_, (closeBoard_sameButBoard v s v.port hbetween.2 ⟨v.port.boardTouched, rfl⟩).1⟩
  · rw [exec_arrival hp]
    exact takeEvent_carried hs (arrival_still hs.1 h hserved hv hbetween.1 hqueue howed) hbetween.1 (by omega)
  · rw [closeBoard_frame]

theorem exec_arrivalWaits (hp : parsePacket bytes = some p) (hs : s.betweenEvents) (h : s.linkListens)
    (hkind : p.isInput = true) (hroom : s.room inputJournal = 0) :
    exec (.packetArrival bytes) s = .next { s with link := { s.linkHeard with receiveQueue := [⟨p, s.now⟩] } } := by
  have hstate := h.1
  rw [exec_arrival hp]
  refine takeEvent_settled (k := 1) hs ?_ hs rfl
  rw [packetArrived_listening (listens_of h), heardLink_open hstate]
  refine .front_eq (x := .serveReceiveQueue) (rest := []) (by rw [State.hand, hs.1]; rfl) ?_
  have hnone : State.nextEntry { s with link := { s.linkHeard with receiveQueue := [⟨p, s.now⟩] } } = none := by
    unfold State.nextEntry State.inputFree
    rw [if_neg]
    · rw [List.find?_cons_of_neg (by rw [hkind]; decide)]
      rfl
    · rintro (hgreeting | hfree)
      · have hgreeting : s.link.state = .greeting := hgreeting
        rcases hstate with hs | hs <;> rw [hs] at hgreeting <;> cases hgreeting
      · have hfree : (s.link.owed.isEmpty && decide (1 ≤ s.room inputJournal)) = true := hfree
        rw [hroom] at hfree
        simp at hfree
  show State.serveReceiveQueue (State.setTasks { s with link := { s.linkHeard with receiveQueue := [⟨p, s.now⟩] } } []) = _
  rw [setTasks_self { s with link := { s.linkHeard with receiveQueue := [⟨p, s.now⟩] } } hs.1]
  unfold State.serveReceiveQueue
  rw [hnone, if_neg (by show ¬ s.tasks.contains _ = true; rw [hs.1]; decide), if_neg (by
    show ¬ (!s.link.owed.isEmpty && decide (1 ≤ s.room inputJournal)) = true
    rw [hroom]
    simp)]

/-! ## KEY and POINTER (R121, R122) -/

theorem writeRecord_setTasks (t : State) (ts : List Task) (j : Fin 3) (b : List Byte) :
    (t.setTasks ts).writeRecord j b = (t.writeRecord j b).setTasks ts := by
  unfold State.writeRecord
  simp only [apply_ite (State.setTasks · ts)]
  rfl

/-- A notice offered does not depend on the hand-ons that wait. -/
theorem offerNotice_setTasks (t : State) (ts : List Task) (k : NoticeKind) (c o n a : Nat) :
    (t.setTasks ts).offerNotice k c o n a = (t.offerNotice k c o n a).setTasks ts := by
  have hnotice (u : State) : (u.setTasks ts).writeNotice k c o n a = (u.writeNotice k c o n a).setTasks ts :=
    writeRecord_setTasks _ _ _ _
  have hgapped (u : State) : (u.setTasks ts).writeGap = u.writeGap.setTasks ts := writeRecord_setTasks _ _ _ _
  have hdrop (u : State) : (u.setTasks ts).countDrop noticeJournal = (u.countDrop noticeJournal).setTasks ts := rfl
  have hgap (u : State) (x : Nat) : (u.setTasks ts).setGap x = (u.setGap x).setTasks ts := rfl
  have hroom (u : State) : (u.setTasks ts).room noticeJournal = u.room noticeJournal := rfl
  have hjournal (u : State) : (u.setTasks ts).journal = u.journal := rfl
  unfold State.offerNotice
  simp only [apply_ite (State.setTasks · ts), hnotice, hdrop, hgap, hroom, hgapped, hjournal]

theorem writeRecord_touched (s : State) (j : Fin 3) (b : List Byte) :
    (s.writeRecord j b).port.boardTouched = s.port.boardTouched := by
  unfold State.writeRecord
  dsimp only
  split
  · split <;> rfl
  · rfl

theorem offerNotice_touched (s : State) (k : NoticeKind) (c o n a : Nat) :
    (s.offerNotice k c o n a).port.boardTouched = s.port.boardTouched := by
  have hnotice (u : State) : (u.writeNotice k c o n a).port.boardTouched = u.port.boardTouched := writeRecord_touched u _ _
  have hgap : s.writeGap.port.boardTouched = s.port.boardTouched := writeRecord_touched s _ _
  unfold State.offerNotice
  dsimp only
  split
  · split
    · exact hnotice s
    · rfl
  · split
    · exact (hnotice _).trans hgap
    · split
      · exact hgap
      · rfl

section
variable (s) (code : Byte) (arrival : PartTime)

theorem servePress_open (hopen : s.keyboardOpen = true) (hfew : s.link.pressed.length < 16) :
    s.servePress code arrival =
      State.deliver
        { s with link := { s.link with pressed := if code ∈ s.link.pressed then s.link.pressed else s.link.pressed ++ [code] } }
        .keyPress code 0 0 arrival [.wakeEvent .key] := by
  unfold State.servePress
  rw [if_pos hopen, if_pos hfew]
  simp only [List.contains_iff_mem]
  rfl

theorem servePress_closed (hclosed : s.keyboardOpen = false) :
    s.servePress code arrival = { s with link := { s.link with keyDropped := countUp s.link.keyDropped } } :=
  if_neg (by rw [hclosed]; decide)

theorem servePress_many (hopen : s.keyboardOpen = true) (hmany : 16 ≤ s.link.pressed.length) :
    s.servePress code arrival =
      State.offerNotice { s with link := { s.link with keyDropped := countUp s.link.keyDropped } } .link 11 s.link.state.code
        s.link.state.code 0 := by
  unfold State.servePress
  rw [if_pos hopen, if_neg (by omega)]
  rfl

theorem serveRelease_held (h : code ∈ s.link.pressed) :
    s.serveRelease code arrival =
      State.deliver { s with link := { s.link with pressed := s.link.pressed.filter (· ≠ code) } } .keyRelease code 0 0 arrival [] :=
  if_pos (List.contains_iff_mem.mpr h)

theorem serveRelease_loose (h : code ∉ s.link.pressed) : s.serveRelease code arrival = s :=
  if_neg fun hc => h (List.contains_iff_mem.mp hc)

theorem servePointer_open (dx dy : Byte) (buttons : BitVec 3) (hopen : s.pointerOpen = true) :
    s.servePointer dx dy buttons arrival =
      State.deliver { s with link := { s.link with buttons := buttons } } .pointer (buttons.setWidth 8) dx dy arrival
        [.wakeEvent .pointer] := if_pos hopen

theorem servePointer_closed (dx dy : Byte) (buttons : BitVec 3) (hclosed : s.pointerOpen = false) :
    s.servePointer dx dy buttons arrival = s := if_neg (by rw [hclosed]; decide)

end

/-- In READY and QUIESCED an input packet goes to the gate. -/
theorem servePacket_input (h : s.link.state = .ready ∨ s.link.state = .quiesced) (time : PartTime) :
    (∀ code, s.servePacket ⟨.key code true, time⟩ = s.servePress code time) ∧
      (∀ code, s.servePacket ⟨.key code false, time⟩ = s.serveRelease code time) ∧
      ∀ dx dy buttons, s.servePacket ⟨.pointer dx dy buttons, time⟩ = s.servePointer dx dy buttons time := by
  unfold State.servePacket
  rcases h with h | h <;> rw [h] <;> exact ⟨fun _ => rfl, fun _ => rfl, fun _ _ _ => rfl⟩

/-- The low three bits of a byte, as a POINTER's buttons stand in its record. -/
theorem buttons_low (b : Byte) : (b.setWidth 3).setWidth 8 = b &&& 7 := by
  apply BitVec.eq_of_toNat_eq
  have hmask : b.toNat &&& 7 = b.toNat % 8 := Nat.and_two_pow_sub_one_eq_mod b.toNat 3
  have hseven : (7 : Byte).toNat = 7 := rfl
  simp only [BitVec.toNat_setWidth, BitVec.toNat_and, hseven]
  omega

section
variable (hs : s.sound) (h : s.linkListens) (hroom : 1 ≤ s.room inputJournal)
include h

theorem heard_open : s.heard.link = s.linkHeard ∧ (s.heard.link.state = .ready ∨ s.heard.link.state = .quiesced) := by
  have hlink : s.heard.link = s.linkHeard := heardLink_open h.1
  exact ⟨hlink, by rw [hlink]; exact h.1⟩

theorem heard_gate : s.heard.keyboardOpen = s.keyboardOpen ∧ s.heard.pointerOpen = s.pointerOpen := by
  obtain ⟨hlink, -⟩ := heard_open h
  unfold State.keyboardOpen State.pointerOpen
  rw [hlink]
  exact ⟨rfl, rfl⟩

include hs hroom

theorem exec_keyPress (code : Byte) (hcode : code ≠ 0) (hcode' : code ≠ 255) :
    let dropped : State := { s with link := { s.linkHeard with keyDropped := countUp s.link.keyDropped } }
    (s.keyboardOpen = true → s.link.pressed.length < 16 →
      ∃ t, exec (.packetArrival (packet [0x22, code, 1])) s = .next t ∧ Delivered s t .keyPress code 0 0
        { s.linkHeard with pressed := if code ∈ s.link.pressed then s.link.pressed else s.link.pressed ++ [code] }) ∧
      (s.keyboardOpen = false →
        ∃ t, exec (.packetArrival (packet [0x22, code, 1])) s = .next t ∧ t = { dropped with port := t.port } ∧
          PortUnit.sameButBoard s.port t.port) ∧
      (s.keyboardOpen = true → 16 ≤ s.link.pressed.length →
        ∃ t, exec (.packetArrival (packet [0x22, code, 1])) s = .next t ∧
          t = { dropped.offerNotice .link 11 s.link.state.code s.link.state.code 0 with port := t.port } ∧
          PortUnit.sameButBoard (dropped.offerNotice .link 11 s.link.state.code s.link.state.code 0).port t.port) := by
  intro dropped
  obtain ⟨hlink, hstate⟩ := heard_open h
  obtain ⟨hgate, -⟩ := heard_gate h
  obtain ⟨hserve, -, -⟩ := servePacket_input hstate s.now
  have hp : parsePacket (packet [0x22, code, 1]) = some (.key code true) := parse_key code hcode hcode' true
  refine ⟨fun hopen hfew => ?_, fun hclosed => ?_, fun hopen hmany => ?_⟩
  · refine exec_delivered hp hs h hroom (.inr ⟨.key, rfl⟩) ?_ h.2.2.1 h.2.2.2.1
    rw [hserve, servePress_open s.heard code s.now (hgate.trans hopen) (by rw [hlink]; exact hfew), hlink]
    rfl
  · have hclosed' := servePress_closed s.heard code s.now (hgate.trans hclosed)
    refine exec_arrivalSeen (v := dropped) (k := 0) hp hs.1 (listens_of h) (.inr (.inr hroom)) ?_ hs.1 h.2.2.1 h.2.2.2.1
    rw [hserve, hclosed', hlink]
    exact .refl _
  · have hmany' := servePress_many s.heard code s.now (hgate.trans hopen) (by rw [hlink]; exact hmany)
    have hbetween : (dropped.offerNotice .link 11 s.link.state.code s.link.state.code 0).betweenEvents := by
      obtain ⟨htasks, htouched⟩ := hs.1
      refine ⟨?_, ?_⟩
      · rw [offerNotice_frame]
        exact htasks
      · exact (offerNotice_touched dropped _ _ _ _ _).trans htouched
    refine exec_arrivalSeen (v := dropped.offerNotice .link 11 s.link.state.code s.link.state.code 0) (k := 0) hp hs.1
      (listens_of h) (.inr (.inr hroom)) ?_ hbetween (by rw [offerNotice_frame]; exact h.2.2.1)
      (by rw [offerNotice_frame]; exact h.2.2.2.1)
    rw [hserve, hmany', hlink, ← offerNotice_setTasks]
    exact .refl _

theorem exec_keyRelease (code : Byte) (hcode : code ≠ 0) (hcode' : code ≠ 255) :
    (code ∈ s.link.pressed →
      ∃ t, exec (.packetArrival (packet [0x22, code, 0])) s = .next t ∧
        Delivered s t .keyRelease code 0 0 { s.linkHeard with pressed := s.link.pressed.filter (· ≠ code) }) ∧
      (code ∉ s.link.pressed → exec (.packetArrival (packet [0x22, code, 0])) s = .next { s with link := s.linkHeard }) := by
  obtain ⟨hlink, hstate⟩ := heard_open h
  obtain ⟨-, hserve, -⟩ := servePacket_input hstate s.now
  have hp : parsePacket (packet [0x22, code, 0]) = some (.key code false) := parse_key code hcode hcode' false
  refine ⟨fun hheld => ?_, fun hloose => ?_⟩
  · refine exec_delivered hp hs h hroom (.inl rfl) ?_ h.2.2.1 h.2.2.2.1
    rw [hserve, serveRelease_held s.heard code s.now (by rw [hlink]; exact hheld), hlink]
    rfl
  · rw [← heardLink_open h.1]
    refine exec_arrivalIgnored (k := 0) hp hs.1 (listens_of h) (.inr (.inr hroom)) ?_
    rw [hserve, serveRelease_loose s.heard code s.now (by rw [hlink]; exact hloose)]
    exact .refl _

theorem exec_pointer (dx dy buttons : Byte) :
    (s.pointerOpen = true →
      ∃ t, exec (.packetArrival (packet [0x33, dx, dy, buttons])) s = .next t ∧
        Delivered s t .pointer (buttons &&& 7) dx dy { s.linkHeard with buttons := buttons.setWidth 3 }) ∧
      (s.pointerOpen = false → exec (.packetArrival (packet [0x33, dx, dy, buttons])) s = .next { s with link := s.linkHeard }) := by
  obtain ⟨hlink, hstate⟩ := heard_open h
  obtain ⟨-, hgate⟩ := heard_gate h
  obtain ⟨-, -, hserve⟩ := servePacket_input hstate s.now
  have hp := parse_pointer dx dy buttons
  refine ⟨fun hopen => ?_, fun hclosed => ?_⟩
  · refine exec_delivered hp hs h hroom (.inr ⟨.pointer, rfl⟩) ?_ h.2.2.1 h.2.2.2.1
    rw [hserve, servePointer_open s.heard s.now dx dy (buttons.setWidth 3) (hgate.trans hopen), hlink, buttons_low]
  · rw [← heardLink_open h.1]
    refine exec_arrivalIgnored (k := 0) hp hs.1 (listens_of h) (.inr (.inr hroom)) ?_
    rw [hserve, servePointer_closed s.heard s.now dx dy (buttons.setWidth 3) (hgate.trans hclosed)]
    exact .refl _

end

/-! ## The releases a closing half owes (R123) -/

theorem closeHalves_eq (u : LinkUnit) (keyboard pointer : Bool) :
    u.closeHalves keyboard pointer =
      { u with
        owed := u.owed ++ (if keyboard then u.pressed.map .key else []) ++ (if pointer = true ∧ u.buttons ≠ 0 then [.pointer] else [])
        pressed := if keyboard then [] else u.pressed
        buttons := if pointer then 0 else u.buttons } := by
  have hkeys : (if keyboard then { u with owed := u.owed ++ u.pressed.map Owed.key, pressed := [] } else u) =
      { u with owed := u.owed ++ (if keyboard then u.pressed.map .key else []), pressed := if keyboard then [] else u.pressed } := by
    cases keyboard
    · simp
    · rfl
  unfold LinkUnit.closeHalves
  dsimp only
  rw [hkeys]
  dsimp only
  cases pointer with
  | false => simp
  | true =>
    by_cases hbuttons : u.buttons = 0
    · simp [hbuttons]
    · have hheld : (u.buttons != 0) = true := by simpa using hbuttons
      simp only [Bool.true_and, hheld, if_true, ne_eq, hbuttons, not_false_eq_true, and_self]

/-- Settles O48: each packet is served once at the gate; without room it waits; a read count that makes room has the releases
owed written one by one; and closing halves is `closeHalves` read off. -/
theorem inputGate : Obligations.InputGate := by
  unfold Obligations.InputGate
  refine ⟨fun s hs h hroom => ?_, fun s hs h hroom => ?_, fun s data hs hh hqueue => ?_, fun s => ?_⟩
  · intro W delivered refused dropped
    have hshown {body : List Byte} {kind : InputKind} {code dx dy : Byte} {link : LinkUnit}
        (hd : ∃ t, exec (.packetArrival (packet body)) s = .next t ∧ Delivered s t kind code dx dy link) :
        delivered body kind code dx dy link := by
      obtain ⟨t, hnext, hlink, hrecord, hcount, hquiet, hidle, hshown⟩ := hd
      exact ⟨t, hnext, hlink, hrecord, hcount, hquiet, hidle, hshown⟩
    refine ⟨fun code hcode hcode' => ?_, fun dx dy buttons => ?_⟩
    · obtain ⟨hopen, hclosed, hmany⟩ := exec_keyPress hs h hroom code hcode hcode'
      obtain ⟨hheld, hloose⟩ := exec_keyRelease hs h hroom code hcode hcode'
      exact ⟨fun ho hf => hshown (hopen ho hf), hclosed, hmany, fun hk => hshown (hheld hk), hloose⟩
    · obtain ⟨hopen, hclosed⟩ := exec_pointer hs h hroom dx dy buttons
      exact ⟨fun ho => hshown (hopen ho), hclosed⟩
  · intro waits
    exact ⟨fun code hcode hcode' =>
      ⟨exec_arrivalWaits (parse_key code hcode hcode' true) hs h rfl hroom,
        exec_arrivalWaits (parse_key code hcode hcode' false) hs h rfl hroom⟩,
      fun dx dy buttons => exec_arrivalWaits (parse_pointer dx dy buttons) hs h rfl hroom⟩
  · intro q used k hused hroom
    obtain ⟨u, hnext, hframe, hcount, -, hrecords⟩ := exec_releasesWritten s data hs hh hqueue hused hroom
    have hmoved := readMoved_frame s inputJournal (data.setWidth 16)
    have hstands : ((s.readMoved inputJournal (data.setWidth 16)).journalOf inputJournal).writeCount = q.writeCount := by
      rw [readMoved_journalOf, moveRead_valid _ _ _ (show _ ≤ journalCapacity inputJournal from hused)]
    have hlink : (s.readMoved inputJournal (data.setWidth 16)).link = s.link := by rw [hmoved]
    have hnow : (s.readMoved inputJournal (data.setWidth 16)).now = s.now := by rw [hmoved]
    rw [hstands, hlink, hnow] at hrecords
    rw [hstands] at hcount
    rw [hlink] at hframe
    refine ⟨u.closeBoard s, hnext, ?_, ?_, fun i hi => ⟨fun code hcode => ?_, fun hpointer => ?_⟩⟩
    · rw [closeBoard_frame, hframe]
    · rw [closeBoard_frame]
      exact hcount
    · rw [closeBoard_frame]
      exact hrecords i _ hi hcode
    · rw [closeBoard_frame]
      exact hrecords i _ hi hpointer
  · intro closed
    exact ⟨closeHalves_eq s.link _ _, closeHalves_eq s.link true true⟩

end Sys2Proof.Machine
end

section
/-! The greeting (R106, R111, R112, R145). -/

namespace Sys2Proof.Machine

set_option Elab.async false

variable {q : Bool} {L M : BitVec 10} {s t u v w e : State} {p : BasePacket} {bytes : List Byte}

theorem offered_counts (u : LinkUnit) (period : Nat) (p : PartPacket) :
    (u.offered period p).keyDropped = u.keyDropped ∧ (u.offered period p).overruns = u.overruns := by
  unfold LinkUnit.offered
  split
  · rw [send_frame]
    exact ⟨rfl, rfl⟩
  · exact ⟨rfl, rfl⟩

/-- A WELCOME offered takes the place of the one that waits. -/
theorem offerTo_welcome (list : List PartPacket) (period level : Nat) :
    offerTo list (.welcome period level) = list.filter (fun q => !q.sameKind (.welcome 0 0)) ++ [.welcome period level] := by
  have hkind : (fun q : PartPacket => !q.sameKind (.welcome period level)) = fun q => !q.sameKind (.welcome 0 0) := by
    funext q
    cases q <;> rfl
  unfold offerTo
  split
  next =>
    rw [← hkind]
    rfl
  next hnone =>
    rw [List.filter_eq_self.mpr]
    intro q hq
    have hdiffer : q.sameKind (.welcome period level) = false := by
      by_contra hsame
      exact hnone (List.any_eq_true.mpr ⟨q, hq, by simpa using hsame⟩)
    rw [← show q.sameKind (.welcome period level) = q.sameKind (.welcome 0 0) by cases q <;> rfl, hdiffer]
    rfl

/-- A packet offered while another is sent waits in the list. -/
theorem offered_busy (u : LinkUnit) (period : Nat) (p p' : PartPacket) (hopen : u.state.allows p = true) (hbusy : u.sending = some p') :
    u.offered period p = { u with transmitList := offerTo u.transmitList p } := by
  unfold LinkUnit.offered LinkUnit.send
  rw [if_pos hopen]
  dsimp only
  rw [hbusy]

theorem offerWelcome_eq (s : State) :
    s.offerWelcome = { s with link := s.link.offered s.sensor.period (.welcome s.sensor.period s.allot.level) } :=
  offerPacket_other s (.welcome s.sensor.period s.allot.level) (by simp)

/-- The grants with the base's and the backlight's demand alone, and the base within the budget. -/
theorem targets_baseLight (budget x : Nat) (hbudget : 250 ≤ budget) :
    targets budget ⟨0, 250, 0, x⟩ = ⟨0, 250, 0, min x (budget - 250) / 150 * 150⟩ := by
  have hbase : baseTarget budget ⟨0, 250, 0, x⟩ = 250 := if_pos ⟨rfl, hbudget⟩
  simp [targets, coilTarget, hbase, penTarget, backlightTarget]

/-! ## Packets served in GREETING (R111) -/

theorem servePacket_greeting (h : s.link.state = .greeting) (r : Received) : s.servePacket r = s.greetPacket r.packet := by
  unfold State.servePacket
  rw [h]

theorem listens_greeting (hstate : s.link.state = .greeting) (hignoring : s.link.ignoring = false) (hqueue : s.link.receiveQueue = [])
    (howed : s.link.owed = []) : s.listens := ⟨by rw [hstate]; rfl, hignoring, hqueue, howed⟩

/-- A packet that is discarded in GREETING. -/
theorem exec_greetingDiscard (hp : parsePacket bytes = some p) (hs : s.betweenEvents) (h : s.listens)
    (hstate : s.link.state = .greeting) (hserve : s.heard.greetPacket p = s.heard) :
    exec (.packetArrival bytes) s = .next { s with link := { s.link with hold := false } } := by
  obtain ⟨-, -, hheard, -⟩ := heardLink_queue s
  rw [← heardLink_greeting hstate]
  refine exec_arrivalIgnored (k := 0) hp hs h (.inl hstate) ?_
  rw [servePacket_greeting (hheard.trans hstate), hserve]
  exact .refl _

/-- The link unit once the capabilities of a HELLO are recorded. -/
def State.helloLink (s : State) (flags : Byte) : LinkUnit :=
  { s.link with capBacklight := flags.getLsbD 1, capButton := flags.getLsbD 3, stage := .awaitAck, hold := false }

/-- A HELLO on its way: the claim is stated, and WELCOME offered. -/
def State.helloed (s : State) (flags : Byte) : State :=
  { s with link := s.helloLink flags, tasks := [.stateBacklight, .offerWelcome, .serveReceiveQueue] }

theorem heard_hello (hstate : s.link.state = .greeting) (class' flags : Byte) :
    s.heard.greetPacket (.hello 1 class' flags) = s.helloed flags := by
  have hlink : s.heard.link = { s.link with hold := false } := heardLink_greeting hstate
  show State.hand { s.heard with link := { s.heard.link with
    capBacklight := capabilityBacklight flags, capButton := capabilityButton flags, stage := .awaitAck } } _ = _
  rw [hlink]
  rfl

section
variable (hs : s.betweenEvents) (h : s.listens) (hstate : s.link.state = .greeting) (class' flags : Byte)
include hs h hstate

theorem arrival_helloed : Carried 2 (s.packetArrived (.hello 1 class' flags)) (s.helloed flags) := by
  obtain ⟨-, -, hheard, -⟩ := heardLink_queue s
  have hserved := arrival_served hs.1 h (.inl hstate) (p := .hello 1 class' flags)
  rwa [servePacket_greeting (hheard.trans hstate), heard_hello hstate] at hserved

/-- With the claim as it stands, HELLO is answered with WELCOME. -/
theorem exec_helloHeld
    (hclaim : s.allot.demand.backlight = if flags.getLsbD 1 then 150 * s.attach.wish else 0) :
    exec (.packetArrival (packet [0x13, 1, class', flags])) s =
      .next { s with link := (s.helloLink flags).offered s.sensor.period (.welcome s.sensor.period s.allot.level) } := by
  obtain ⟨x, hx⟩ : ∃ x, x = (s.helloLink flags).offered s.sensor.period (.welcome s.sensor.period s.allot.level) := ⟨_, rfl⟩
  have hframe := offered_frame (s.helloLink flags) s.sensor.period (.welcome s.sensor.period s.allot.level)
  have hcounts := offered_counts (s.helloLink flags) s.sensor.period (.welcome s.sensor.period s.allot.level)
  rw [← hx] at hframe hcounts ⊢
  obtain ⟨hlink, hreceive, howed, -⟩ := hframe
  obtain ⟨hkeys, hruns⟩ := hcounts
  have hstated : Carried 1 (s.helloed flags) ((s.helloed flags).setTasks [.offerWelcome, .serveReceiveQueue]) :=
    .front_eq rfl (stateBacklight_held _ hclaim)
  have hoffered : Carried 1 ((s.helloed flags).setTasks [.offerWelcome, .serveReceiveQueue])
      { s with link := x, tasks := [.serveReceiveQueue] } := .front_eq rfl (by
    rw [hx]
    exact offerWelcome_eq ((s.helloed flags).setTasks [.serveReceiveQueue]))
  have hserved : Carried 1 { s with link := x, tasks := [.serveReceiveQueue] } { s with link := x } := .front_eq rfl (by
    refine (serveReceiveQueue_idle _ (hreceive.trans h.2.2.1) (howed.trans h.2.2.2)).trans ?_
    rw [← hs.1]
    rfl)
  rw [exec_arrival (parse_hello 1 class' flags)]
  refine takeEvent_settled hs ((((arrival_helloed hs h hstate class' flags).trans hstated).trans hoffered).trans hserved) hs ?_
  unfold State.boardWords State.boardFields
  dsimp only
  rw [hlink, hkeys, hruns]
  rfl

/-- With nothing on its way, WELCOME is answered at once; with a packet on its way, it waits. -/
theorem exec_helloWelcome
    (hclaim : s.allot.demand.backlight = if flags.getLsbD 1 then 150 * s.attach.wish else 0) :
    (s.link.sending = none → s.link.transmitList = [] →
      exec (.packetArrival (packet [0x13, 1, class', flags])) s = .next
        { s with link := { s.helloLink flags with
                           sending := some (.welcome s.sensor.period s.allot.level)
                           lastPeriodSent := s.sensor.period, lastLevelSent := s.allot.level } }) ∧
      ∀ p, s.link.sending = some p →
        exec (.packetArrival (packet [0x13, 1, class', flags])) s = .next
          { s with link := { s.helloLink flags with
                             transmitList := s.link.transmitList.filter (fun q => !q.sameKind (.welcome 0 0)) ++
                               [.welcome s.sensor.period s.allot.level] } } := by
  have hopen : (s.helloLink flags).state.allows (.welcome s.sensor.period s.allot.level) = true := by
    show s.link.state.allows _ = true
    rw [hstate]
    rfl
  have hexec := exec_helloHeld hs h hstate class' flags hclaim
  refine ⟨fun hfree hlist => ?_, fun p hbusy => ?_⟩
  · rw [hexec, offered_free _ _ _ hopen hfree hlist]
    rfl
  · rw [hexec, offered_busy _ _ _ p hopen hbusy, offerTo_welcome]
    rfl

/-- A HELLO that changes the backlight's claim is answered with the level it brings. -/
theorem exec_helloClaims (hdemand : s.allot.demand = ⟨0, s.allot.demand.base, 0, s.allot.demand.backlight⟩)
    (hgrant : s.allot.grant = ⟨0, 250, 0, 0⟩) (hbase : s.allot.demand.base = 250) (hawaiting : s.allot.awaiting = [])
    (hphase : s.attach.phase = none) (hlevel : s.allot.level = 0) (hfree : s.link.sending = none)
    (hlist : s.link.transmitList = []) (hbudget : 250 ≤ s.allot.budget)
    (hclaim : s.allot.demand.backlight ≠ if flags.getLsbD 1 then 150 * s.attach.wish else 0) :
    ∃ t, exec (.packetArrival (packet [0x13, 1, class', flags])) s = .next t ∧
      t.allot.demand.backlight = (if flags.getLsbD 1 then 150 * s.attach.wish else 0) ∧
      t.allot.level = min (if flags.getLsbD 1 then 150 * s.attach.wish else 0) (s.allot.budget - 250) / 150 ∧
      t.link.sending = some (.welcome s.sensor.period t.allot.level) := by
  obtain ⟨claim, hclaimed⟩ : ∃ claim, claim = if flags.getLsbD 1 then 150 * s.attach.wish else 0 := ⟨_, rfl⟩
  obtain ⟨x, hx⟩ : ∃ x, x = s.helloed flags := ⟨_, rfl⟩
  have hxgrant : x.allot.grant = ⟨0, 250, 0, 0⟩ := by rw [hx]; exact hgrant
  have hwished : x.wished = claim := by rw [hx, hclaimed]; rfl
  have hdemands : { x.allot.demand with backlight := x.wished } = (⟨0, 250, 0, claim⟩ : Allotments) := by
    rw [hwished, hx]
    show { s.allot.demand with backlight := claim } = _
    rw [hdemand, hbase]
  have htargets : targets x.allot.budget { x.allot.demand with backlight := x.wished } =
      ⟨0, 250, 0, min claim (s.allot.budget - 250) / 150 * 150⟩ := by
    rw [hdemands, hx]
    exact targets_baseLight s.allot.budget claim hbudget
  obtain ⟨k, hk, l, A, hdark, hstated, hA⟩ := Leads.restateBacklight (q := false) (s := x) (rest := [.offerWelcome, .serveReceiveQueue])
    (by rw [hx]; rfl)
    (by rw [hwished, hx, hclaimed]; exact hclaim) (by rw [hx]; exact hawaiting) (by rw [hx]; exact hphase)
    (by rw [hxgrant, hx]; exact hlevel) (by rw [htargets, hxgrant])
  obtain ⟨hAdemand, hAgrant, hAlevel, -⟩ := hA
  have hl : l = s.helloLink flags := by
    rw [hdark (by rw [hx]; show s.link.state.lights = false; rw [hstate]; rfl), hx]
    rfl
  have hopen : l.state.allows (.welcome x.sensor.period A.level) = true := by
    rw [hl]
    show s.link.state.allows _ = true
    rw [hstate]
    rfl
  obtain ⟨m, hm⟩ : ∃ m, m = l.offered x.sensor.period (.welcome x.sensor.period A.level) := ⟨_, rfl⟩
  have hsent : m.sending = some (.welcome s.sensor.period A.level) := by
    rw [hm, offered_free l _ _ hopen (by rw [hl]; exact hfree) (by rw [hl]; exact hlist), hx]
    rfl
  obtain ⟨hreceive, howed⟩ : m.receiveQueue = [] ∧ m.owed = [] := by
    have hframe := offered_frame l x.sensor.period (.welcome x.sensor.period A.level)
    rw [← hm, hl] at hframe
    obtain ⟨-, hreceive, howed, -⟩ := hframe
    exact ⟨hreceive.trans h.2.2.1, howed.trans h.2.2.2⟩
  have hoffered : Leads false 0 1 { x with link := l, allot := A, tasks := [.offerWelcome, .serveReceiveQueue] }
      { x with link := m, allot := A, tasks := [.serveReceiveQueue] } :=
    Leads.exact (x := .offerWelcome) (rest := [.serveReceiveQueue]) rfl fun a => by
      refine (offerWelcome_eq _).trans ?_
      rw [hm]
      rfl
  have hserved : Leads false 0 1 { x with link := m, allot := A, tasks := [.serveReceiveQueue] }
      { x with link := m, allot := A, tasks := [] } :=
    Leads.idle (s := { x with link := m, allot := A, tasks := [.serveReceiveQueue] }) rfl fun v hv =>
      serveReceiveQueue_idle v (by rw [hv]; exact hreceive) (by rw [hv]; exact howed)
  have harrival := arrival_helloed hs h hstate class' flags
  rw [← hx] at harrival
  obtain ⟨t, hnext, hframe, -⟩ := takeEvent_carriedLeads (f := fun u => u.packetArrived (.hello 1 class' flags)) hs harrival
    ((hstated.next hoffered).next hserved) rfl (by omega)
  have hallot := congrArg State.allot hframe
  have hlink := congrArg State.link hframe
  refine ⟨t, (exec_arrival (parse_hello 1 class' flags)).trans hnext, ?_, ?_, ?_⟩
  · rw [hallot, ← hclaimed]
    show A.demand.backlight = claim
    rw [hAdemand, hwished]
  · rw [hallot, ← hclaimed]
    show A.level = _
    rw [hAlevel, hAgrant, htargets]
    exact Nat.mul_div_cancel _ (by decide)
  · rw [hlink, hallot]
    exact hsent

end

end Sys2Proof.Machine
end

section
/-! The other answers of the greeting (R111, R112), and a base that greets again. -/

namespace Sys2Proof.Machine

set_option Elab.async false

variable {q : Bool} {L M : BitVec 10} {s t u v w e : State} {p : BasePacket} {bytes : List Byte}

/-! ## A HELLO of another version (R111, R112) -/

theorem servePacket_otherVersion {version : Byte} (hversion : version ≠ 1) (class' flags : Byte) (time : PartTime)
    (hstate : s.link.state = .greeting ∨ s.link.state = .ready ∨ s.link.state = .quiesced) :
    s.servePacket ⟨.hello version class' flags, time⟩ = s.enterFaulted 6 := by
  rcases hstate with hstate | hstate | hstate
  · rw [servePacket_greeting hstate]
    exact if_neg hversion
  · unfold State.servePacket
    rw [hstate]
    exact if_neg hversion
  · unfold State.servePacket
    rw [hstate]
    exact if_neg hversion

theorem exec_otherVersion {version : Byte} (hs : s.betweenEvents) (hignoring : s.link.ignoring = false) (hversion : version ≠ 1)
    (class' flags : Byte) (ha : s.linkAlone)
    (hstate : s.link.state = .greeting ∨ s.link.state = .ready ∨ s.link.state = .quiesced) :
    ∃ t, exec (.packetArrival (packet [0x13, version, class', flags])) s = .next t ∧ t.link.state = .faulted ∧
      t.link.holdOff = true ∧ (t.faultEntry .baseLink).active = true ∧ t.attach.state = .degraded ∧
      t.allot.faultedOff = true ∧ t.allot.demand.base = 0 := by
  obtain ⟨⟨hqueue, howed, -, -⟩, -⟩ := id ha
  obtain ⟨-, -, hheard, -⟩ := heardLink_queue s
  have hreceiving : s.link.state.receiving = true := by
    rcases hstate with h | h | h <;> rw [h] <;> rfl
  obtain ⟨t, hnext, hfailed⟩ := exec_arrivalFailed 6 (parse_hello version class' flags) hs
    ⟨hreceiving, hignoring, hqueue, howed⟩ ha (.inr (.inl rfl))
    (servePacket_otherVersion hversion class' flags s.now (by rwa [← hheard] at hstate))
  have hlink := hfailed.link
  refine ⟨t, hnext, ?_, ?_, hfailed.fault, ?_, hfailed.faultedOff, hfailed.demand⟩
  · rw [hlink]
    exact enteredLink_state s.heard .faulted
  · rw [hlink]
  · rw [hfailed.attach]

/-! ## WELCOME acknowledged (R111) -/

/-- The link unit in READY, once WELCOME is acknowledged. -/
def State.readyLink (s : State) : LinkUnit :=
  { s.link with state := .ready, recoveries := 0, timer := some (.supervision, s.now + 300) }

/-- With the values last sent in force, READY offers nothing. -/
theorem Becomes.enterReady (s : State) (hperiod : s.sensor.period = s.link.lastPeriodSent)
    (hlevel : s.allot.level = s.link.lastLevelSent) (hlist : s.link.transmitList = []) :
    Becomes false 0 s.enterReady (State.hand { s with link := s.readyLink } [.attachLink, .serveReceiveQueue]) := by
  obtain ⟨x, hx⟩ : ∃ x : State, x = (s.updLink fun u => { u with recoveries := 0 }).setLinkTimer .supervision 300 := ⟨_, rfl⟩
  have hentered := Becomes.enterLink x .ready 0
  have hlink : LinkUnit.send x.sensor.period { x.link with state := .ready, ignoring := x.link.ignoring && true } = s.readyLink := by
    rw [send_empty _ _ (by rw [hx]; exact hlist), Bool.and_true, hx]
    rfl
  rw [enteredLink_up x .ready rfl, enterActs_up x .ready rfl, show LinkState.ready.receiving = true from rfl, hlink] at hentered
  obtain ⟨e, he⟩ : ∃ e, e = x.enterLink .ready 0 := ⟨_, rfl⟩
  rw [← he] at hentered
  have hperiod' : e.sensor.period = e.link.lastPeriodSent := by
    rw [hentered.frame, hx]
    exact hperiod
  have hlevel' : e.allot.level = e.link.lastLevelSent := by
    rw [hentered.frame, hx]
    exact hlevel
  have hready : s.enterReady = e := by
    unfold State.enterReady
    rw [← hx, ← he]
    dsimp only
    rw [if_pos hperiod', if_pos hlevel']
  rw [hready]
  rw [hx] at hentered
  exact hentered

theorem exec_welcomed (hs : s.betweenEvents) (hignoring : s.link.ignoring = false) (hstate : s.link.state = .greeting)
    (hstage : s.link.stage = .awaitAck) (ha : s.linkAlone) (hseating : s.attach.state = .seating)
    (hperiod : s.sensor.period = s.link.lastPeriodSent) (hlevel : s.allot.level = s.link.lastLevelSent)
    (hlist : s.link.transmitList = []) :
    ∃ t, exec (.packetArrival (packet [0x71, 9])) s = .next t ∧ t.link = { s.readyLink with hold := false } ∧
      t.attach = { s.attach with state := .attached } ∧ t.allot = s.allot ∧
      t.port.attnLatch.getLsbD Cause.attach.bit = true := by
  obtain ⟨⟨hqueue, howed, hpressed, hbuttons⟩, -, -, hdetect, hrelease, -⟩ := id ha
  have hlistens := listens_greeting hstate hignoring hqueue howed
  have hheard : s.heard.link = { s.link with hold := false } := heardLink_greeting hstate
  have hserve : s.heard.servePacket ⟨.ack 9, s.now⟩ = s.heard.enterReady := by
    rw [servePacket_greeting (by rw [hheard]; exact hstate)]
    exact if_pos ⟨rfl, by rw [hheard]; exact hstage⟩
  have hready := Becomes.enterReady s.heard (by rw [hheard]; exact hperiod) (by rw [hheard]; exact hlevel) (by rw [hheard]; exact hlist)
  obtain ⟨y, hy⟩ : ∃ y : State,
      y = { s with link := s.heard.readyLink, tasks := [.attachLink, .serveReceiveQueue, .serveReceiveQueue] } := ⟨_, rfl⟩
  have hsame : State.hand { s.heard with link := s.heard.readyLink } [.attachLink, .serveReceiveQueue] = y := hy.symm
  have hready' : s.heard.readyLink = { s.readyLink with hold := false } := by
    unfold State.readyLink
    rw [hheard]
    rfl
  rw [hready'] at hy
  rw [hsame, ← hserve] at hready
  have hhost : y.sleep.host = .on := by rw [hy]; exact (Alone.of ha).host
  have hcalm : Calm y := (Alone.of ha).calm.congr (by rw [hy]) (by rw [hy]; exact ⟨rfl, rfl, rfl, rfl⟩)
  have hattach : Goes Cause.attach.mask 6 y
      { y with attach := { y.attach with state := .attached }, tasks := [.serveReceiveQueue, .serveReceiveQueue] } := by
    refine Goes.setAttach (x := .attachLink) (cause := 1) (by rw [hy]) (fun v hv => ?_) ?_ (by decide) (.inl hhost) hcalm
    · obtain ⟨τ, a, -, rfl⟩ := hv
      have hresting : (State.withNoise { y.setTasks [.serveReceiveQueue, .serveReceiveQueue] with sleep := τ } a).resting = .attached := by
        rw [hy]
        show restingState s.attach.detect.level _ = _
        rw [hdetect]
        rfl
      rw [← hresting]
      exact attachLink_resting _ (by rw [hy]; exact hrelease)
    · rw [hy]
      show .attached ≠ s.attach.state
      rw [hseating]
      decide
  have hidle (rest : List Task) :
      Goes 0 1 { y with attach := { y.attach with state := .attached }, tasks := .serveReceiveQueue :: rest }
        { y with attach := { y.attach with state := .attached }, tasks := rest } := .still rfl fun v hv =>
    serveReceiveQueue_quiet v ((hcalm.congr
      (t := { y with attach := { y.attach with state := .attached }, tasks := rest }) rfl ⟨rfl, rfl, rfl, rfl⟩).like hv)
  obtain ⟨t, hnext, hlike, hdrift⟩ := takeEvent_carriedGoes (f := fun u => u.packetArrived (.ack 9)) hs
    (arrival_served hs.1 hlistens (.inl hstate)) ⟨_, _, .refl _, hready.frame⟩ ((hattach.next (hidle _)).next (hidle [])) rfl
  have hlink := congrArg State.link hlike.frame
  have hunit := congrArg State.attach hlike.frame
  have hallot := congrArg State.allot hlike.frame
  rw [hy] at hlink hunit hallot
  exact ⟨t, (exec_arrival (parse_ack 9)).trans hnext, hlink, hunit, hallot, hdrift.latched _ (by decide)⟩

/-! ## What GREETING discards (R111) -/

section
variable (hs : s.betweenEvents) (h : s.listens) (hstate : s.link.state = .greeting)
include hs h hstate

theorem exec_greetingAck (kind : Byte) (hrefused : ¬ (kind = welcomeKind ∧ s.link.stage = .awaitAck)) :
    exec (.packetArrival (packet [0x71, kind])) s = .next { s with link := { s.link with hold := false } } :=
  exec_greetingDiscard (parse_ack kind) hs h hstate (if_neg (by
    have hheard : s.heard.link = { s.link with hold := false } := heardLink_greeting hstate
    rwa [hheard]))

theorem exec_greetingDiscards :
    (s.link.stage = .awaitHello →
        exec (.packetArrival (packet [0x71, 9])) s = .next { s with link := { s.link with hold := false } }) ∧
      (∀ kind : Byte, kind ≠ 9 →
        exec (.packetArrival (packet [0x71, kind])) s = .next { s with link := { s.link with hold := false } }) ∧
      (∀ code : Byte, code ≠ 0 → code ≠ 255 →
        exec (.packetArrival (packet [0x22, code, 1])) s = .next { s with link := { s.link with hold := false } } ∧
          exec (.packetArrival (packet [0x22, code, 0])) s = .next { s with link := { s.link with hold := false } }) ∧
      (∀ dx dy buttons : Byte,
        exec (.packetArrival (packet [0x33, dx, dy, buttons])) s = .next { s with link := { s.link with hold := false } }) ∧
      (∀ a b c d e f : Byte,
        exec (.packetArrival (packet [0x46, a, b, c, d, e, f])) s = .next { s with link := { s.link with hold := false } }) ∧
      (∀ level faults : Byte,
        exec (.packetArrival (packet [0x52, level, faults])) s = .next { s with link := { s.link with hold := false } }) ∧
      exec (.packetArrival (packet [0x60])) s = .next { s with link := { s.link with hold := false } } := by
  refine ⟨fun hstage => ?_, fun kind hkind => ?_, fun code hcode hcode' => ⟨?_, ?_⟩, fun dx dy buttons => ?_,
    fun a b c d e f => ?_, fun level faults => ?_, ?_⟩
  · exact exec_greetingAck hs h hstate 9 (by rw [hstage]; decide)
  · exact exec_greetingAck hs h hstate kind fun hwelcome => hkind hwelcome.1
  · exact exec_greetingDiscard (parse_key code hcode hcode' true) hs h hstate rfl
  · exact exec_greetingDiscard (parse_key code hcode hcode' false) hs h hstate rfl
  · exact exec_greetingDiscard (parse_pointer dx dy buttons) hs h hstate rfl
  · exact exec_greetingDiscard (parse_sample a b c d e f) hs h hstate rfl
  · exact exec_greetingDiscard (parse_status level faults) hs h hstate rfl
  · exact exec_greetingDiscard parse_button hs h hstate rfl

end

/-! ## A base that greets again (R112) -/

/-- The link unit in GREETING with WELCOME on its way, after a HELLO heard in READY. -/
def State.regreetedLink (s : State) (flags : Byte) : LinkUnit :=
  { s.link with
    state := .greeting, stage := .awaitAck, retries := 0, timer := some (.greeting, s.now + 200)
    capBacklight := flags.getLsbD 1, capButton := flags.getLsbD 3, hold := false
    sending := some (.welcome s.sensor.period s.allot.level)
    lastPeriodSent := s.sensor.period, lastLevelSent := s.allot.level }

theorem exec_regreeted (hs : s.betweenEvents) (hignoring : s.link.ignoring = false) (class' flags : Byte)
    (hstate : s.link.state = .ready) (ha : s.linkAlone) (hclaim : s.allot.demand.backlight = 0) (hwish : s.attach.wish = 0)
    (hfree : s.link.sending = none) (hlist : s.link.transmitList = []) :
    ∃ t, exec (.packetArrival (packet [0x13, 1, class', flags])) s = .next t ∧ t.link = s.regreetedLink flags ∧
      t.attach.state = .seating := by
  obtain ⟨⟨hqueue, howed, hpressed, hbuttons⟩, -, -, hdetect, hrelease, -⟩ := id ha
  obtain ⟨r, hr⟩ : ∃ r : Received, r = ⟨.hello 1 class' flags, s.now⟩ := ⟨_, rfl⟩
  have hlistens : s.listens := ⟨by rw [hstate]; rfl, hignoring, hqueue, howed⟩
  have hheard : s.heard.link = s.linkHeard := heardLink_open (.inl hstate)
  have hserve : s.heard.servePacket r = (s.heard.hand [.servePacket r]).enterGreeting 10 := by
    have hopen : s.heard.link.state = .ready := by
      rw [hheard]
      exact hstate
    unfold State.servePacket
    rw [hopen, hr]
    rfl
  have hgreeted := Becomes.enterGreeting (s.heard.hand [.servePacket r]) 10 (by
    show s.heard.link.transmitList = []
    rw [hheard]
    exact hlist)
  obtain ⟨g, hg⟩ : ∃ g, g = s.heard.greetingLink := ⟨_, rfl⟩
  obtain ⟨y, hy⟩ : ∃ y : State, y = { s with link := g, tasks := [] } := ⟨_, rfl⟩
  have hsame : State.hand { s.heard.hand [.servePacket r] with link := (s.heard.hand [.servePacket r]).greetingLink }
      [.attachLink, .serveReceiveQueue] = y.setTasks [.attachLink, .serveReceiveQueue, .servePacket r, .serveReceiveQueue] := by
    rw [hy, hg]
    rfl
  have hgreeting : g = { s.link with state := .greeting, stage := .awaitHello, retries := 0
                                     timer := some (.greeting, s.now + 200), hold := false } := by
    rw [hg]
    unfold State.greetingLink
    rw [hheard]
    rfl
  rw [hsame, ← hserve] at hgreeted
  have hhost : y.sleep.host = .on := by rw [hy]; exact (Alone.of ha).host
  have hcalm : Calm y := (Alone.of ha).calm.congr (by rw [hy]) (by rw [hy, hgreeting]; exact ⟨rfl, rfl, rfl, rfl⟩)
  obtain ⟨z, hz⟩ : ∃ z : State, z = { y with attach := y.seated } := ⟨_, rfl⟩
  have hattach : Goes 0 6 (y.setTasks [.attachLink, .serveReceiveQueue, .servePacket r, .serveReceiveQueue])
      (z.setTasks [.serveReceiveQueue, .servePacket r, .serveReceiveQueue]) := by
    rw [hz]
    exact Goes.attachLink (s := y.setTasks [.attachLink, .serveReceiveQueue, .servePacket r, .serveReceiveQueue]) rfl
      (hcalm.congr rfl ⟨rfl, rfl, rfl, rfl⟩) (by rw [hy]; exact hrelease) (by rw [hy]; exact hdetect) (.inl hhost)
  have hidle (l : LinkUnit) (hl : l.receiveQueue = [] ∧ l.owed = []) (rest : List Task) :
      Goes 0 1 { z with link := l, tasks := .serveReceiveQueue :: rest } { z with link := l, tasks := rest } := .still rfl fun v hv => by
    obtain ⟨τ, a, -, rfl⟩ := hv
    exact serveReceiveQueue_idle _ hl.1 hl.2
  obtain ⟨l, hl⟩ : ∃ l : LinkUnit,
      l = { g with capBacklight := flags.getLsbD 1, capButton := flags.getLsbD 3, stage := .awaitAck } := ⟨_, rfl⟩
  have hzlink : z.link = g := by rw [hz, hy]
  have hserved : Goes 0 1 (z.setTasks [.servePacket r, .serveReceiveQueue])
      { z with link := l, tasks := [.stateBacklight, .offerWelcome, .serveReceiveQueue] } := .front rfl fun v hv => by
    obtain ⟨τ, a, hτ, rfl⟩ := hv
    refine ⟨τ, hτ, .of_eq ((servePacket_greeting ?_ r).trans ?_)⟩
    · show z.link.state = .greeting
      rw [hzlink, hgreeting]
    · rw [hr, hl, ← hzlink]
      rfl
  have hstated : Goes 0 1 { z with link := l, tasks := [.stateBacklight, .offerWelcome, .serveReceiveQueue] }
      { z with link := l, tasks := [.offerWelcome, .serveReceiveQueue] } := .still rfl fun v hv => by
    obtain ⟨τ, a, -, rfl⟩ := hv
    refine stateBacklight_held _ ?_
    show z.allot.demand.backlight = if l.capBacklight then 150 * z.attach.wish else 0
    rw [hz, hy]
    show s.allot.demand.backlight = if l.capBacklight then 150 * s.attach.wish else 0
    rw [hclaim, hwish, Nat.mul_zero, ite_self]
  have hwelcome : l.offered s.sensor.period (.welcome s.sensor.period s.allot.level) = s.regreetedLink flags := by
    rw [offered_free l _ _ (by rw [hl, hgreeting]; rfl) (by rw [hl, hgreeting]; exact hfree) (by rw [hl, hgreeting]; exact hlist),
      hl, hgreeting]
    rfl
  have hoffered : Goes 0 1 { z with link := l, tasks := [.offerWelcome, .serveReceiveQueue] }
      { z with link := s.regreetedLink flags, tasks := [.serveReceiveQueue] } := .front rfl fun v hv => by
    obtain ⟨τ, a, hτ, rfl⟩ := hv
    refine ⟨τ, hτ, .of_eq ((offerWelcome_eq _).trans ?_)⟩
    rw [← hwelcome, hz, hy]
    rfl
  have hfirst := hidle z.link (by rw [hzlink, hgreeting]; exact ⟨hqueue, howed⟩) [.servePacket r, .serveReceiveQueue]
  have hlast := hidle (s.regreetedLink flags) ⟨hqueue, howed⟩ []
  have harrival := arrival_served hs.1 hlistens (.inr (.inl rfl)) (p := .hello 1 class' flags)
  rw [← hr] at harrival
  obtain ⟨t, hnext, hlike, -⟩ := takeEvent_carriedGoes (f := fun u => u.packetArrived (.hello 1 class' flags)) hs
    harrival ⟨_, _, .refl _, hgreeted.frame⟩
    (((((hattach.next hfirst).next hserved).next hstated).next hoffered).next hlast) rfl
  have hlink := congrArg State.link hlike.frame
  have hunit := congrArg State.attach hlike.frame
  refine ⟨t, (exec_arrival (parse_hello 1 class' flags)).trans hnext, hlink, ?_⟩
  rw [hunit, hz]
  exact seated_state y (by rw [hy]; exact hdetect) .greeting (by rw [hy, hgreeting])

/-- Settles O47: the answers of GREETING by what arrives and, for a HELLO of this version, by what it claims and what is on its
way; then a HELLO heard in READY. -/
theorem baseGreeting : Obligations.BaseGreeting := by
  unfold Obligations.BaseGreeting
  intro s hs hignoring hqueue howed
  refine ⟨fun class' flags hstate => ?_, fun version class' flags hversion ha hstate => ?_,
    fun hstate hstage ha hseating hperiod hlevel hlist => ?_, fun hstate => ?_,
    fun class' flags hstate ha hclaim hwish hfree hlist => ?_⟩
  · have h := listens_greeting hstate hignoring hqueue howed
    exact ⟨fun hclaim hfree hlist => (exec_helloWelcome hs h hstate class' flags hclaim).1 hfree hlist,
      fun hclaim p hbusy => ⟨_, (exec_helloWelcome hs h hstate class' flags hclaim).2 p hbusy, rfl⟩,
      fun _ _ hdemand hgrant hbase hawaiting hphase hlevel _ hfree hlist hbudget hclaim =>
        exec_helloClaims hs h hstate class' flags hdemand hgrant hbase hawaiting hphase hlevel hfree hlist hbudget hclaim⟩
  · exact exec_otherVersion hs hignoring hversion class' flags ha hstate
  · exact exec_welcomed hs hignoring hstate hstage ha hseating hperiod hlevel hlist
  · exact exec_greetingDiscards hs (listens_greeting hstate hignoring hqueue howed) hstate
  · obtain ⟨t, hnext, hlink, hattach⟩ := exec_regreeted hs hignoring class' flags hstate ha hclaim hwish hfree hlist
    refine ⟨t, hnext, ?_, hattach⟩
    rw [hlink]
    rfl

end Sys2Proof.Machine
end

section
/-! The lines of the sensors and the angle unit's side, which no hand-on changes; SELF_CHECK_END (R38, R45, R48, R50, R70). -/

namespace Sys2Proof.Machine

set_option Elab.async false

variable {s t u v w e : State}

/-! ## What no hand-on changes -/

/-- The debounced lines of the lid and fold sensors, and the side memory: no hand-on changes them, not even the serving of a
request. -/
def State.lines (s : State) := (s.sensor.lidClosed, s.sensor.foldBack, s.angle.side)

theorem lines_of_kept (h : s.kept = t.kept) : s.lines = t.lines := by
  simp only [State.kept, Prod.mk.injEq] at h
  obtain ⟨-, -, -, -, -, -, -, -, -, ⟨hlid, hfold, -⟩, ⟨hside, -⟩, -⟩ := h
  unfold State.lines
  rw [hlid, hfold, hside]

section
variable (s)

@[simp] theorem lines_updSettings (f) : (s.updSettings f).lines = s.lines := rfl
@[simp] theorem lines_updPosture (f) : (s.updPosture f).lines = s.lines := rfl
@[simp] theorem lines_updAttach (f) : (s.updAttach f).lines = s.lines := rfl
@[simp] theorem lines_updPen (f) : (s.updPen f).lines = s.lines := rfl
@[simp] theorem lines_updAllot (f) : (s.updAllot f).lines = s.lines := rfl
@[simp] theorem lines_updSleep (f) : (s.updSleep f).lines = s.lines := rfl
@[simp] theorem lines_updLink (f) : (s.updLink f).lines = s.lines := rfl
@[simp] theorem lines_updDispatch (f) : (s.updDispatch f).lines = s.lines := rfl
@[simp] theorem lines_updJournal (f) : (s.updJournal f).lines = s.lines := rfl
@[simp] theorem lines_setMem (m) : (s.setMem m).lines = s.lines := rfl
@[simp] theorem lines_hand (ts) : (s.hand ts).lines = s.lines := rfl
@[simp] theorem lines_handLast (x) : (s.handLast x).lines = s.lines := rfl
@[simp] theorem lines_setTasks (ts) : (s.setTasks ts).lines = s.lines := rfl
@[simp] theorem lines_ite (c : Prop) [Decidable c] (a b : State) : (if c then a else b).lines = if c then a.lines else b.lines :=
  apply_ite _ _ _ _

@[simp] theorem lines_touchWhen (c : Prop) [Decidable c] : (s.touchWhen c).lines = s.lines := lines_of_kept (kept_touchWhen s c)
@[simp] theorem lines_offerNotice (k c o n a) : (s.offerNotice k c o n a).lines = s.lines := lines_of_kept (kept_offerNotice s k c o n a)
@[simp] theorem lines_reportInactive (k) : (s.reportInactive k).lines = s.lines := lines_of_kept (kept_reportInactive s k)
@[simp] theorem lines_finishSlot (n c d ws) : (s.finishSlot n c d ws).lines = s.lines := lines_of_kept (kept_finishSlot s n c d ws)
@[simp] theorem lines_finishUnit (u c d ws) : (s.finishUnit u c d ws).lines = s.lines := lines_of_kept (kept_finishUnit s u c d ws)
@[simp] theorem lines_setCalibration (c) : (s.setCalibration c).lines = s.lines := lines_of_kept (kept_setCalibration s c)
@[simp] theorem lines_restartCollection : s.restartCollection.lines = s.lines := rfl
@[simp] theorem lines_commitOrientation (o c) : (s.commitOrientation o c).lines = s.lines := lines_of_kept (kept_commitOrientation s o c)
@[simp] theorem lines_compareOrientation : s.compareOrientation.lines = s.lines := lines_of_kept (kept_compareOrientation s)
@[simp] theorem lines_detachClaim (o) : (s.detachClaim o).lines = s.lines := lines_of_kept (kept_detachClaim s o)
@[simp] theorem lines_setPenState (p c) : (s.setPenState p c).lines = s.lines := lines_of_kept (kept_setPenState s p c)
@[simp] theorem lines_setCoilPower (p) : (s.setCoilPower p).lines = s.lines := lines_of_kept (kept_setCoilPower s p)
@[simp] theorem lines_setIdle (i x) : (s.setIdle i x).lines = s.lines := lines_of_kept (kept_setIdle s i x)
@[simp] theorem lines_stopWake : s.stopWake.lines = s.lines := lines_of_kept (kept_stopWake s)
@[simp] theorem lines_restartIdle : s.restartIdle.lines = s.lines := lines_of_kept (kept_restartIdle s)
@[simp] theorem lines_startGrace : s.startGrace.lines = s.lines := lines_of_kept (kept_startGrace s)
@[simp] theorem lines_enterLink (l c) : (s.enterLink l c).lines = s.lines := lines_of_kept (kept_enterLink s l c)
@[simp] theorem lines_enterPowering : s.enterPowering.lines = s.lines := lines_of_kept (kept_enterPowering s)
@[simp] theorem lines_enterUnpowered (c) : (s.enterUnpowered c).lines = s.lines := lines_of_kept (kept_enterUnpowered s c)
@[simp] theorem lines_setHoldOff (b) : (s.setHoldOff b).lines = s.lines := lines_of_kept (kept_setHoldOff s b)
@[simp] theorem lines_reviewBase : s.reviewBase.lines = s.lines := lines_of_kept (kept_reviewBase s)

/-! ## The serving of a request -/

theorem lines_applySettings : s.applySettings.lines = s.lines := by
  unfold State.applySettings
  dsimp only
  repeat' split
  all_goals simp

theorem lines_resetJournal (n : Nat) : (s.resetJournal n).lines = s.lines := by
  unfold State.resetJournal
  split
  · simp
  · rfl

theorem lines_loadTable (n : Nat) : (s.loadTable n).lines = s.lines := by
  unfold State.loadTable
  split
  · simp
  · split <;> simp

theorem lines_ackFault (n : Nat) : (s.ackFault n).lines = s.lines := by
  unfold State.ackFault
  split
  · simp
  · dsimp only
    split
    · simp
    · exact lines_finishUnit ..

theorem lines_lockRotation (a b : Nat) : (s.lockRotation a b).lines = s.lines := by
  unfold State.lockRotation
  repeat' split
  all_goals simp

theorem lines_setBacklight (n : Nat) : (s.setBacklight n).lines = s.lines := by
  unfold State.setBacklight
  split <;> simp

theorem lines_capDemand : s.capDemand.lines = s.lines := by
  unfold State.capDemand
  split <;> simp

theorem lines_setTable (x) : (s.setTable x).lines = s.lines := lines_touchWhen ..

theorem lines_acceptPen (x : Word) : (s.acceptPen x).lines = s.lines := by
  unfold State.acceptPen
  dsimp only
  repeat' split
  all_goals simp [State.finishAccept, State.writeEntry, State.setEntry, lines_capDemand, lines_setTable]

theorem lines_forgetPen (n : Nat) (x : Word) : (s.forgetPen n x).lines = s.lines := by
  unfold State.forgetPen
  repeat' split
  all_goals simp [State.setEntry, lines_capDemand, lines_setTable]

theorem lines_beginExchange : s.beginExchange.lines = s.lines := by
  unfold State.beginExchange
  split <;> rfl

theorem lines_holdPen : s.holdPen.lines = s.lines := by
  unfold State.holdPen
  split <;> simp

theorem lines_releasePen : s.releasePen.lines = s.lines := by
  unfold State.releasePen
  split <;> simp [lines_beginExchange]

theorem lines_setChargeMode (n : Nat) : (s.setChargeMode n).lines = s.lines := by
  unfold State.setChargeMode
  repeat' split
  all_goals simp [lines_holdPen, lines_releasePen]

theorem lines_setSource (n : Nat) : (s.setSource n).lines = s.lines := by
  unfold State.setSource
  split <;> simp

theorem lines_dropAdvice : s.dropAdvice.lines = s.lines := by
  unfold State.dropAdvice
  dsimp only
  split
  · rfl
  · exact lines_offerNotice ..

theorem lines_hostState (a m n : Nat) : (s.hostState a m n).lines = s.lines := by
  unfold State.hostState State.enterSleep State.turnOn
  repeat' split
  all_goals simp [lines_dropAdvice]

theorem lines_holdAwake (n : Nat) : (s.holdAwake n).lines = s.lines := by
  unfold State.holdAwake
  repeat' split
  all_goals simp

theorem lines_lockSettings : s.lockSettings.lines = s.lines := by
  unfold State.lockSettings
  split <;> simp

theorem lines_serve (n : Fin 32) (r : Request) : (s.serve n r).lines = s.lines := by
  cases r with
  | applySettings => exact lines_applySettings s
  | lockSettings => exact lines_lockSettings s
  | loadPostureTable => exact lines_loadTable s _
  | resetJournal => exact lines_resetJournal s _
  | ackFault => exact lines_ackFault s _
  | calibrateHinge => exact lines_setCalibration s _
  | setRotationLock => exact lines_lockRotation s _ _
  | detach => exact lines_detachClaim s _
  | setBacklight => exact lines_setBacklight s _
  | penAccept => exact lines_acceptPen s _
  | penForget => exact lines_forgetPen s _ _
  | penChargeMode => exact lines_setChargeMode s _
  | setPowerSource => exact lines_setSource s _
  | hostState => exact lines_hostState s _ _ _
  | holdAwake => exact lines_holdAwake s _

/-! ## The other hand-ons -/

theorem lines_linkDetect : s.linkDetect.lines = s.lines := by
  unfold State.linkDetect State.powerOrWait
  repeat' split
  all_goals simp

theorem lines_allotDetect : s.allotDetect.lines = s.lines := by
  unfold State.allotDetect
  split <;> simp

theorem lines_resetSleepEnd : s.resetSleepEnd.lines = s.lines := by
  unfold State.resetSleepEnd
  dsimp only
  split <;> simp

theorem lines_takeSlot (n : Fin 32) : (s.takeSlot n).lines = s.lines := by
  unfold State.takeSlot
  dsimp only
  split
  · rw [lines_handLast, lines_finishSlot]
    rfl
  · rfl

theorem lines_considerQueue : s.considerQueue.lines = s.lines := by
  unfold State.considerQueue
  split
  · split
    · rfl
    · exact lines_takeSlot s _
  · rfl

theorem lines_doTask (x : Task) : (doTask x s).lines = s.lines := by
  cases x with
  | serve n r => exact lines_serve s n r
  | linkDetect => exact lines_linkDetect s
  | allotDetect => exact lines_allotDetect s
  | resetSleepEnd => exact lines_resetSleepEnd s
  | considerQueue => exact lines_considerQueue s
  | _ => exact lines_of_kept (by simp [doTask])

theorem lines_runTasks (n : Nat) : (runTasks n s).lines = s.lines := by
  induction n generalizing s with
  | zero => rfl
  | succ n ih =>
    unfold runTasks
    split
    · rfl
    · next x rest htasks => exact (ih _).trans (lines_doTask (s.setTasks rest) x)

end

end Sys2Proof.Machine
end

section
/-! SELF_CHECK_END (R38, R45, R48, R50, R70; log 14). -/

namespace Sys2Proof.Machine

set_option Elab.async false

variable {s t u v w e : State}

/-! ## What the hand-ons of an event leave -/

theorem event_lines (s : State) (f : State → State) : (s.event f).lines = (f s.openEvent).lines := by
  have hclose (x : State) : (x.closeBoard s).lines = x.lines := by rw [closeBoard_frame]; rfl
  exact (hclose _).trans (lines_runTasks (f s.openEvent) _)

theorem event_hostSide (s : State) (f : State → State) (hfits : (f s.openEvent).tasks.all Task.fits = true) :
    (s.event f).port.hostSide = (f s.openEvent).port.hostSide := by
  have hclose (x : State) : (x.closeBoard s).port.hostSide = x.port.hostSide := by rw [closeBoard_frame]; rfl
  obtain ⟨x, hx⟩ : ∃ x, x = f s.openEvent := ⟨_, rfl⟩
  rw [← hx] at hfits ⊢
  have hbegun : Moves .served (x.setTasks []) x :=
    (Moves.refl .served (x.setTasks [])).setTasks x.tasks (fun _ => hfits) fun hr => hr.elim nofun nofun
  have hrun := hbegun.runTasks (carries_served _) rfl Config.handOnLimit
  obtain ⟨hport, -⟩ := hrun.leaves trivial
  refine (hclose _).trans ?_
  rw [← hx]
  exact hport

/-! ## The part begins to run -/

/-- What the start of a period hands on. -/
def State.rateActs (s : State) : List Task := if s.periodInForce = s.sensor.period then [] else [.offerRate]

theorem startPeriod_eq (s : State) :
    s.startPeriod =
      State.hand { s with sensor := { s.sensor with timer := s.start s.periodInForce, period := s.periodInForce } } s.rateActs := by
  unfold State.startPeriod State.rateActs
  dsimp only
  split <;> rfl

/-- The state in which the part runs, before what the first period hands on. -/
def State.begun (s : State) : State :=
  { s with
    port := { s.port with phase := .running, selfCheck := .done }
    attach := { s.attach with detect := s.attach.detect.begin (s.start 50) }
    pen := { s.pen with penIn := s.pen.penIn.begin (s.start 100) }
    sleep := { s.sleep with button := s.sleep.button.begin (s.start 30) }
    sensor := { s.sensor with timer := s.start s.periodInForce, period := s.periodInForce }
    tasks := s.rateActs ++ s.tasks ++ [.considerQueue] }

theorem beginOperation_eq (s : State) : s.beginOperation = s.begun := by
  unfold State.beginOperation
  dsimp only
  rw [startPeriod_eq]
  rfl

/-- The part once the levels and the signature of the self-check are taken. -/
def State.checked (s : State) (status : Byte) (lid fold : Bool) : State :=
  if signatureGood status then s.takeHalls lid fold else (s.takeHalls lid fold).failSignature

theorem endSelfCheck_good (s : State) (status : Byte) (lid fold : Bool) (h : s.port.selfCheck = .underway) :
    s.endSelfCheck 512 status lid fold = (s.checked status lid fold).begun := by
  unfold State.endSelfCheck
  rw [if_pos h, if_pos rfl]
  exact beginOperation_eq _

theorem checked_tasks (s : State) (status : Byte) (lid fold : Bool) : (s.checked status lid fold).tasks = s.tasks := by
  unfold State.checked State.failSignature
  rw [reportActive_frame]
  split <;> rfl

theorem checked_lines (s : State) (status : Byte) (lid fold : Bool) :
    (s.checked status lid fold).sensor.lidClosed.level = lid ∧ (s.checked status lid fold).sensor.foldBack.level = fold ∧
      (s.checked status lid fold).angle.side = if fold then .high else .low := by
  unfold State.checked State.failSignature
  rw [reportActive_frame]
  split <;> exact ⟨rfl, rfl, rfl⟩

theorem checked_frame (s : State) (status : Byte) (lid fold : Bool) :
    s.checked status lid fold =
      { s with
        mem := (s.checked status lid fold).mem, port := (s.checked status lid fold).port
        journal := (s.checked status lid fold).journal, sensor := (s.checked status lid fold).sensor
        angle := (s.checked status lid fold).angle
        settings := { s.settings with faults := (s.checked status lid fold).settings.faults } } := by
  unfold State.checked State.failSignature
  rw [reportActive_frame]
  split <;> rfl

/-- With no slot waiting, RATE is all that the first period hands on. -/
theorem begun_carried (s : State) (htasks : s.tasks = []) (hqueue : s.dispatch.queue = []) :
    ∃ l, ∃ k ≤ 2, Carried k s.begun { s.begun with link := l, tasks := [] } := by
  have hidle (l : LinkUnit) : Carried 1 { s.begun with link := l, tasks := [.considerQueue] } { s.begun with link := l, tasks := [] } :=
    .front_eq rfl (considerQueue_idle _ hqueue)
  by_cases hrate : s.periodInForce = s.sensor.period
  · have hacts : s.begun.tasks = [.considerQueue] := by
      show s.rateActs ++ s.tasks ++ [.considerQueue] = _
      rw [htasks, show s.rateActs = [] from if_pos hrate]
      rfl
    refine ⟨s.link, 1, by decide, ?_⟩
    have hsame : s.begun = { s.begun with link := s.link, tasks := [.considerQueue] } := by
      rw [← hacts]
      rfl
    have hgo := hidle s.link
    rwa [← hsame] at hgo
  · have hacts : s.begun.tasks = [.offerRate, .considerQueue] := by
      show s.rateActs ++ s.tasks ++ [.considerQueue] = _
      rw [htasks, show s.rateActs = [.offerRate] from if_neg hrate]
      rfl
    exact ⟨_, 2, le_rfl, (Carried.front_eq hacts (offerPacket_other _ (.rate _) (by simp))).trans (hidle _)⟩

theorem exec_selfCheckGood (s : State) (status : Byte) (lid fold : Bool) (h : s.port.selfCheck = .underway) :
    ∃ t, exec (.selfCheckEnd 512 status lid fold) s = .next t ∧
      t.port.phase = .running ∧ t.port.selfCheck = .done ∧
      t.sensor.lidClosed.level = lid ∧ t.sensor.foldBack.level = fold ∧
      t.angle.side = (if fold then .high else .low) ∧
      (s.dispatch.queue = [] → s.sleep.power = .active →
        t.sensor.timer = some (s.now + BitVec.ofNat 32 s.settings.active.periodActive) ∧
        t.sensor.period = s.settings.active.periodActive ∧
        (status.toNat / 16 = 9 → t.settings.faults = s.settings.faults ∧ t.sensor.failRun = s.sensor.failRun) ∧
        (status.toNat / 16 ≠ 9 →
          (t.faultEntry .lidSensor).active = true ∧ t.sensor.failRun = 3 ∧ t.sensor.goodRun = 0)) := by
  obtain ⟨w, hw⟩ : ∃ w, w = s.openEvent.checked status lid fold := ⟨_, rfl⟩
  have hbegun : s.openEvent.endSelfCheck 512 status lid fold = w.begun := by
    rw [hw]
    exact endSelfCheck_good s.openEvent status lid fold h
  have htasks : w.tasks = [] := by rw [hw, checked_tasks]; rfl
  have hlevels := checked_lines s.openEvent status lid fold
  rw [← hw] at hlevels
  obtain ⟨hlid, hfold, hside⟩ := hlevels
  obtain ⟨f, hf⟩ : ∃ f : State → State, f = fun u => u.endSelfCheck 512 status lid fold := ⟨_, rfl⟩
  have hfw : f s.openEvent = w.begun := by rw [hf]; exact hbegun
  have hlines := event_lines s f
  have hhost := event_hostSide s f (by
    rw [hfw]
    show (w.rateActs ++ w.tasks ++ [Task.considerQueue]).all Task.fits = true
    rw [htasks]
    unfold State.rateActs
    split <;> rfl)
  rw [hfw] at hlines hhost
  simp only [State.lines, PortUnit.hostSide, Prod.mk.injEq] at hlines hhost
  obtain ⟨hlidLine, hfoldLine, hsideLine⟩ := hlines
  obtain ⟨-, hphase, hcheck, -⟩ := hhost
  refine ⟨s.event f, by rw [hf]; rfl, hphase, hcheck, ?_, ?_, ?_, fun hqueue hactive => ?_⟩
  · rw [hlidLine]
    exact hlid
  · rw [hfoldLine]
    exact hfold
  · rw [hsideLine]
    exact hside
  obtain ⟨l, k, hk, hcarried⟩ := begun_carried w htasks (by rw [hw, checked_frame]; exact hqueue)
  have hrun : runTasks Config.handOnLimit (f s.openEvent) = { w.begun with link := l, tasks := [] } := by
    rw [hfw]
    exact hcarried.done rfl _ (hk.trans (by decide))
  have hevent : s.event f = State.closeBoard { w.begun with link := l, tasks := [] } s := by
    unfold State.event
    rw [hrun]
    rfl
  have hperiod : w.periodInForce = s.settings.active.periodActive := by
    unfold State.periodInForce
    rw [hw, checked_frame]
    dsimp only
    rw [show s.openEvent.sleep.power = .active from hactive]
    rfl
  have hsensor : (s.event f).sensor = { w.sensor with timer := w.start w.periodInForce, period := w.periodInForce } := by
    rw [hevent, closeBoard_frame]
    rfl
  have hsettings : (s.event f).settings = w.settings := by
    rw [hevent, closeBoard_frame]
    rfl
  have hnow : w.now = s.now := by
    rw [hw, checked_frame]
    rfl
  rw [hsensor, hperiod]
  refine ⟨?_, rfl, fun hgood => ?_, fun hbad => ?_⟩
  · show some (w.now + _) = _
    rw [hnow]
  · have hgood' : w = s.openEvent.takeHalls lid fold := by
      rw [hw]
      exact if_pos (by unfold signatureGood; rw [hgood]; rfl)
    rw [hsettings, hgood']
    exact ⟨rfl, rfl⟩
  · have hbad' : w = (s.openEvent.takeHalls lid fold).failSignature := by
      rw [hw]
      exact if_neg (by unfold signatureGood; simpa using hbad)
    refine ⟨?_, ?_⟩
    · have hfault : (s.event f).faultEntry .lidSensor = w.faultEntry .lidSensor := by
        unfold State.faultEntry
        rw [hsettings]
      rw [hfault, hbad']
      exact reportActive_active (s.openEvent.takeHalls lid fold) .lidSensor
    · rw [hbad']
      exact ⟨rfl, rfl⟩

/-- Settles O17: a good end of the self-check, a bad ROM entry, and a check that is over. -/
theorem selfCheckEnd : Obligations.SelfCheckEnd := by
  unfold Obligations.SelfCheckEnd
  refine ⟨exec_selfCheckGood, fun s rom status lid fold hs hrom h => ?_, fun s rom status lid fold hs h => ?_⟩
  · have hfailed : s.endSelfCheck rom status lid fold = { s with port := { s.port with selfCheck := .failed } } := by
      unfold State.endSelfCheck
      rw [if_pos h, if_neg hrom]
      rfl
    rw [← hfailed]
    refine takeEvent_unseen s (fun u => u.endSelfCheck rom status lid fold) hs ?_ ?_
    · rw [hfailed]
      exact hs
    · rw [hfailed]
      rfl
  · exact takeEvent_self s _ hs (if_neg h)

end Sys2Proof.Machine
end

section
/-! The link and the grants once no base is present (R109, R110, R165 to R171). -/

namespace Sys2Proof.Machine

set_option Elab.async false

variable {q : Bool} {L M : BitVec 10} {s t u v w e : State}

/-! ## No base -/

/-- DETACHED, with the host ON, no input and no slot waiting, and no claim raised but the base's. -/
structure Lone (s : State) : Prop where
  calm : Calm s
  host : s.sleep.host = .on
  state : s.attach.state = .detached
  level : s.attach.detect.level = false
  coil : s.allot.demand.coil = 0
  only : s.coilAndBaseOnly

/-- What the link and the allotment unit do there: the other units stay as they are. -/
structure Lonely (s t : State) (rest : List Task) : Prop where
  frame : t = { s with link := t.link, allot := t.allot, settings := t.settings, tasks := rest }
  lone : Lone t

theorem Lone.like (h : Lone s) (hv : Like s v) : Lone v := by
  obtain ⟨hcalm, hhost, hstate, hlevel, hcoil, honly⟩ := h
  refine ⟨hcalm.like hv, hv.host.trans hhost, ?_, ?_, ?_, ?_⟩
  · rw [hv.frame]
    exact hstate
  · rw [hv.frame]
    exact hlevel
  · rw [hv.frame]
    exact hcoil
  · rw [hv.frame]
    exact honly

theorem Lone.setTasks (h : Lone s) (ts : List Task) : Lone (s.setTasks ts) :=
  ⟨h.calm.congr rfl ⟨rfl, rfl, rfl, rfl⟩, h.host, h.state, h.level, h.coil, h.only⟩

theorem Lone.relink (h : Lone s) (l : LinkUnit) (hl : State.noInputWaits { s with link := l }) : Lone { s with link := l } :=
  ⟨.of h.calm.queue hl, h.host, h.state, h.level, h.coil, h.only⟩

theorem Lonely.refl (h : Lone s) (rest : List Task) : Lonely s (s.setTasks rest) rest := ⟨rfl, h.setTasks rest⟩

theorem Lonely.trans {rest rest' : List Task} (h : Lonely s t rest) (h' : Lonely t u rest') : Lonely s u rest' := by
  refine ⟨?_, h'.lone⟩
  rw [h'.frame, h.frame]

theorem Lonely.tasks {rest : List Task} (h : Lonely s t rest) : t.tasks = rest := by rw [h.frame]

/-! ## The link -/

theorem attachLink_lone (h : Lone s) : s.attachLink = s := by
  have hresting : s.resting = s.attach.state := by
    rw [h.state]
    exact if_neg (by rw [h.level]; decide)
  rw [attachLink_resting s (by rw [h.state]; rfl), hresting]
  exact setAttach_same s 1

/-- What a change of the link's state hands on changes nothing. -/
theorem Goes.enteredLone {l : LinkState} {rest : List Task} {x : State} (htasks : s.tasks = x.enterActs l ++ rest) (h : Lone s) :
    Goes 0 3 s (s.setTasks rest) := by
  have hattach : Goes 0 1 (s.setTasks (.attachLink :: .serveReceiveQueue :: rest)) (s.setTasks (.serveReceiveQueue :: rest)) :=
    .still (s := s.setTasks (.attachLink :: .serveReceiveQueue :: rest)) rfl fun v hv => attachLink_lone ((h.setTasks _).like hv)
  have hserve : Goes 0 1 (s.setTasks (.serveReceiveQueue :: rest)) (s.setTasks rest) :=
    .still (s := s.setTasks (.serveReceiveQueue :: rest)) rfl fun v hv => serveReceiveQueue_quiet v ((h.setTasks _).like hv).calm
  unfold State.enterActs at htasks
  split at htasks
  · refine (Goes.still (rest := .attachLink :: .serveReceiveQueue :: rest) htasks fun v hv => ?_).next (hattach.next hserve)
    exact confirmDecrease_none v _ ((h.setTasks _).like hv).only.2.2.2.2
  · rw [show s = s.setTasks (.attachLink :: .serveReceiveQueue :: rest) by
      rw [← show s.tasks = .attachLink :: .serveReceiveQueue :: rest from htasks]
      rfl]
    exact (hattach.next hserve).mono (by decide)

/-- A hand-on that is a change of the link's state. -/
theorem Goes.enterLone {x : Task} {l : LinkState} {cause : Nat} {u : LinkUnit} {rest : List Task} (htasks : s.tasks = x :: rest)
    (h : Lone s) (hu : State.noInputWaits { s with link := u })
    (hx : ∀ v, Like (s.setTasks rest) v → doTask x v = State.enterLink { v with link := u } l cause) :
    ∃ t, Goes 0 4 s t ∧ Lonely s t rest ∧ t.link.state = l ∧ t.allot = s.allot ∧ t.settings = s.settings := by
  obtain ⟨m, hm⟩ : ∃ m, m = State.enteredLink { s.setTasks rest with link := u } l := ⟨_, rfl⟩
  obtain ⟨acts, hacts⟩ : ∃ acts, acts = State.enterActs { s.setTasks rest with link := u } l := ⟨_, rfl⟩
  have hinputs : State.noInputWaits { s with link := m } := by
    rw [hm]
    exact enteredLink_still { s.setTasks rest with link := u } l hu
  have hlone : Lone { s with link := m } := h.relink m hinputs
  have hfirst : Goes 0 1 s { s with link := m, tasks := acts ++ rest } := .front htasks fun v hv => by
    have hentered := Becomes.enterLink { v with link := u } l cause
    rw [← hx v hv] at hentered
    obtain ⟨τ, a, hτ, rfl⟩ := hv
    refine ⟨τ, hτ, ?_⟩
    rw [hm, hacts]
    exact hentered
  refine ⟨{ s with link := m, tasks := rest }, hfirst.next (Goes.enteredLone (s := { s with link := m, tasks := acts ++ rest })
    (x := { s.setTasks rest with link := u }) (l := l) (by rw [hacts]) (hlone.setTasks _)), ⟨rfl, hlone.setTasks rest⟩, ?_, rfl, rfl⟩
  rw [hm]
  exact enteredLink_state _ l

/-- The grant of the base at the link (R110): an absent link stays as it is. -/
theorem Goes.linkGrantLone {rest : List Task} (htasks : s.tasks = .linkGrant :: rest) (h : Lone s) :
    ∃ t, Goes 0 4 s t ∧ Lonely s t rest ∧ (s.link.state = .absent → t.link = s.link) ∧ t.allot = s.allot ∧
      t.settings = s.settings := by
  have hsame (hx : ∀ v, Like (s.setTasks rest) v → v.linkGrant = v) :
      ∃ t, Goes 0 4 s t ∧ Lonely s t rest ∧ (s.link.state = .absent → t.link = s.link) ∧ t.allot = s.allot ∧
        t.settings = s.settings :=
    ⟨s.setTasks rest, (Goes.still htasks hx).mono (by decide), .refl h rest, fun _ => rfl, rfl, rfl⟩
  have hmoved {l : LinkState} {cause : Nat} {u : LinkUnit} (hu : State.noInputWaits { s with link := u })
      (hpresent : s.link.state ≠ .absent)
      (hx : ∀ v, Like (s.setTasks rest) v → v.linkGrant = State.enterLink { v with link := u } l cause) :
      ∃ t, Goes 0 4 s t ∧ Lonely s t rest ∧ (s.link.state = .absent → t.link = s.link) ∧ t.allot = s.allot ∧
        t.settings = s.settings := by
    obtain ⟨t, hgoes, hlonely, -, hallot, hsettings⟩ := Goes.enterLone htasks h hu hx
    exact ⟨t, hgoes, hlonely, fun habsent => absurd habsent hpresent, hallot, hsettings⟩
  by_cases hpowered : 0 < s.allot.grant.base
  · by_cases hunpowered : s.link.state = .unpowered
    · refine hmoved (l := .powering) (cause := 0) (u := { s.link with timer := some (.powerUp, s.after 20) }) h.calm.inputs
        (by rw [hunpowered]; decide) fun v hv => ?_
      obtain ⟨τ, a, -, rfl⟩ := hv
      exact (if_pos (show 0 < s.allot.grant.base from hpowered)).trans (if_pos (show s.link.state = .unpowered from hunpowered))
    · refine hsame fun v hv => ?_
      obtain ⟨τ, a, -, rfl⟩ := hv
      exact (if_pos (show 0 < s.allot.grant.base from hpowered)).trans (if_neg (show ¬ s.link.state = .unpowered from hunpowered))
  · have hstep (v : State) (hv : Like (s.setTasks rest) v) :
        v.linkGrant = match s.link.state with
          | .powering | .greeting | .ready | .quiesced => v.enterLink .unpowered 2
          | .absent | .unpowered | .lost | .faulted => v := by
      obtain ⟨τ, a, -, rfl⟩ := hv
      exact if_neg (show ¬ 0 < s.allot.grant.base from hpowered)
    have hself (v : State) (hv : Like (s.setTasks rest) v) : v.enterLink .unpowered 2 = State.enterLink { v with link := s.link } .unpowered 2 := by
      obtain ⟨τ, a, -, rfl⟩ := hv
      rfl
    obtain ⟨l, hl⟩ : ∃ l, l = s.link.state := ⟨_, rfl⟩
    rw [← hl] at hstep
    cases l
    case powering | greeting | ready | quiesced =>
      exact hmoved (u := s.link) h.calm.inputs (by rw [← hl]; decide) fun v hv => (hstep v hv).trans (hself v hv)
    case absent | unpowered | lost | faulted => exact hsame hstep

/-! ## The grants -/

theorem targets_undemanded (b : Nat) (d : Allotments) (hpen : d.pen = 0) (hbacklight : d.backlight = 0) :
    (targets b d).pen = 0 ∧ (targets b d).backlight = 0 ∧ (d.base = 0 → (targets b d).base = 0) := by
  refine ⟨?_, ?_, fun hbase => ?_⟩
  · unfold targets penTarget
    rw [hpen]
    simp
  · unfold targets backlightTarget
    rw [hbacklight]
    simp
  · unfold targets baseTarget
    rw [hbase]
    simp

theorem grantTasks_base {a b : Allotments} (hpen : a.pen = b.pen) (hbacklight : a.backlight = b.backlight) :
    grantTasks a b = if a.base = b.base then [] else [.linkGrant] := by
  unfold grantTasks
  rw [if_pos hpen, if_pos hbacklight, List.append_nil, List.append_nil]

theorem Goes.grantedLone {a b : Allotments} {rest : List Task} (hpen : a.pen = b.pen) (hbacklight : a.backlight = b.backlight)
    (htasks : s.tasks = grantTasks a b ++ rest) (h : Lone s) :
    ∃ t, Goes 0 4 s t ∧ Lonely s t rest ∧ (s.link.state = .absent → t.link = s.link) ∧ t.allot = s.allot ∧
      t.settings = s.settings := by
  rw [grantTasks_base hpen hbacklight] at htasks
  split at htasks
  · refine ⟨s, (Goes.refl s).mono (by decide), ?_, fun _ => rfl, rfl, rfl⟩
    have hself : s = s.setTasks rest := by
      rw [← show s.tasks = rest from htasks]
      rfl
    have hrefl := Lonely.refl h rest
    rwa [← hself] at hrefl
  · exact Goes.linkGrantLone htasks h

theorem Lone.allotted {A : AllotUnit} (h : Lone s) (hdemand : A.demand.coil = 0 ∧ A.demand.pen = 0 ∧ A.demand.backlight = 0)
    (hgrant : A.grant.pen = 0 ∧ A.grant.backlight = 0) (hawaiting : A.awaiting = []) : Lone { s with allot := A } :=
  ⟨h.calm.congr rfl ⟨rfl, rfl, rfl, rfl⟩, h.host, h.state, h.level, hdemand.1, hdemand.2.1, hdemand.2.2, hgrant.1, hgrant.2, hawaiting⟩

theorem Lone.demands (h : Lone s) : s.allot.demand.coil = 0 ∧ s.allot.demand.pen = 0 ∧ s.allot.demand.backlight = 0 :=
  ⟨h.coil, h.only.1, h.only.2.1⟩

theorem Lone.grants (h : Lone s) : s.allot.grant.pen = 0 ∧ s.allot.grant.backlight = 0 := ⟨h.only.2.2.1, h.only.2.2.2.1⟩

theorem Lone.awaiting (h : Lone s) : s.allot.awaiting = [] := h.only.2.2.2.2

theorem Goes.answerLone {rest : List Task} (htasks : s.tasks = .coilAnswer :: rest) (h : Lone s) : Goes 0 1 s (s.setTasks rest) :=
  .still htasks fun v hv => coilAnswer_undemanded v (by
    rw [((h.setTasks rest).like hv).coil]
    decide)

/-- Pending increases of the coil and the base alone are put in force. -/
theorem Goes.settleLone {rest : List Task} (htasks : s.tasks = .settleIncreases :: .coilAnswer :: rest) (h : Lone s)
    (hpen : s.allot.increases.pen = none) (hbacklight : s.allot.increases.backlight = none) :
    ∃ t, Goes 0 7 s t ∧ Lonely s t rest ∧ (s.link.state = .absent → t.link = s.link) ∧ t.settings = s.settings ∧
      t.allot = { s.allot with grant := t.allot.grant, increases := noIncreases, underVoltage := t.allot.underVoltage } ∧
      (s.allot.increases.base = none → t.allot.grant.base = s.allot.grant.base) := by
  obtain ⟨C, hC⟩ : ∃ C, C = (s.setTasks (.coilAnswer :: rest)).granted (raised s.allot.grant s.allot.increases) noIncreases :=
    ⟨_, rfl⟩
  have hraised : C.grant.pen = s.allot.grant.pen ∧ C.grant.backlight = s.allot.grant.backlight := by
    rw [hC]
    show s.allot.increases.pen.getD _ = _ ∧ s.allot.increases.backlight.getD _ = _
    rw [hpen, hbacklight]
    exact ⟨rfl, rfl⟩
  have hsame : C = { s.allot with grant := C.grant, increases := noIncreases, underVoltage := C.underVoltage } := by rw [hC]; rfl
  have hlone : Lone { s with allot := C } := by
    refine h.allotted ?_ ⟨hraised.1.trans h.grants.1, hraised.2.trans h.grants.2⟩ ?_
    · rw [hsame]
      exact h.demands
    · rw [hsame]
      exact h.awaiting
  have hsettle : Goes 0 1 s { s with allot := C, tasks := (grantTasks s.allot.grant C.grant ++ [.coilAnswer]) ++ .coilAnswer :: rest } :=
    .front htasks fun v hv => by
      have hsettled := Becomes.settleIncreases (q := false) v ((h.setTasks _).like hv).awaiting
      obtain ⟨τ, a, hτ, rfl⟩ := hv
      refine ⟨τ, hτ, ?_⟩
      rw [hC]
      exact hsettled
  obtain ⟨t, hgoes, ht, hlink, hallot, hsettings⟩ := Goes.grantedLone (a := s.allot.grant) (b := C.grant)
    (s := { s with allot := C, tasks := (grantTasks s.allot.grant C.grant ++ [.coilAnswer]) ++ .coilAnswer :: rest })
    (rest := .coilAnswer :: .coilAnswer :: rest) hraised.1.symm hraised.2.symm (List.append_assoc _ _ _) (hlone.setTasks _)
  have hanswers : Goes 0 2 t (t.setTasks rest) :=
    (Goes.answerLone ht.tasks ht.lone).next (Goes.answerLone (s := t.setTasks (.coilAnswer :: rest)) rfl (ht.lone.setTasks _))
  refine ⟨t.setTasks rest, ((hsettle.next hgoes).next hanswers), ⟨?_, ht.lone.setTasks rest⟩, hlink, hsettings, ?_, fun hbase => ?_⟩
  · rw [ht.frame]
    rfl
  · show t.allot = { s.allot with grant := t.allot.grant, increases := noIncreases, underVoltage := t.allot.underVoltage }
    rw [hallot]
    exact hsame
  · show t.allot.grant.base = _
    rw [hallot, hC]
    show s.allot.increases.base.getD _ = _
    rw [hbase]
    rfl

/-- What a recomputation leaves of the allotment unit where only the coil and the base may have a grant. -/
theorem recomputedAllot_lone (h : Lone s) :
    s.recomputedAllot =
        { s.allot with
          grant := s.recomputedAllot.grant, increases := s.recomputedAllot.increases
          underVoltage := s.recomputedAllot.underVoltage } ∧
      (s.recomputedAllot.grant.pen = 0 ∧ s.recomputedAllot.grant.backlight = 0) ∧
      (s.recomputedAllot.increases.pen = none ∧ s.recomputedAllot.increases.backlight = none) ∧
      (s.allot.demand.base = 0 → s.recomputedAllot.grant.base = 0 ∧ s.recomputedAllot.increases.base = none) := by
  obtain ⟨-, hpen, hbacklight⟩ := h.demands
  obtain ⟨hgpen, hgbacklight⟩ := h.grants
  obtain ⟨T, hT⟩ : ∃ T, T = targets s.allot.budget s.allot.demand := ⟨_, rfl⟩
  obtain ⟨hTpen, hTbacklight, hTbase⟩ := targets_undemanded s.allot.budget s.allot.demand hpen hbacklight
  rw [← hT] at hTpen hTbacklight hTbase
  have hnone (g x : Nat) (hx : x = 0) : min g x = 0 ∧ increaseOf g x = none := by
    rw [hx]
    exact ⟨Nat.min_zero g, if_neg (Nat.not_lt_zero g)⟩
  have hawaiting (off : Bool) (d : PartTime) : awaitingAfter s.allot.awaiting s.allot.grant T off d = s.allot.awaiting := by
    unfold awaitingAfter
    rw [if_neg (by rw [hgbacklight]; exact Nat.not_lt_zero _), if_neg (by rw [hgpen]; exact Nat.not_lt_zero _)]
  unfold State.recomputedAllot
  rw [← hT, hawaiting]
  exact ⟨rfl, ⟨(hnone _ _ hTpen).1, (hnone _ _ hTbacklight).1⟩, ⟨(hnone _ _ hTpen).2, (hnone _ _ hTbacklight).2⟩,
    fun hbase => hnone _ _ (hTbase hbase)⟩

/-- A recomputation of grants that only the coil's and the base's claims can move. -/
theorem Goes.recomputeLone {x : Task} {A : AllotUnit} {σ : SettingsUnit} {rest : List Task} (htasks : s.tasks = x :: rest)
    (h : Lone { s with allot := A })
    (hx : ∀ v, Like (s.setTasks rest) v → Becomes false 0 (doTask x v) (State.recomputed { v with allot := A, settings := σ })) :
    ∃ t, Goes 0 12 s t ∧ Lonely s t rest ∧ (s.link.state = .absent → t.link = s.link) ∧ t.settings = σ ∧
      t.allot.demand = A.demand ∧ t.allot.faultedOff = A.faultedOff ∧ t.allot.lockout = A.lockout ∧
      (A.demand.base = 0 → t.allot.grant.base = 0) := by
  have hrecomputed := recomputedAllot_lone (s := { s.setTasks rest with allot := A }) (h.setTasks rest)
  obtain ⟨B, hB⟩ : ∃ B, B = State.recomputedAllot { s.setTasks rest with allot := A } := ⟨_, rfl⟩
  rw [← hB] at hrecomputed
  obtain ⟨hBsame, hBgrants, ⟨hBpen, hBbacklight⟩, hBbase⟩ := hrecomputed
  have hBsame : B = { A with grant := B.grant, increases := B.increases, underVoltage := B.underVoltage } := hBsame
  have hBlone : Lone { s with allot := B } := by
    refine Lone.allotted (s := { s with allot := A }) h ?_ hBgrants ?_
    · rw [hBsame]
      exact h.demands
    · rw [hBsame]
      exact h.awaiting
  have hfirst : Goes 0 1 s { s with allot := B, settings := σ, tasks := (grantTasks A.grant B.grant ++ [.settleIncreases, .coilAnswer]) ++ rest } :=
    .front htasks fun v hv => by
      have hstated := hx v hv
      obtain ⟨τ, a, hτ, rfl⟩ := hv
      refine ⟨τ, hτ, ?_⟩
      rw [hB]
      exact hstated
  obtain ⟨t, hgoes, ht, hlink, hallot, hsettings⟩ := Goes.grantedLone (a := A.grant) (b := B.grant)
    (s := { s with allot := B, settings := σ, tasks := (grantTasks A.grant B.grant ++ [.settleIncreases, .coilAnswer]) ++ rest })
    (rest := .settleIncreases :: .coilAnswer :: rest) (h.grants.1.trans hBgrants.1.symm) (h.grants.2.trans hBgrants.2.symm)
    (List.append_assoc _ _ _) (Lone.setTasks (s := { s with allot := B, settings := σ })
      ⟨hBlone.calm.congr rfl ⟨rfl, rfl, rfl, rfl⟩, hBlone.host, hBlone.state, hBlone.level, hBlone.coil, hBlone.only⟩ _)
  have hallot : t.allot = B := hallot
  obtain ⟨z, hsettled, hz, hzlink, hzsettings, hzallot, hzbase⟩ := Goes.settleLone (rest := rest) ht.tasks ht.lone
    (by rw [hallot]; exact hBpen) (by rw [hallot]; exact hBbacklight)
  rw [hallot, hBsame] at hzallot
  refine ⟨z, (hfirst.next hgoes).next hsettled, ⟨?_, hz.lone⟩, fun habsent => ?_, hzsettings.trans hsettings, ?_, ?_, ?_,
    fun hbase => ?_⟩
  · rw [hz.frame, ht.frame]
  · have htlink := hlink habsent
    exact (hzlink (by rw [htlink]; exact habsent)).trans htlink
  · rw [hzallot]
  · rw [hzallot]
  · rw [hzallot]
  · obtain ⟨hgrant, hincrease⟩ := hBbase hbase
    rw [hzbase (by rw [hallot]; exact hincrease), hallot]
    exact hgrant

/-! ## A loss of DETECT at the two units (R109, R165) -/

/-- The link unit once the base is gone (R109). -/
def State.absentLink (s : State) : State :=
  let x := State.heldOff { s with link := s.enteredLink .absent } false
  { x with
    link := { x.link with stage := .awaitHello, retries := 0, recoveries := 0, capBacklight := false, capButton := false }
    settings := if s.link.state = .faulted then s.settings.withFault .baseLink FaultEntry.deactivated else s.settings }

theorem Becomes.linkDetect (s : State) (hlevel : s.attach.detect.level = false) (hpresent : s.link.state ≠ .absent) :
    Becomes false 0 s.linkDetect (State.hand s.absentLink (s.enterActs .absent ++ [.stateBacklight])) := by
  have hentered := Becomes.enterLink (s.hand [.stateBacklight]) .absent 1
  have hheld := hentered.apply (op := fun w => w.setHoldOff false) (g := fun w => w.heldOff false)
    (fun w => .of_eq (setHoldOff_eq w false))
  have hcleared := hheld.blind (blind_updLink fun u =>
    { u with stage := .awaitHello, retries := 0, recoveries := 0, capBacklight := false, capButton := false })
  rw [← hand_hand s.absentLink [.stateBacklight] (s.enterActs .absent)]
  unfold State.linkDetect State.absentLink
  rw [if_neg (by rw [hlevel]; decide), if_neg hpresent]
  by_cases hfaulted : s.link.state = .faulted
  · rw [if_pos hfaulted]
    dsimp only
    rw [if_pos (by rw [hfaulted]; rfl)]
    exact hcleared.apply (op := fun w => w.reportInactive .baseLink)
      (g := fun w => { w with settings := w.settings.withFault .baseLink FaultEntry.deactivated }) fun w => .reportInactive w .baseLink
  · rw [if_neg hfaulted]
    dsimp only
    rw [if_neg (by simpa using hfaulted)]
    exact hcleared

theorem Goes.linkDetectLone {rest : List Task} (htasks : s.tasks = .linkDetect :: rest) (h : Lone s) :
    ∃ t, Goes 0 5 s t ∧ Lonely s t rest ∧ t.link.state = .absent ∧
      t.allot = { s.allot with underVoltage := t.allot.underVoltage } ∧
      (t.settings = s.settings ∨ t.settings = s.settings.withFault .baseLink FaultEntry.deactivated) := by
  by_cases habsent : s.link.state = .absent
  · refine ⟨s.setTasks rest, (Goes.still htasks fun v hv => ?_).mono (by decide), .refl h rest, habsent, rfl, .inl rfl⟩
    have hlone := (h.setTasks rest).like hv
    obtain ⟨τ, a, -, rfl⟩ := hv
    exact (if_neg (by rw [hlone.level]; decide)).trans (if_pos habsent)
  · obtain ⟨x, hx⟩ : ∃ x, x = (s.setTasks rest).absentLink := ⟨_, rfl⟩
    have hinputs : State.noInputWaits { s with link := x.link } := by
      rw [hx]
      exact enteredLink_still (s.setTasks rest) .absent h.calm.inputs
    have hallot : x.allot = { s.allot with underVoltage := x.allot.underVoltage } := by
      rw [hx]
      rfl
    have hframe : x = { s with link := x.link, allot := x.allot, settings := x.settings, tasks := rest } := by
      rw [hx]
      rfl
    have hlone : Lone x := by
      refine ⟨.of ?_ ?_, ?_, ?_, ?_, ?_, ?_⟩
      · rw [hframe]
        exact h.calm.queue
      · rw [hframe]
        exact hinputs
      · rw [hframe]
        exact h.host
      · rw [hframe]
        exact h.state
      · rw [hframe]
        exact h.level
      · rw [hallot]
        exact h.coil
      · unfold State.coilAndBaseOnly
        rw [hallot]
        exact h.only
    have hfirst : Goes 0 1 s (x.setTasks ((s.setTasks rest).enterActs .absent ++ .stateBacklight :: rest)) := .front htasks fun v hv => by
      have hlone := (h.setTasks rest).like hv
      have hgone := Becomes.linkDetect v hlone.level (by rw [hv.frame]; exact habsent)
      rw [← hand_hand] at hgone
      obtain ⟨τ, a, hτ, rfl⟩ := hv
      refine ⟨τ, by rw [hx]; exact hτ, ?_⟩
      rw [hx]
      exact hgone
    have hentered := Goes.enteredLone (s := x.setTasks ((s.setTasks rest).enterActs .absent ++ .stateBacklight :: rest))
      (x := s.setTasks rest) (l := .absent) rfl (hlone.setTasks _)
    have hstated : Goes 0 1 (x.setTasks (.stateBacklight :: rest)) (x.setTasks rest) :=
      .still (s := x.setTasks (.stateBacklight :: rest)) rfl fun v hv => stateBacklight_held v (by
        have hundemanded := ((hlone.setTasks rest).like hv).demands.2.2
        have hincapable : v.link.capBacklight = false := by
          rw [hv.frame, hx]
          rfl
        unfold State.wished
        rw [hundemanded, hincapable]
        rfl)
    refine ⟨x.setTasks rest, (hfirst.next hentered).next hstated, ⟨?_, hlone.setTasks rest⟩, ?_, hallot, ?_⟩
    · rw [hframe]
      rfl
    · rw [hx]
      exact enteredLink_state (s.setTasks rest) .absent
    · rw [hx]
      exact (ite_eq_or_eq _ _ _).symm

theorem Goes.allotDetectLone {rest : List Task} (htasks : s.tasks = .allotDetect :: rest) (h : Lone s) :
    ∃ t, Goes 0 12 s t ∧ Lonely s t rest ∧ (s.link.state = .absent → t.link = s.link) ∧
      t.settings = s.settings.withFault .baseSupply FaultEntry.deactivated ∧ t.allot.demand.base = 0 ∧
      t.allot.faultedOff = false ∧ t.allot.lockout = false ∧ (s.allot.demand.base ≠ 0 → t.allot.grant.base = 0) := by
  obtain ⟨A, hA⟩ : ∃ A : AllotUnit, A = { s.allot with faultedOff := false, lockout := false } := ⟨_, rfl⟩
  have hcleared (v : State) (hv : Like (s.setTasks rest) v) : ∃ e, v.allotDetect = e.reviewBase ∧
      Becomes false 0 e { v with allot := A, settings := s.settings.withFault .baseSupply FaultEntry.deactivated } := by
    have hlone := (h.setTasks rest).like hv
    obtain ⟨τ, a, hτ, rfl⟩ := hv
    refine ⟨_, if_neg (by rw [hlone.level]; decide), ?_⟩
    rw [hA]
    exact Becomes.reportInactive _ .baseSupply
  have hreview (e : State) (hlevel : e.attach.detect.level = false) :
      e.reviewBase = if e.allot.demand.base = 0 then e else (e.setDemand fun a => { a with base := 0 }).recompute := by
    unfold State.reviewBase
    rw [hlevel]
    rfl
  have hlevel {v e : State} (hv : Like (s.setTasks rest) v) (he : Becomes false 0 e
      { v with allot := A, settings := s.settings.withFault .baseSupply FaultEntry.deactivated }) :
      e.attach.detect.level = false := by
    rw [he.frame]
    exact ((h.setTasks rest).like hv).level
  have hdemand {v e : State} (he : Becomes false 0 e
      { v with allot := A, settings := s.settings.withFault .baseSupply FaultEntry.deactivated }) :
      e.allot.demand.base = s.allot.demand.base := by
    rw [he.frame, hA]
    rfl
  by_cases hbase : s.allot.demand.base = 0
  · refine ⟨{ s with allot := A, settings := s.settings.withFault .baseSupply FaultEntry.deactivated, tasks := rest },
      Goes.mono (j := 1) (.front htasks fun v hv => ?_) (by decide), ⟨rfl, ?_⟩, fun _ => rfl, rfl, ?_, ?_, ?_,
      fun hne => absurd hbase hne⟩
    · obtain ⟨e, hstep, he⟩ := hcleared v hv
      have hsame : doTask .allotDetect v = e :=
        hstep.trans ((hreview e (hlevel hv he)).trans (if_pos ((hdemand he).trans hbase)))
      rw [hsame]
      obtain ⟨τ, a, hτ, rfl⟩ := hv
      exact ⟨τ, hτ, he⟩
    · rw [hA]
      exact ⟨h.calm.congr rfl ⟨rfl, rfl, rfl, rfl⟩, h.host, h.state, h.level, h.coil, h.only⟩
    · rw [hA]
      exact hbase
    · rw [hA]
    · rw [hA]
  · obtain ⟨B, hB⟩ : ∃ B : AllotUnit, B = { A with demand := { A.demand with base := 0 } } := ⟨_, rfl⟩
    obtain ⟨t, hgoes, ht, hlink, hsettings, htdemand, hoff, hlockout, hgrant⟩ := Goes.recomputeLone
      (σ := s.settings.withFault .baseSupply FaultEntry.deactivated) (A := B) htasks
      (by rw [hB, hA]; exact ⟨h.calm.congr rfl ⟨rfl, rfl, rfl, rfl⟩, h.host, h.state, h.level, h.coil, h.only⟩) fun v hv => by
        obtain ⟨e, hstep, he⟩ := hcleared v hv
        have hmoved : doTask .allotDetect v = (e.setDemand fun a => { a with base := 0 }).recompute :=
          hstep.trans ((hreview e (hlevel hv he)).trans (if_neg (by rw [hdemand he]; exact hbase)))
        have hset := he.blind (f := fun w => w.setDemand fun a => { a with base := 0 }) ⟨fun _ _ => rfl, fun _ => ⟨rfl, rfl, rfl⟩⟩
        rw [hmoved, hB]
        exact hset.apply (op := State.recompute) (g := State.recomputed) Becomes.recompute
    rw [hB] at htdemand hgrant
    rw [hB, hA] at hoff hlockout
    exact ⟨t, hgoes, ht, hlink, hsettings, by rw [htdemand], hoff, hlockout, fun _ => hgrant rfl⟩

end Sys2Proof.Machine
end

section
/-! Runs of hand-ons in which a slot may be answered, and the readers of DETACHED (R95, R129). -/

namespace Sys2Proof.Machine

set_option Elab.async false

variable {q : Bool} {L M : BitVec 10} {s t u v w e : State}

/-! ## Runs that may answer a slot -/

/-- From every state like s the hand-ons lead, within k of them, to a state like t, with exchange memory still canonical. Unlike
`Goes`, this says nothing more of the memory: a slot may be answered on the way. -/
def Runs (k : Nat) (s t : State) : Prop :=
  ∀ v, Like s v → ∃ j ≤ k, ∃ w, Carried j v w ∧ Like t w ∧ (MemoryCanonical v → MemoryCanonical w)

theorem Goes.runs {k : Nat} (h : Goes L k s t) : Runs k s t := fun v hv => by
  obtain ⟨j, hj, w, hw, hlike, hdrift⟩ := h v hv
  exact ⟨j, hj, w, hw, hlike, hdrift.canonical⟩

theorem Runs.trans {j k : Nat} (h : Runs j s t) (h' : Runs k t u) : Runs (j + k) s u := fun v hv => by
  obtain ⟨i, hi, w, hw, hlike, hm⟩ := h v hv
  obtain ⟨l, hl, x, hx, hlike', hm'⟩ := h' w hlike
  exact ⟨i + l, by omega, x, hw.trans hx, hlike', hm' ∘ hm⟩

theorem Runs.mono {j k : Nat} (h : Runs j s t) (hk : j ≤ k) : Runs k s t := fun v hv => by
  obtain ⟨i, hi, w, hrest⟩ := h v hv
  exact ⟨i, hi.trans hk, w, hrest⟩

/-- An event carried by such runs. -/
theorem takeEvent_runs {k : Nat} {f : State → State} (hs : s.betweenEvents) (hf : Like u (f s)) (h : Runs k u t) (ht : t.tasks = [])
    (hk : k ≤ 100 := by decide) : ∃ e, takeEvent s f = .next e ∧ Like t e := by
  obtain ⟨j, hj, w, hw, hlike, -⟩ := h (f s) hf
  have htasks : w.tasks = [] := by
    rw [hlike.frame]
    exact ht
  exact ⟨w.closeBoard s, takeEvent_carried hs hw htasks (hj.trans hk),
    hlike.trans ⟨w.sleep, _, .refl _, (Becomes.closeBoard (q := false) w s).frame⟩⟩

/-! ## A unit answers (R13) -/

/-- The dispatcher once a unit has answered the slot it serves. -/
def Dispatcher.answeredBy (d : Dispatcher) (u : ServingUnit) : Dispatcher :=
  match d.serving[u.index] with
  | none => d
  | some n =>
    { d with slots := d.slots.set n (if d.slots[n] = .taken true then .free else .done), serving := d.serving.set u.index none }

/-- What the answer hands on, after all that waits. -/
def Dispatcher.answerActs (d : Dispatcher) (u : ServingUnit) : List Task :=
  if d.serving[u.index].isSome then [.considerQueue] else []

theorem finishUnit_answers (s : State) (u : ServingUnit) (code : ResultCode) (detail : Nat) (words : List Word) :
    s.finishUnit u code detail words =
      State.withNoise { s with dispatch := s.dispatch.answeredBy u, tasks := s.tasks ++ s.dispatch.answerActs u }
        (s.finishUnit u code detail words) := by
  unfold State.finishUnit Dispatcher.answeredBy Dispatcher.answerActs State.finishSlot State.servingSlot
  cases hserving : s.dispatch.serving[u.index] with
  | none =>
    rw [Option.isSome_none, if_neg (by decide), List.append_nil]
    rfl
  | some n =>
    dsimp only
    rw [Option.isSome_some, if_pos rfl]
    have hslot : s.slotState n = s.dispatch.slots[n] := rfl
    split <;> rename_i hfree <;> rw [hslot] at hfree
    · rw [if_pos hfree]
      rfl
    · rw [if_neg hfree]
      rfl

theorem answeredBy_queue (d : Dispatcher) (u : ServingUnit) : (d.answeredBy u).queue = d.queue := by
  unfold Dispatcher.answeredBy
  split <;> rfl

/-- The answer of one unit leaves the slot of another as it is. -/
theorem answeredBy_other {s : State} (hs : SlotsConsistent s) {u v : ServingUnit} {n : Fin 32} (huv : v ≠ u)
    (hserving : s.servingSlot v = some n) :
    (s.dispatch.answeredBy u).serving[v.index] = some n ∧ (s.dispatch.answeredBy u).slots[n] = s.slotState n := by
  obtain ⟨-, -, -, honly⟩ := hs
  unfold Dispatcher.answeredBy
  split
  · exact ⟨hserving, rfl⟩
  · next m hm =>
    have hne : n ≠ m := fun heq => huv (honly v u n hserving (by rw [heq]; exact hm))
    have hindex : (u.index : Nat) ≠ v.index := by
      intro heq
      refine huv ?_
      cases u <;> cases v <;> first | rfl | exact absurd heq (by decide)
    refine ⟨(Vector.getElem_set_ne u.index.isLt v.index.isLt hindex).trans hserving, slotState_set_ne s.dispatch m n _ hne⟩

/-! ## The readers of DETACHED -/

/-- The posture unit with DETACHED committed (R95). -/
def State.detachedPosture (s : State) : PostureUnit :=
  { s.posture with posture := .detached, band := none, candidate := none, dwell := none, unavailable := none, outOfTable := false }

/-- DETACHED reaches the posture unit. -/
theorem Goes.postureAttach {rest : List Task} (htasks : s.tasks = .postureAttach :: rest) (hc : Calm s) (hon : s.sleep.host = .on) :
    ∃ t, Goes 0 10 s t ∧ t = { s with link := t.link, posture := t.posture, tasks := rest } ∧ t.posture.posture = .detached ∧
      State.noInputWaits t ∧ t.link.state = s.link.state := by
  by_cases hdetached : s.posture.posture = .detached
  · refine ⟨s.setTasks rest, (Goes.still htasks fun v hv => ?_).mono (by decide), rfl, hdetached, hc.inputs, rfl⟩
    obtain ⟨τ, a, -, rfl⟩ := hv
    exact if_pos hdetached
  · obtain ⟨x, hx⟩ : ∃ x : State, x = { s with posture := s.detachedPosture, tasks := commitTasks s.posture.posture 1 ++ rest } :=
      ⟨_, rfl⟩
    have hfirst : Goes 0 1 s x := .front htasks fun v hv => by
      have hcommit := Becomes.commitPosture (q := false)
        (v.updPosture fun u => { u with dwell := none, unavailable := none, outOfTable := false }) .detached none 1
      have hstep : doTask .postureAttach v =
          (v.updPosture fun u => { u with dwell := none, unavailable := none, outOfTable := false }).commitPosture .detached none 1 :=
        if_neg (by rw [hv.frame]; exact hdetached)
      rw [hstep]
      obtain ⟨τ, a, hτ, rfl⟩ := hv
      refine ⟨τ, by rw [hx]; exact hτ, ?_⟩
      rw [hx]
      exact hcommit
    have hcommitted := Goes.commit (s := x) (before := s.posture.posture) (cause := 1) (rest := rest) (by rw [hx])
      (by rw [hx]; exact hc.congr rfl ⟨rfl, rfl, rfl, rfl⟩) (by rw [hx]; exact hon)
    refine ⟨x.committed rest, hfirst.next hcommitted.unsaid, ?_, ?_, ?_, ?_⟩
    · unfold State.committed
      rw [hx]
    · show x.gatedPosture.posture = _
      rw [gatedPosture_frame, hx]
      rfl
    · unfold State.committed State.published
      rw [hx]
      exact hc.inputs
    · unfold State.committed State.published
      rw [hx]

/-- DETACHED reaches the angle unit: a calibration fails. -/
theorem Runs.angleAttach {rest : List Task} (htasks : s.tasks = .angleAttach :: rest) :
    ∃ t, Runs 1 s t ∧
      t = { s with angle := { s.angle with quality := .unavailable, hasValue := false, holdCount := 0, calibration := none }
                   dispatch := t.dispatch, tasks := t.tasks } ∧
      (t.dispatch = s.dispatch ∧ t.tasks = rest ∨
        t.dispatch = s.dispatch.answeredBy .angle ∧ t.tasks = rest ++ s.dispatch.answerActs .angle) := by
  obtain ⟨a, ha⟩ : ∃ a : AngleUnit,
      a = { s.angle with quality := .unavailable, hasValue := false, holdCount := 0, calibration := none } := ⟨_, rfl⟩
  have hstep (v : State) (hv : Like (s.setTasks rest) v) :
      v.angleDetached = match s.angle.calibration with
        | none => { v with angle := a }
        | some c => State.finishUnit { v with angle := a } .angle .failed 1 [word c.run, word c.sets] := by
    obtain ⟨τ, b, -, rfl⟩ := hv
    rw [ha]
    show State.failCalibration _ 1 = _
    unfold State.failCalibration
    show (match s.angle.calibration with | none => _ | some c => _) = _
    cases hcalibration : s.angle.calibration with
    | none => rw [← hcalibration]; rfl
    | some c => rfl
  cases hcalibration : s.angle.calibration with
  | none =>
    rw [hcalibration] at hstep
    refine ⟨{ s with angle := a, tasks := rest }, Goes.runs (L := 0) (.front htasks fun v hv => ?_), by rw [ha], .inl ⟨rfl, rfl⟩⟩
    have hangle := hstep v hv
    obtain ⟨τ, b, hτ, rfl⟩ := hv
    exact ⟨τ, hτ, .of_eq hangle⟩
  | some c =>
    rw [hcalibration] at hstep
    refine ⟨{ s with angle := a, dispatch := s.dispatch.answeredBy .angle, tasks := rest ++ s.dispatch.answerActs .angle },
      fun v hv => ?_, by rw [ha], .inr ⟨rfl, rfl⟩⟩
    obtain ⟨τ, b, hτ, rfl⟩ := hv
    have hfront := Carried.front (s := State.withNoise { s with sleep := τ } b) (x := .angleAttach) (rest := rest) htasks
    have hangle : State.angleDetached (State.withNoise { s.setTasks rest with sleep := τ } b) =
        State.finishUnit (State.withNoise { s with angle := a, sleep := τ, tasks := rest } b) .angle .failed 1
          [word c.run, word c.sets] := hstep _ ⟨τ, b, hτ, rfl⟩
    refine ⟨1, le_rfl, _, hfront, ?_, fun hm => ?_⟩
    · show Like _ (State.angleDetached (State.withNoise { s.setTasks rest with sleep := τ } b))
      rw [hangle, finishUnit_answers]
      exact ⟨τ, _, hτ, rfl⟩
    · show MemoryCanonical (State.angleDetached (State.withNoise { s.setTasks rest with sleep := τ } b))
      rw [hangle]
      exact ((Moves.refl .served (State.withNoise { s with angle := a, sleep := τ, tasks := rest } b)).finishUnit .angle .failed 1
        [word c.run, word c.sets]).keeps.canonical hm

end Sys2Proof.Machine
end

section
/-! DETACHED at its readers, then at the link and the allotment unit (R109, R129, R165). -/

namespace Sys2Proof.Machine

set_option Elab.async false

variable {q : Bool} {L M : BitVec 10} {s t u v w e : State}

/-! ## The five readers -/

/-- What the readers of DETACHED leave, with the tasks that remain. -/
structure Unseated (s t : State) (rest : List Task) : Prop where
  frame : t = { s with
    link := t.link, posture := t.posture
    angle := { s.angle with quality := .unavailable, hasValue := false, holdCount := 0, calibration := none }
    sensor := { s.sensor with holding := none }, dispatch := t.dispatch, tasks := t.tasks }
  lone : Lone t
  posture : t.posture.posture = .detached
  answers : t.dispatch = s.dispatch ∧ t.tasks = rest ∨
    t.dispatch = s.dispatch.answeredBy .angle ∧ t.tasks = rest ++ s.dispatch.answerActs .angle

theorem Runs.readers {before : AttachState} {rest : List Task} (htasks : s.tasks = attachReaders before .detached ++ rest)
    (h : Lone s) : ∃ t, Runs 18 s t ∧ Unseated s t rest := by
  have hreaders : attachReaders before .detached =
      [.postureAttach, .angleAttach, .sensorAttach, .linkAttach, .sleepAttach before .detached] := rfl
  rw [hreaders] at htasks
  obtain ⟨x, hposture, hx, hdetached, hinputs, -⟩ := Goes.postureAttach
    (rest := .angleAttach :: .sensorAttach :: .linkAttach :: .sleepAttach before .detached :: rest) htasks h.calm h.host
  obtain ⟨y, hangle, hy, hanswers⟩ := Runs.angleAttach (s := x)
    (rest := .sensorAttach :: .linkAttach :: .sleepAttach before .detached :: rest) (by rw [hx])
  obtain ⟨acts, hacts⟩ : ∃ acts, y.tasks = .sensorAttach :: .linkAttach :: .sleepAttach before .detached :: (rest ++ acts) ∧
      (y.dispatch = s.dispatch ∧ acts = [] ∨ y.dispatch = s.dispatch.answeredBy .angle ∧ acts = s.dispatch.answerActs .angle) := by
    have hdispatch : x.dispatch = s.dispatch := by rw [hx]
    rw [hdispatch] at hanswers
    rcases hanswers with ⟨hsame, hleft⟩ | ⟨hmoved, hleft⟩
    · exact ⟨[], by rw [hleft, List.append_nil], .inl ⟨hsame, rfl⟩⟩
    · exact ⟨_, hleft, .inr ⟨hmoved, rfl⟩⟩
  obtain ⟨hleft, hdispatch⟩ := hacts
  obtain ⟨z, hz⟩ : ∃ z : State, z = { y with sensor := { y.sensor with holding := none } } := ⟨_, rfl⟩
  have hframe : z = { s with
      link := x.link, posture := x.posture
      angle := { s.angle with quality := .unavailable, hasValue := false, holdCount := 0, calibration := none }
      sensor := { s.sensor with holding := none }, dispatch := y.dispatch, tasks := y.tasks } := by
    rw [hz, hy, hx]
  have hqueue : y.dispatch.queue = [] := by
    rcases hdispatch with ⟨hsame, -⟩ | ⟨hmoved, -⟩
    · rw [hsame]
      exact h.calm.queue
    · rw [hmoved, answeredBy_queue]
      exact h.calm.queue
  have hlone (ts : List Task) : Lone (z.setTasks ts) := by
    rw [hframe]
    exact ⟨.of hqueue hinputs, h.host, h.state, h.level, h.coil, h.only⟩
  have hsensor : Goes 0 1 y (z.setTasks (.linkAttach :: .sleepAttach before .detached :: (rest ++ acts))) := .front hleft fun v hv => by
    obtain ⟨τ, a, hτ, rfl⟩ := hv
    refine ⟨τ, by rw [hz]; exact hτ, .of_eq ?_⟩
    rw [hz]
    rfl
  have hhost : z.sleep.host = .on := (hlone []).host
  have hlast : Goes 0 5 (z.setTasks (.linkAttach :: .sleepAttach before .detached :: (rest ++ acts))) (z.setTasks (rest ++ acts)) := by
    have hminor : (Task.sleepAttach before .detached).minorWeight (z.sleep.host == .on) = 3 := by simp [Task.minorWeight, hhost]
    refine (Goes.minors (ts := [.linkAttach, .sleepAttach before .detached]) (rest := rest ++ acts)
      (s := z.setTasks (.linkAttach :: .sleepAttach before .detached :: (rest ++ acts))) rfl (fun w hw => ?_) (hlone _).calm).mono ?_
    · simp only [List.mem_cons, List.not_mem_nil, or_false] at hw
      rcases hw with rfl | rfl
      · rfl
      · unfold Task.minor
        show decide (0 < (Task.sleepAttach before .detached).minorWeight (z.sleep.host == .on)) = true
        rw [hminor]
        rfl
    · show minorWeights (z.sleep.host == .on) _ ≤ 5
      simp only [minorWeights, List.map_cons, List.map_nil, List.sum_cons, List.sum_nil, hminor]
      exact Nat.le_refl 5
  refine ⟨z.setTasks (rest ++ acts), ((hposture.runs.trans hangle).trans (hsensor.runs.trans hlast.runs)).mono (by decide), ?_, hlone _, ?_, ?_⟩
  · rw [hframe]
    rfl
  · rw [hframe]
    exact hdetached
  · show z.dispatch = _ ∧ rest ++ acts = rest ∨ z.dispatch = _ ∧ rest ++ acts = _
    rw [hframe]
    rcases hdispatch with ⟨hsame, hacts⟩ | ⟨hmoved, hacts⟩
    · exact .inl ⟨hsame, by rw [hacts, List.append_nil]⟩
    · exact .inr ⟨hmoved, by rw [hacts]⟩

/-! ## The link and the allotment unit, in either order (log 10) -/

theorem withFault_inactive (u : SettingsUnit) :
    (u.withFault .baseSupply FaultEntry.deactivated).faults[FaultKind.baseSupply.index].active = false ∧
      ((u.withFault .baseSupply FaultEntry.deactivated).withFault .baseLink
        FaultEntry.deactivated).faults[FaultKind.baseSupply.index].active = false := by
  have hinactive : (u.withFault .baseSupply FaultEntry.deactivated).faults[FaultKind.baseSupply.index].active = false := by
    rw [withFault_entry]
    unfold FaultEntry.deactivated
    split
    · rfl
    · next h => exact Bool.eq_false_iff.mpr h
  refine ⟨hinactive, ?_⟩
  rw [← hinactive]
  exact congrArg FaultEntry.active (Vector.getElem_set_ne FaultKind.baseLink.index.isLt FaultKind.baseSupply.index.isLt (by decide))

/-- What the loss of DETECT leaves of the two units (R109, R165). -/
structure Removed (s t : State) : Prop where
  link : t.link.state = .absent
  faultedOff : t.allot.faultedOff = false
  lockout : t.allot.lockout = false
  supply : (t.faultEntry .baseSupply).active = false
  demand : t.allot.demand = ⟨0, 0, 0, 0⟩
  grant : s.allot.demand.base ≠ 0 → t.allot.grant.base = 0

theorem Lone.nothing (h : Lone s) (hbase : s.allot.demand.base = 0) : s.allot.demand = ⟨0, 0, 0, 0⟩ := by
  obtain ⟨hcoil, hpen, hbacklight⟩ := h.demands
  show Allotments.mk s.allot.demand.coil s.allot.demand.base s.allot.demand.pen s.allot.demand.backlight = _
  rw [hcoil, hbase, hpen, hbacklight]

/-- The two readers of a loss of DETECT, in the order of a choice. -/
def detectTasks (linkFirst : Bool) : List Task := if linkFirst then [.linkDetect, .allotDetect] else [.allotDetect, .linkDetect]

theorem Goes.detectLone {linkFirst : Bool} {rest : List Task} (htasks : s.tasks = detectTasks linkFirst ++ rest) (h : Lone s) :
    ∃ t, Goes 0 17 s t ∧ Lonely s t rest ∧ Removed s t := by
  cases linkFirst with
  | true =>
    obtain ⟨x, hlink, hx, habsent, hallot, -⟩ := Goes.linkDetectLone (rest := .allotDetect :: rest) htasks h
    obtain ⟨t, hallotted, ht, hsame, hsettings, hbase, hoff, hlockout, hgrant⟩ := Goes.allotDetectLone (rest := rest) hx.tasks hx.lone
    refine ⟨t, hlink.next hallotted, hx.trans ht, ?_, hoff, hlockout, ?_, ht.lone.nothing hbase, fun hne => hgrant ?_⟩
    · rw [hsame habsent]
      exact habsent
    · unfold State.faultEntry
      rw [hsettings]
      exact (withFault_inactive _).1
    · rw [hallot]
      exact hne
  | false =>
    obtain ⟨x, hallotted, hx, -, hsettings, hbase, hoff, hlockout, hgrant⟩ := Goes.allotDetectLone (rest := .linkDetect :: rest) htasks h
    obtain ⟨t, hlink, ht, habsent, hallot, htsettings⟩ := Goes.linkDetectLone (rest := rest) hx.tasks hx.lone
    have hdemand : t.allot.demand.base = 0 := by
      rw [hallot]
      exact hbase
    refine ⟨t, (hallotted.next hlink).mono (by decide), hx.trans ht, habsent, ?_, ?_, ?_, ht.lone.nothing hdemand, fun hne => ?_⟩
    · rw [hallot]
      exact hoff
    · rw [hallot]
      exact hlockout
    · unfold State.faultEntry
      rw [hsettings] at htsettings
      rcases htsettings with hsame | hmoved
      · rw [hsame]
        exact (withFault_inactive _).1
      · rw [hmoved]
        exact (withFault_inactive _).2
    · rw [hallot]
      exact hgrant hne

end Sys2Proof.Machine
end

section
/-! The base gone (R126, R128, R142): DETECT lost outside a release, and the removal that a release waits for. -/

namespace Sys2Proof.Machine

set_option Elab.async false

variable {q : Bool} {L M : BitVec 10} {s t u v w x e : State}

/-! ## The settling of DETECT (R126) -/

/-- DETECT settled, before the attachment state follows (R126; log 10). -/
def State.detecting (s : State) : State :=
  { s with
    attach := { s.attach with detect := s.attach.detect.settle }, choices := s.choices + 1
    tasks := detectTasks (Config.linkTakesDetectFirst s.choices) ++ s.tasks }

theorem detectSettle_eq (s : State) :
    s.detectSettle =
      if s.attach.state.inRelease then (if s.detecting.attach.detect.level then s.detecting else s.detecting.removeBase)
      else s.detecting.setAttach s.detecting.resting (if s.detecting.attach.detect.level then 0 else 5) := by
  have hfirst : (s.updAttach fun u => { u with detect := u.detect.settle }).choices = s.choices := rfl
  unfold State.detectSettle State.nextChoice State.detecting detectTasks
  dsimp only
  rw [hfirst]
  cases Config.linkTakesDetectFirst s.choices <;> rfl

/-! ## After the readers -/

theorem answerActs_considers (d : Dispatcher) (u : ServingUnit) :
    (d.answerActs u).length ≤ 1 ∧ ∀ x ∈ d.answerActs u, x = .considerQueue := by
  unfold Dispatcher.answerActs
  split
  · exact ⟨Nat.le_refl 1, fun x hx => List.mem_singleton.mp hx⟩
  · exact ⟨Nat.zero_le 1, fun x hx => (List.not_mem_nil hx).elim⟩

/-- The hand-ons left after the readers: the answer of a calibration at most. -/
theorem Unseated.left {rest : List Task} (h : Unseated s t rest) :
    ∃ acts, t.tasks = rest ++ acts ∧ acts.length ≤ 1 ∧ ∀ x ∈ acts, x = .considerQueue := by
  rcases h.answers with ⟨-, htasks⟩ | ⟨-, htasks⟩
  · exact ⟨[], by rw [htasks, List.append_nil], Nat.zero_le 1, fun x hx => (List.not_mem_nil hx).elim⟩
  · obtain ⟨hlength, hconsiders⟩ := answerActs_considers s.dispatch .angle
    exact ⟨_, htasks, hlength, hconsiders⟩

theorem minorWeights_considers {acts : List Task} (hacts : ∀ x ∈ acts, x = .considerQueue) (b : Bool) :
    minorWeights b acts = acts.length := by
  induction acts with
  | nil => rfl
  | cons y ys ih =>
    have hrest := ih fun z hz => hacts z (List.mem_cons_of_mem _ hz)
    rw [hacts y List.mem_cons_self]
    show 1 + minorWeights b ys = _
    rw [hrest, List.length_cons, Nat.add_comm]

/-- The two readers of a loss of DETECT, and what then considers an empty post queue. -/
theorem Goes.removed {linkFirst : Bool} {acts : List Task} (htasks : s.tasks = detectTasks linkFirst ++ acts)
    (hacts : ∀ x ∈ acts, x = .considerQueue) (hlength : acts.length ≤ 2) (h : Lone s) :
    ∃ t, Goes 0 19 s t ∧ Lonely s t [] ∧ Removed s t := by
  obtain ⟨t, hgoes, ht, hremoved⟩ := Goes.detectLone htasks h
  obtain ⟨hlink, hoff, hlockout, hsupply, hdemand, hgrant⟩ := hremoved
  have hidle : Goes 0 2 t (t.setTasks []) := by
    refine (Goes.minors (ts := acts) (rest := []) (by rw [ht.tasks, List.append_nil]) (fun y hy => ?_) ht.lone.calm).mono ?_
    · rw [hacts y hy]
      rfl
    · rw [minorWeights_considers hacts]
      exact hlength
  exact ⟨t.setTasks [], hgoes.next hidle, ht.trans (.refl ht.lone []), hlink, hoff, hlockout, hsupply, hdemand, hgrant⟩

/-! ## DETECT lost outside a release (R126, R128) -/

section
variable (s : State) (e : PartTime) (hs : s.betweenEvents) (hqueue : s.dispatch.queue = [])
  (htimer : s.attach.detect.timer = some e) (hinput : s.noInputWaits) (honly : s.coilAndBaseOnly) (hon : s.hostOn = true)
include hs hqueue htimer hinput honly hon

theorem exec_detectLost (hcoil : s.allot.demand.coil = 0) (hrelease : s.attach.state.inRelease = false)
    (hline : s.attach.detect.line = false) (hpresent : s.attach.state ≠ .detached) :
    ∃ t, exec .detectDebounceExpiry s = .next t ∧ t.now = (s.reach e).now ∧
      t.attach.detect = { line := false, level := false, timer := none } ∧ t.attach.state = .detached ∧
      t.link.state = .absent ∧ t.posture.posture = .detached ∧ t.angle.quality = .unavailable ∧
      t.angle.calibration = none ∧ t.sensor.holding = none ∧ t.allot.faultedOff = false ∧ t.allot.lockout = false ∧
      (t.faultEntry .baseSupply).active = false ∧ t.allot.demand.base = 0 ∧
      (s.allot.demand.base = 250 → t.allot.grant.base = 0) := by
  obtain ⟨now, hnow⟩ : ∃ now, now = (s.reach e).now := ⟨_, rfl⟩
  obtain ⟨y, hy⟩ : ∃ y, y = (s.setNow now).detecting := ⟨_, rfl⟩
  have hdetect : y.attach.detect = { line := false, level := false, timer := none } := by
    rw [hy]
    show s.attach.detect.settle = _
    unfold DebouncedLine.settle
    rw [hline]
  have hresting : y.resting = .detached := if_neg (by rw [hdetect]; decide)
  have hsettle : (s.setNow now).detectSettle = y.setAttach .detached 5 := by
    rw [detectSettle_eq, if_neg (by show ¬ s.attach.state.inRelease = true; rw [hrelease]; decide), ← hy, hresting,
      if_neg (by rw [hdetect]; decide)]
  have hbecomes := Becomes.setAttach y .detached 5 (by rw [hy]; exact hpresent.symm)
  rw [← hsettle] at hbecomes
  obtain ⟨x, hx⟩ : ∃ x, x = State.hand { y with attach := { y.attach with state := .detached } } (attachReaders y.attach.state .detached) :=
    ⟨_, rfl⟩
  rw [← hx] at hbecomes
  have hlone : Lone x := by
    rw [hx]
    refine ⟨.of ?_ ?_, ?_, rfl, ?_, ?_, ?_⟩
    · rw [hy]
      exact hqueue
    · unfold State.noInputWaits at hinput ⊢
      rw [hy]
      exact hinput
    · rw [hy]
      exact (hostOn_iff s).mp hon
    · show y.attach.detect.level = false
      rw [hdetect]
    · rw [hy]
      exact hcoil
    · unfold State.coilAndBaseOnly at honly ⊢
      rw [hy]
      exact honly
  obtain ⟨z, hreaders, hz⟩ := Runs.readers (s := x) (before := y.attach.state)
    (rest := detectTasks (Config.linkTakesDetectFirst s.choices)) (by
      rw [hx, hy]
      show _ ++ (_ ++ s.tasks) = _
      rw [hs.1, List.append_nil]
      rfl) hlone
  obtain ⟨acts, hleft, hlength, hacts⟩ := hz.left
  obtain ⟨t, hremoves, ht, hlink, hoff, hlockout, hsupply, hdemand, hgrant⟩ :=
    Goes.removed hleft hacts (hlength.trans (by decide)) hz.lone
  obtain ⟨d, hnext, hlike⟩ := takeEvent_runs (f := fun u => (u.setNow now).detectSettle) hs ⟨_, _, .refl _, hbecomes.frame⟩
    (hreaders.trans hremoves.runs) ht.tasks
  have hexpiry := takeEvent_expiry (x := fun s => s.attach.detect.timer) (g := State.detectSettle) hs htimer
  rw [← hnow] at hexpiry ⊢
  have hframe : t = { x with
      link := t.link, allot := t.allot, settings := t.settings, posture := z.posture
      angle := { x.angle with quality := .unavailable, hasValue := false, holdCount := 0, calibration := none }
      sensor := { x.sensor with holding := none }, dispatch := z.dispatch, tasks := [] } := by
    rw [ht.frame, hz.frame]
  have hbase : z.allot.demand.base = s.allot.demand.base := by
    rw [hz.frame, hx, hy]
    rfl
  obtain ⟨τ, a, -, rfl⟩ := hlike
  refine ⟨_, hexpiry.trans hnext, ?_, ?_, ht.lone.state, hlink, ?_, ?_, ?_, ?_, hoff, hlockout, hsupply, ?_, fun h => hgrant ?_⟩
  · show t.now = now
    rw [hframe, hx, hy]
    rfl
  · show t.attach.detect = _
    rw [hframe, hx]
    exact hdetect
  · show t.posture.posture = _
    rw [hframe]
    exact hz.posture
  · show t.angle.quality = _
    rw [hframe]
  · show t.angle.calibration = _
    rw [hframe]
  · show t.sensor.holding = _
    rw [hframe]
  · show t.allot.demand.base = 0
    rw [hdemand]
  · rw [hbase, h]
    decide

end

end Sys2Proof.Machine
end

section
/-! The removal that a release waits for (R138, R142, R143). -/

namespace Sys2Proof.Machine

set_option Elab.async false

variable {q : Bool} {L M : BitVec 10} {s t u v w x e : State}

/-! ## A request finished among other hand-ons (R13) -/

theorem answeredBy_self {d : Dispatcher} {u : ServingUnit} {n : Fin 32} (h : d.serving[u.index] = some n) :
    (d.answeredBy u).serving[u.index] = none ∧
      (d.answeredBy u).slots[n] = if d.slots[n] = .taken true then .free else .done := by
  unfold Dispatcher.answeredBy
  rw [h]
  exact ⟨Vector.getElem_set_self _, Vector.getElem_set_self _⟩

/-- What a slot shows stands while only the journals' memory is written. -/
theorem Drift.shows (h : Drift false M x e) (hm : MemoryCanonical x) (hdispatch : e.dispatch = x.dispatch) (n : Fin 32) :
    (∀ code detail, x.answered n code detail → e.answered n code detail) ∧ ∀ i, e.resultWord n i = x.resultWord n i := by
  have hread (a k : Nat) (ha : a + k ≤ 0x2800) : e.mem.getLE a k = x.mem.getLE a k :=
    getLE_congr _ _ _ _ fun b _ hb => h.memory hm b (by omega)
  have hplace : slotBase n + 64 ≤ 0x2800 := by
    have := n.isLt
    unfold slotBase
    omega
  refine ⟨fun code detail hanswered => ?_, fun i => hread _ _ (by have := i.isLt; omega)⟩
  unfold State.answered State.slotState State.resultCode State.resultDetail at hanswered ⊢
  rw [hdispatch, hread _ _ (by omega), hread _ _ (by omega)]
  exact hanswered

/-- An event in which a unit's request is finished and other hand-ons follow. -/
theorem takeEvent_finishThen {j k : Nat} {f : State → State} {unit : ServingUnit} {code : ResultCode} {detail : Nat}
    {words : List Word} {rest : List Task} (hs : s.betweenEvents) (hf : Like u (f s)) (hr : Runs j u x)
    (hx : x.tasks = .finish unit code detail words :: rest)
    (hg : Goes M k { x with dispatch := x.dispatch.answeredBy unit, tasks := rest ++ x.dispatch.answerActs unit } t)
    (ht : t.tasks = []) (hk : j + 1 + k ≤ 100 := by decide) :
    ∃ v e, takeEvent s f = .next e ∧ Like t e ∧ Like (x.setTasks rest) v ∧ (MemoryCanonical (f s) → MemoryCanonical v) ∧
      Drift false M (v.finishUnit unit code detail words) e := by
  obtain ⟨i, hi, w, hw, hlike, hm⟩ := hr (f s) hf
  have htasks : w.tasks = .finish unit code detail words :: rest := by
    rw [hlike.frame]
    exact hx
  have hstep : Carried 1 w ((w.setTasks rest).finishUnit unit code detail words) := .front htasks
  obtain ⟨τ, a, hτ, rfl⟩ := hlike
  obtain ⟨v, hv⟩ : ∃ v, v = (State.withNoise { x with sleep := τ } a).setTasks rest := ⟨_, rfl⟩
  rw [← hv] at hstep
  have hfinished : Like { x with dispatch := x.dispatch.answeredBy unit, tasks := rest ++ x.dispatch.answerActs unit }
      (v.finishUnit unit code detail words) := by
    rw [finishUnit_answers, hv]
    exact ⟨τ, _, hτ, rfl⟩
  obtain ⟨l, hl, y, hy, hlike', hdrift⟩ := hg _ hfinished
  have hdone : y.tasks = [] := by
    rw [hlike'.frame]
    exact ht
  have hclose := Becomes.closeBoard (q := false) y s
  have hall := hdrift.trans hclose.drift
  rw [show M ||| (0 : BitVec 10) = M by simp] at hall
  exact ⟨v, y.closeBoard s, takeEvent_carried hs ((hw.trans hstep).trans hy) hdone (by omega),
    hlike'.trans ⟨y.sleep, _, .refl _, hclose.frame⟩, by rw [hv]; exact ⟨τ, a, hτ, rfl⟩, fun h => by rw [hv]; exact hm h, hall⟩

/-! ## The coil's claim withdrawn without a base -/

/-- The allotment unit with the coil's demand withdrawn. -/
def State.uncoiled (s : State) : AllotUnit := { s.allot with demand := { s.allot.demand with coil := 0 } }

theorem Goes.uncoilLone {rest : List Task} (htasks : s.tasks = .coilDemand false :: rest) (h : Lone { s with allot := s.uncoiled }) :
    ∃ t, Goes 0 12 s t ∧ Lonely { s with allot := s.uncoiled } t rest := by
  by_cases hcoil : s.allot.demand.coil = 0
  · have hsame : s.uncoiled = s.allot := by
      unfold State.uncoiled
      rw [← hcoil]
    rw [hsame] at h ⊢
    refine ⟨s.setTasks rest, (Goes.still htasks fun v hv => ?_).mono (by decide), .refl h rest⟩
    exact if_pos (by rw [hv.frame]; exact hcoil)
  · obtain ⟨t, hgoes, ht, -⟩ := Goes.recomputeLone (A := s.uncoiled) (σ := s.settings) htasks h fun v hv => by
      have hstep : doTask (.coilDemand false) v = (v.setDemand fun a => { a with coil := 0 }).recompute :=
        if_neg (by rw [hv.frame]; exact hcoil)
      rw [hstep]
      obtain ⟨τ, a, -, rfl⟩ := hv
      exact Becomes.recompute _
    refine ⟨t, hgoes, ?_, ht.lone⟩
    rw [ht.frame]

/-! ## The removal (R142) -/

/-- The detail of a release that ends with the removal. -/
def State.removalDetail (s : State) : Nat := if s.attach.phase = some .window then 0 else 1

theorem removeBase_eq (s : State) :
    s.removeBase =
      State.hand (State.setAttach (State.hand { s with attach := s.offCoil.cleared }
        (finishTasks s.attach.request .ok s.removalDetail [word s.offCoil.coilTime, s.now])) .detached 4) [.coilDemand false] := by
  have hrequest : s.offCoil.request = s.attach.request := by
    unfold State.offCoil
    split <;> rfl
  unfold State.removeBase State.removalDetail
  rw [coilOff_eq, ← hrequest]
  rfl

/-- The attachment unit with the base removed in a release. -/
def State.removedAttach (s : State) : AttachUnit := { s.offCoil.cleared with state := .detached }

theorem Becomes.removeBase (s : State) (hpresent : s.attach.state ≠ .detached) :
    Becomes false 0 s.removeBase
      { s with attach := s.removedAttach
               tasks := .coilDemand false :: (attachReaders s.attach.state .detached ++
                 (finishTasks s.attach.request .ok s.removalDetail [word s.offCoil.coilTime, s.now] ++ s.tasks)) } := by
  have hstate : s.offCoil.cleared.state = s.attach.state := by
    unfold State.offCoil
    split <;> rfl
  have hset := Becomes.setAttach (State.hand { s with attach := s.offCoil.cleared }
    (finishTasks s.attach.request .ok s.removalDetail [word s.offCoil.coilTime, s.now])) .detached 4 (by
      show .detached ≠ s.offCoil.cleared.state
      rw [hstate]
      exact hpresent.symm)
  rw [removeBase_eq, ← hstate]
  exact hset.unsaid.hand [.coilDemand false]

/-- What a removal leaves of the part, whatever becomes of the request. -/
structure BaseRemoved (s : State) (now : PartTime) (t : State) : Prop where
  now : t.now = now
  attach : t.attach = { s.attach with
    detect := { line := false, level := false, timer := none }, state := .detached, phase := none, request := none
    quiesceTimer := none, senseTimer := none, pulseTimer := none, windowTimer := none, coil := false
    coilTime := s.attach.coilTime + (if s.attach.coil then (t.now - s.attach.coilSince).toNat else 0) }
  link : t.link.state = .absent
  posture : t.posture.posture = .detached
  demand : t.allot.demand = ⟨0, 0, 0, 0⟩

theorem BaseRemoved.like {now : PartTime} (h : BaseRemoved s now t) (hv : Like t v) : BaseRemoved s now v := by
  obtain ⟨τ, a, -, rfl⟩ := hv
  exact ⟨h.now, h.attach, h.link, h.posture, h.demand⟩

/-- The state in which the removal's hand-ons begin. -/
def State.removing (s : State) (now : PartTime) : State :=
  let y := (s.setNow now).detecting
  { y with
    attach := y.removedAttach
    tasks := .coilDemand false :: (attachReaders s.attach.state .detached ++
      (finishTasks s.attach.request .ok s.removalDetail [word y.offCoil.coilTime, now] ++
        detectTasks (Config.linkTakesDetectFirst s.choices))) }

theorem removing_attach (s : State) (now : PartTime) (hline : s.attach.detect.line = false) :
    (s.removing now).attach = { s.attach with
      detect := { line := false, level := false, timer := none }, state := .detached, phase := none, request := none
      quiesceTimer := none, senseTimer := none, pulseTimer := none, windowTimer := none, coil := false
      coilTime := s.attach.coilTime + (if s.attach.coil then (now - s.attach.coilSince).toNat else 0) } := by
  have hdetect : s.attach.detect.settle = { line := false, level := false, timer := none } := by
    unfold DebouncedLine.settle
    rw [hline]
  show ({ AttachUnit.cleared (if s.attach.coil then _ else _) with state := _ } : AttachUnit) = _
  cases hcoil : s.attach.coil with
  | true =>
    show ({ AttachUnit.cleared _ with state := _ } : AttachUnit) = _
    rw [if_pos rfl, if_pos rfl, ← hdetect]
    rfl
  | false =>
    rw [if_neg (by decide), if_neg (by decide), Nat.add_zero, ← hdetect, ← hcoil]
    rfl

section
variable (s : State) (e : PartTime) (hs : s.betweenEvents) (hqueue : s.dispatch.queue = [])
  (htimer : s.attach.detect.timer = some e) (hinput : s.noInputWaits) (honly : s.coilAndBaseOnly) (hon : s.hostOn = true)
include hs hqueue hinput honly hon

theorem removing_begins (hrelease : s.attach.state.inRelease = true) (hline : s.attach.detect.line = false) (now : PartTime) :
    Becomes false 0 ((s.setNow now).detectSettle) (s.removing now) := by
  have hlevel : (s.setNow now).detecting.attach.detect.level = false := hline
  have hpresent : (s.setNow now).detecting.attach.state ≠ .detached := inRelease_seated (s := s) hrelease
  have hremove := Becomes.removeBase (s.setNow now).detecting hpresent
  rw [detectSettle_eq, if_pos (show (s.setNow now).attach.state.inRelease = true from hrelease), if_neg (by rw [hlevel]; decide)]
  unfold State.removing
  dsimp only
  have htasks : (s.setNow now).detecting.tasks = detectTasks (Config.linkTakesDetectFirst s.choices) := by
    show _ ++ s.tasks = _
    rw [hs.1, List.append_nil]
    rfl
  rw [← htasks]
  exact hremove

/-- The removal's hand-ons up to the request's answer. -/
theorem Runs.removing (hline : s.attach.detect.line = false) (now : PartTime) :
    ∃ x acts, Runs 30 (s.removing now) x ∧
      x.tasks = finishTasks s.attach.request .ok s.removalDetail [word (s.removing now).attach.coilTime, now] ++
        (detectTasks (Config.linkTakesDetectFirst s.choices) ++ acts) ∧
      acts.length ≤ 1 ∧ (∀ y ∈ acts, y = .considerQueue) ∧ Lone x ∧ x.now = now ∧ x.attach = (s.removing now).attach ∧
      x.posture.posture = .detached ∧ (x.dispatch = s.dispatch ∨ x.dispatch = s.dispatch.answeredBy .angle) := by
  obtain ⟨u, hu⟩ : ∃ u, u = s.removing now := ⟨_, rfl⟩
  have hattach := removing_attach s now hline
  rw [← hu] at hattach ⊢
  have hlone : Lone { u with allot := u.uncoiled } := by
    unfold State.noInputWaits at hinput
    unfold State.coilAndBaseOnly at honly
    refine ⟨.of ?_ ?_, ?_, ?_, ?_, ?_, ?_⟩
    · rw [hu]
      exact hqueue
    · unfold State.noInputWaits
      rw [hu]
      exact hinput
    · rw [hu]
      exact (hostOn_iff s).mp hon
    · show u.attach.state = _
      rw [hattach]
    · show u.attach.detect.level = _
      rw [hattach]
    · rfl
    · unfold State.coilAndBaseOnly
      rw [hu]
      exact honly
  obtain ⟨z, hcoil, hz⟩ := Goes.uncoilLone (s := u) (rest := attachReaders s.attach.state .detached ++
    (finishTasks s.attach.request .ok s.removalDetail [word u.attach.coilTime, now] ++
      detectTasks (Config.linkTakesDetectFirst s.choices))) (by rw [hu]; rfl) hlone
  obtain ⟨x, hreaders, hx⟩ := Runs.readers hz.tasks hz.lone
  obtain ⟨acts, hleft, hlength, hacts⟩ := hx.left
  have hframe := hx.frame
  rw [hz.frame] at hframe
  refine ⟨x, acts, hcoil.runs.trans hreaders, by rw [hleft, List.append_assoc], hlength, hacts, hx.lone, ?_, ?_, hx.posture, ?_⟩
  · rw [hframe, hu]
    rfl
  · rw [hframe]
  · have hdispatch : z.dispatch = s.dispatch := by
      rw [hz.frame, hu]
      rfl
    rcases hx.answers with ⟨hsame, -⟩ | ⟨hmoved, -⟩
    · exact .inl (hsame.trans hdispatch)
    · exact .inr (by rw [hmoved, hdispatch])

include htimer

theorem exec_removed (hrelease : s.attach.state.inRelease = true) (hline : s.attach.detect.line = false) :
    ∃ t, exec .detectDebounceExpiry s = .next t ∧ BaseRemoved s (s.reach e).now t ∧
      ∀ n, MemoryCanonical s → SlotsConsistent s → s.attach.request = some n → s.servingSlot .base = some n →
        (s.slotState n = .taken false →
          t.answered n .ok (if s.attach.phase = some .window then 0 else 1) ∧
            t.resultWord n 0 = (word t.attach.coilTime).toNat ∧ t.resultWord n 1 = t.now.toNat) ∧
        (s.slotState n = .taken true → t.slotState n = .free) ∧ t.servingSlot .base = none := by
  obtain ⟨now, hnow⟩ : ∃ now, now = (s.reach e).now := ⟨_, rfl⟩
  have hexpiry := takeEvent_expiry (x := fun s => s.attach.detect.timer) (g := State.detectSettle) hs htimer
  rw [← hnow] at hexpiry ⊢
  have hbegins := removing_begins s hs hqueue hinput honly hon hrelease hline now
  have hattach := removing_attach s now hline
  obtain ⟨x, acts, hruns, hleft, hlength, hacts, hlone, hxnow, hxattach, hposture, hdispatch⟩ :=
    Runs.removing s hs hqueue hinput honly hon hline now
  have hdone {y t : State} (hy : y.now = x.now ∧ y.attach = x.attach ∧ y.posture = x.posture) (ht : Lonely y t [])
      (hremoved : Removed y t) : BaseRemoved s now t := by
    obtain ⟨hynow, hyattach, hyposture⟩ := hy
    have htnow : t.now = now := by
      rw [ht.frame]
      exact hynow.trans hxnow
    refine ⟨htnow, ?_, hremoved.link, ?_, hremoved.demand⟩
    · rw [htnow, ← hattach, ← hxattach, ← hyattach, ht.frame]
    · rw [ht.frame]
      show y.posture.posture = _
      rw [hyposture]
      exact hposture
  cases hrequest : s.attach.request with
  | none =>
    rw [hrequest] at hleft
    obtain ⟨t, hgoes, ht, hremoved⟩ := Goes.removed hleft hacts (hlength.trans (by decide)) hlone
    obtain ⟨d, hnext, hlike⟩ := takeEvent_runs (f := fun u => (u.setNow now).detectSettle) hs ⟨_, _, .refl _, hbegins.frame⟩
      (hruns.trans hgoes.runs) ht.tasks
    exact ⟨d, hexpiry.trans hnext, (hdone ⟨rfl, rfl, rfl⟩ ht hremoved).like hlike, fun n _ _ hn => by cases hn⟩
  | some m =>
    rw [hrequest] at hleft
    obtain ⟨y, hy⟩ : ∃ y : State, y = { x with
      dispatch := x.dispatch.answeredBy .base
      tasks := (detectTasks (Config.linkTakesDetectFirst s.choices) ++ acts) ++ x.dispatch.answerActs .base } := ⟨_, rfl⟩
    have hylone : Lone y := by
      rw [hy]
      exact ⟨.of ((answeredBy_queue _ _).trans hlone.calm.queue) hlone.calm.inputs, hlone.host, hlone.state, hlone.level, hlone.coil,
        hlone.only⟩
    have hanswers : ∀ z ∈ acts ++ x.dispatch.answerActs .base, z = .considerQueue := fun z hz => by
      rcases List.mem_append.mp hz with hz | hz
      · exact hacts z hz
      · exact (answerActs_considers _ _).2 z hz
    obtain ⟨t, hgoes, ht, hremoved⟩ := Goes.removed (s := y) (acts := acts ++ x.dispatch.answerActs .base)
      (by rw [hy, List.append_assoc]) hanswers
      (by rw [List.length_append]; exact Nat.add_le_add hlength (answerActs_considers _ _).1) hylone
    have hcanonical (hm : MemoryCanonical s) : MemoryCanonical ((s.setNow now).detectSettle) := hbegins.drift.canonical hm
    have hydispatch : t.dispatch = x.dispatch.answeredBy .base := by
      rw [ht.frame, hy]
    have hybase := hdone (y := y) (by rw [hy]; exact ⟨rfl, rfl, rfl⟩) ht hremoved
    rw [hy] at hgoes
    obtain ⟨v, d, hnext, hlike, hv, hm, hdrift⟩ := takeEvent_finishThen (f := fun u => (u.setNow now).detectSettle) hs
      ⟨_, _, .refl _, hbegins.frame⟩ hruns hleft hgoes ht.tasks
    have hremovedBase := hybase.like hlike
    refine ⟨d, hexpiry.trans hnext, hremovedBase, fun n hcanon hslots hn hserving => ?_⟩
    have hvdispatch : v.dispatch = x.dispatch := by
      rw [hv.frame]
      rfl
    have hddispatch : d.dispatch = x.dispatch.answeredBy .base := by
      rw [hlike.frame]
      exact hydispatch
    obtain ⟨hxserving, hxslot⟩ : x.dispatch.serving[ServingUnit.base.index] = some n ∧ x.dispatch.slots[n] = s.slotState n := by
      rcases hdispatch with hsame | hmoved
      · rw [hsame]
        exact ⟨hserving, rfl⟩
      · rw [hmoved]
        exact answeredBy_other hslots (by decide) hserving
    obtain ⟨hidle, hslot⟩ := answeredBy_self hxserving
    refine ⟨fun htaken => ?_, fun htaken => ?_, ?_⟩
    · have hshows := finishUnit_shows v .base n .ok s.removalDetail [word (s.removing now).attach.coilTime, now]
        (by unfold State.servingSlot; rw [hvdispatch]; exact hxserving)
        (by unfold State.slotState; rw [hvdispatch, hxslot]; exact htaken) (hm (hcanonical hcanon))
        (by unfold State.removalDetail; split <;> decide)
      have hfinished : d.dispatch =
          (v.finishUnit .base .ok s.removalDetail [word (s.removing now).attach.coilTime, now]).dispatch := by
        rw [hddispatch, finishUnit_answers]
        show _ = v.dispatch.answeredBy .base
        rw [hvdispatch]
      obtain ⟨hanswered, hwords⟩ := hdrift.shows
        ((Moves.refl .served v).finishUnit .base .ok s.removalDetail _ |>.keeps.canonical (hm (hcanonical hcanon))) hfinished n
      have hcoilTime : (s.removing now).attach.coilTime = d.attach.coilTime := by
        rw [hremovedBase.attach, hattach, hremovedBase.now]
      refine ⟨hanswered _ _ hshows.answered, ?_, ?_⟩
      · rw [hwords, hshows.shown 0 (by simp), ← hcoilTime]
        rfl
      · rw [hwords, hshows.shown 1 (by simp), hremovedBase.now]
        rfl
    · show d.dispatch.slots[n] = .free
      rw [hddispatch, hslot, if_pos (hxslot.trans htaken)]
    · show d.dispatch.serving[ServingUnit.base.index] = none
      rw [hddispatch, hidle]

end

end Sys2Proof.Machine
end

section
/-! A base arrives (R109, R110, R126, R128, R165 to R167), and the settling of DETECT as a whole. -/

namespace Sys2Proof.Machine

set_option Elab.async false

variable {q : Bool} {L M : BitVec 10} {s t u v w x e : State}

/-! ## The link with a base present -/

/-- A base is present outside a release, the host is ON, and nothing is awaited. -/
structure Present (s : State) : Prop where
  calm : Calm s
  host : s.sleep.host = .on
  level : s.attach.detect.level = true
  release : s.attach.state.inRelease = false
  awaiting : s.allot.awaiting = []

theorem restingState_unreleased (d : Bool) (l : LinkState) : (restingState d l).inRelease = false := by
  cases d <;> cases l <;> rfl

/-- A hand-on that is a change of the link's state. -/
theorem Goes.enterPresent {y : Task} {l : LinkState} {cause : Nat} {m : LinkUnit} {rest : List Task} (htasks : s.tasks = y :: rest)
    (h : Present s) (hm : State.noInputWaits { s with link := m })
    (hy : ∀ v, Like (s.setTasks rest) v → doTask y v = State.enterLink { v with link := m } l cause) :
    ∃ t, Goes 0 9 s t ∧ t = { s with link := t.link, attach := { s.attach with state := restingState true l }, tasks := rest } ∧
      Present t ∧ t.link.state = l ∧ (l.isDown = false → t.link.timer = m.timer) := by
  obtain ⟨x, hx⟩ : ∃ x : State, x = { s.setTasks rest with link := m } := ⟨_, rfl⟩
  have hinputs := enteredLink_still x l (by rw [hx]; exact hm)
  have hstate := enteredLink_state x l
  obtain ⟨n, hn⟩ : ∃ n, n = x.enteredLink l := ⟨_, rfl⟩
  rw [← hn] at hinputs hstate
  have hcalm (ts : List Task) : Calm { s with link := n, tasks := ts } := by
    rw [hx] at hinputs
    exact .of h.calm.queue hinputs
  have hfirst : Goes 0 1 s { s with link := n, tasks := x.enterActs l ++ rest } := .front htasks fun v hv => by
    have hentered := Becomes.enterLink { v with link := m } l cause
    rw [← hy v hv] at hentered
    obtain ⟨τ, a, hτ, rfl⟩ := hv
    refine ⟨τ, hτ, ?_⟩
    rw [hn, hx]
    exact hentered
  have hentered := Goes.entered (s := { s with link := n, tasks := x.enterActs l ++ rest }) (l := l) (x := x) rfl (hcalm _)
    h.awaiting h.release h.level (.inl h.host)
  have hseated : State.seated { s with link := n, tasks := x.enterActs l ++ rest } =
      { s.attach with state := restingState true l } := by
    have := seated_state { s with link := n, tasks := x.enterActs l ++ rest } h.level l hstate
    show ({ s.attach with state := (State.seated { s with link := n, tasks := x.enterActs l ++ rest }).state } : AttachUnit) = _
    rw [this]
  rw [hseated] at hentered
  refine ⟨_, hfirst.next hentered, rfl, ⟨?_, h.host, h.level, restingState_unreleased true l, h.awaiting⟩, hstate, fun hup => ?_⟩
  · exact (hcalm rest).congr rfl ⟨rfl, rfl, rfl, rfl⟩
  · show n.timer = m.timer
    rw [hn, enteredLink_up x l hup, send_frame, hx]

/-- POWERING, with its timer (R110). -/
theorem Goes.enterPowering {y : Task} {rest : List Task} (htasks : s.tasks = y :: rest) (h : Present s)
    (hy : ∀ v, Like (s.setTasks rest) v → doTask y v = v.enterPowering) :
    ∃ t, Goes 0 9 s t ∧ t = { s with link := t.link, attach := { s.attach with state := .seating }, tasks := rest } ∧
      Present t ∧ t.link.state = .powering ∧ t.link.timer = some (.powerUp, s.now + 20) := by
  obtain ⟨t, hgoes, hframe, ht, hstate, htimer⟩ := Goes.enterPresent (l := .powering) (cause := 0)
    (m := { s.link with timer := some (.powerUp, s.after 20) }) htasks h h.calm.inputs fun v hv => by
      rw [hy v hv]
      obtain ⟨τ, a, -, rfl⟩ := hv
      rfl
  exact ⟨t, hgoes, hframe, ht, hstate, htimer rfl⟩

/-! ## The base's claim (R165 to R167) -/

/-- Nothing is claimed and nothing granted, and the base may be claimed. -/
structure Unclaimed (A : AllotUnit) : Prop where
  demand : A.demand = ⟨0, 0, 0, 0⟩
  grant : A.grant = ⟨0, 0, 0, 0⟩
  awaiting : A.awaiting = []
  faultedOff : A.faultedOff = false
  lockout : A.lockout = false
  budget : 250 ≤ A.budget

theorem reviewBase_claims (h : Present s) (hunclaimed : Unclaimed s.allot) (hwithdrawal : s.sleep.withdrawal = false) :
    s.reviewBase = State.recompute { s with allot := { s.allot with demand := ⟨0, 250, 0, 0⟩ } } := by
  unfold State.reviewBase
  rw [h.level, hunclaimed.faultedOff, hunclaimed.lockout, hwithdrawal]
  refine (if_neg ?_).trans ?_
  · rw [hunclaimed.demand]
    decide
  · have hset : (s.setDemand fun a => { a with base := 250 }) =
        { s with allot := { s.allot with demand := { s.allot.demand with base := 250 } } } := rfl
    refine (congrArg State.recompute hset).trans ?_
    rw [hunclaimed.demand]

theorem Present.like (h : Present s) (hv : Like s v) : Present v := by
  have hhost := hv.host
  obtain ⟨τ, a, -, rfl⟩ := id hv
  exact ⟨h.calm.like hv, hhost.trans h.host, h.level, h.release, h.awaiting⟩

theorem Present.setTasks (h : Present s) (ts : List Task) : Present (s.setTasks ts) :=
  ⟨h.calm.congr rfl ⟨rfl, rfl, rfl, rfl⟩, h.host, h.level, h.release, h.awaiting⟩

/-- The base's claim is raised and granted; the link takes the grant next. -/
theorem Goes.claimBase {rest : List Task} (htasks : s.tasks = .allotDetect :: rest) (h : Present s) (hunclaimed : Unclaimed s.allot)
    (hwithdrawal : s.sleep.withdrawal = false) :
    ∃ C : AllotUnit, Goes 0 2 s { s with allot := C, tasks := .linkGrant :: .coilAnswer :: .coilAnswer :: rest } ∧
      C.demand = ⟨0, 250, 0, 0⟩ ∧ C.grant = ⟨0, 250, 0, 0⟩ ∧ C.awaiting = [] := by
  obtain ⟨A, hA⟩ : ∃ A : AllotUnit, A = { s.allot with demand := ⟨0, 250, 0, 0⟩ } := ⟨_, rfl⟩
  obtain ⟨B, hB⟩ : ∃ B, B = State.recomputedAllot { s.setTasks rest with allot := A } := ⟨_, rfl⟩
  have htarget : targets A.budget A.demand = ⟨0, 250, 0, 0⟩ := by
    rw [hA]
    show targets s.allot.budget ⟨0, 250, 0, 0⟩ = _
    rw [targets_baseLight _ 0 hunclaimed.budget, Nat.zero_min]
  have hAgrant : A.grant = ⟨0, 0, 0, 0⟩ := by rw [hA]; exact hunclaimed.grant
  have hBgrant : B.grant = ⟨0, 0, 0, 0⟩ := by
    rw [hB]
    show lowered A.grant (targets A.budget A.demand) = _
    rw [htarget, hAgrant]
    rfl
  have hBincreases : B.increases = ⟨none, some 250, none, none⟩ := by
    rw [hB]
    show increasesOf A.grant (targets A.budget A.demand) = _
    rw [htarget, hAgrant]
    rfl
  have hBawaiting : B.awaiting = [] := by
    rw [hB]
    show awaitingAfter A.awaiting A.grant (targets A.budget A.demand) _ _ = _
    rw [htarget, hAgrant]
    show A.awaiting = []
    rw [hA]
    exact hunclaimed.awaiting
  have hBdemand : B.demand = ⟨0, 250, 0, 0⟩ := by rw [hB, hA]; rfl
  have hclaimed : Goes 0 1 s { s with allot := B, tasks := .settleIncreases :: .coilAnswer :: rest } := .front htasks fun v hv => by
    have hpresent := (h.setTasks rest).like hv
    have hallot : v.allot = s.allot := by
      rw [hv.frame]
      rfl
    have hstep : doTask .allotDetect v = State.recompute { v with allot := A } := by
      refine (if_pos hpresent.level).trans ((reviewBase_claims hpresent (by rwa [hallot]) ?_).trans ?_)
      · rw [hv.sleep]
        exact hwithdrawal
      · rw [hallot, hA]
    have hrecomputed := Becomes.recompute (q := false) { v with allot := A }
    rw [← hstep] at hrecomputed
    obtain ⟨τ, a, hτ, rfl⟩ := hv
    have htasks : grantTasks A.grant B.grant = [] := by rw [hAgrant, hBgrant]; rfl
    refine ⟨τ, hτ, ?_⟩
    have hacts : (grantTasks A.grant B.grant ++ [.settleIncreases, .coilAnswer]) ++ rest = .settleIncreases :: .coilAnswer :: rest := by
      rw [htasks]
      rfl
    rw [← hacts, hB]
    exact hrecomputed
  obtain ⟨C, hC⟩ : ∃ C, C = State.granted { s with allot := B, tasks := .coilAnswer :: rest } ⟨0, 250, 0, 0⟩ noIncreases := ⟨_, rfl⟩
  have hsettled : Goes 0 1 { s with allot := B, tasks := .settleIncreases :: .coilAnswer :: rest }
      { s with allot := C, tasks := .linkGrant :: .coilAnswer :: .coilAnswer :: rest } := .front rfl fun v hv => by
    have hallot : v.allot = B := by rw [hv.frame]; rfl
    have hraised : raised v.allot.grant v.allot.increases = ⟨0, 250, 0, 0⟩ := by
      rw [hallot, hBgrant, hBincreases]
      rfl
    have hsettles := Becomes.settleIncreases (q := false) v (by rw [hallot]; exact hBawaiting)
    unfold State.settled at hsettles
    rw [hraised, hallot, hBgrant] at hsettles
    obtain ⟨τ, a, hτ, rfl⟩ := hv
    refine ⟨τ, hτ, ?_⟩
    rw [hC]
    exact hsettles
  exact ⟨C, hclaimed.next hsettled, by rw [hC]; exact hBdemand, by rw [hC]; rfl, by rw [hC]; exact hBawaiting⟩

theorem Goes.answerUndemanded {rest : List Task} (htasks : s.tasks = .coilAnswer :: .coilAnswer :: rest)
    (hcoil : s.allot.demand.coil = 0) : Goes 0 2 s (s.setTasks rest) := by
  have hstill (x : State) (hx : x.allot = s.allot) (ts : List Task) (hts : x.tasks = .coilAnswer :: ts) : Goes 0 1 x (x.setTasks ts) :=
    .still hts fun v hv => coilAnswer_undemanded v (by
      rw [hv.frame]
      show x.allot.demand.coil ≠ 1200
      rw [hx, hcoil]
      decide)
  exact (hstill s rfl _ htasks).next (hstill (s.setTasks (.coilAnswer :: rest)) rfl rest rfl)

/-! ## The two units in either order (log 10) -/

/-- A base powered for the first time. -/
structure Seated (s t : State) (rest : List Task) : Prop where
  tasks : t.tasks = rest
  now : t.now = s.now
  attach : t.attach = { s.attach with state := .seating }
  state : t.link.state = .powering
  timer : t.link.timer = some (.powerUp, s.now + 20)
  demand : t.allot.demand = ⟨0, 250, 0, 0⟩
  grant : t.allot.grant = ⟨0, 250, 0, 0⟩

section
variable {rest : List Task} (h : Present s) (hunclaimed : Unclaimed s.allot) (hwithdrawal : s.sleep.withdrawal = false)
  (habsent : s.link.state = .absent)
include h hunclaimed hwithdrawal habsent

theorem Goes.seatedLinkFirst (htasks : s.tasks = .linkDetect :: .allotDetect :: rest) :
    ∃ t, Goes 0 24 s t ∧ Seated s t rest := by
  obtain ⟨x, hwaits, hx, hxpresent, hxstate, -⟩ := Goes.enterPresent (l := .unpowered) (cause := 0) (m := s.link) htasks h
    h.calm.inputs fun v hv => by
      have hpresent := (h.setTasks _).like hv
      obtain ⟨τ, a, -, rfl⟩ := hv
      refine (if_pos hpresent.level).trans ((if_pos habsent).trans (if_neg ?_))
      show ¬ 0 < s.allot.grant.base
      rw [hunclaimed.grant]
      decide
  obtain ⟨C, hclaims, hdemand, hgrant, hawaiting⟩ := Goes.claimBase (s := x) (rest := rest) (by rw [hx]) hxpresent
    (by rw [hx]; exact hunclaimed) (by rw [hx]; exact hwithdrawal)
  obtain ⟨t, hpowers, ht, -, hstate, htimer⟩ := Goes.enterPowering
    (s := { x with allot := C, tasks := .linkGrant :: .coilAnswer :: .coilAnswer :: rest }) rfl
    ⟨hxpresent.calm.congr rfl ⟨rfl, rfl, rfl, rfl⟩, hxpresent.host, hxpresent.level, hxpresent.release, hawaiting⟩ fun v hv => by
      obtain ⟨τ, a, -, rfl⟩ := hv
      refine (if_pos ?_).trans (if_pos hxstate)
      show 0 < C.grant.base
      rw [hgrant]
      decide
  have hallot : t.allot = C := by rw [ht]
  have hanswers := Goes.answerUndemanded (s := t) (rest := rest) (by rw [ht]) (by rw [hallot, hdemand])
  refine ⟨t.setTasks rest, ((hwaits.next hclaims).next hpowers).next hanswers |>.mono (by decide), rfl, ?_, ?_, hstate, ?_, ?_, ?_⟩
  · show t.now = s.now
    rw [ht, hx]
  · show t.attach = _
    rw [ht, hx]
  · show t.link.timer = _
    rw [htimer, hx]
  · show t.allot.demand = _
    rw [hallot, hdemand]
  · show t.allot.grant = _
    rw [hallot, hgrant]

theorem Goes.seatedAllotFirst (htasks : s.tasks = .allotDetect :: .linkDetect :: rest) :
    ∃ t, Goes 0 24 s t ∧ Seated s t rest := by
  obtain ⟨C, hclaims, hdemand, hgrant, hawaiting⟩ := Goes.claimBase htasks h hunclaimed hwithdrawal
  obtain ⟨x, hx⟩ : ∃ x : State, x = { s with allot := C, tasks := .coilAnswer :: .coilAnswer :: .linkDetect :: rest } := ⟨_, rfl⟩
  have hpowered : 0 < C.grant.base := by
    rw [hgrant]
    decide
  have hgrants : Goes 0 1 { s with allot := C, tasks := .linkGrant :: .coilAnswer :: .coilAnswer :: .linkDetect :: rest } x := by
    rw [hx]
    refine .still rfl fun v hv => ?_
    obtain ⟨τ, a, -, rfl⟩ := hv
    refine (if_pos hpowered).trans (if_neg ?_)
    show ¬ s.link.state = .unpowered
    rw [habsent]
    decide
  have hanswers := Goes.answerUndemanded (s := x) (rest := .linkDetect :: rest) (by rw [hx]) (by rw [hx]; show C.demand.coil = 0; rw [hdemand])
  obtain ⟨t, hpowers, ht, -, hstate, htimer⟩ := Goes.enterPowering (s := x.setTasks (.linkDetect :: rest)) (rest := rest) rfl
    (by rw [hx]; exact ⟨h.calm.congr rfl ⟨rfl, rfl, rfl, rfl⟩, h.host, h.level, h.release, hawaiting⟩) fun v hv => by
      rw [hx] at hv
      obtain ⟨τ, a, -, rfl⟩ := hv
      exact (if_pos h.level).trans ((if_pos habsent).trans (if_pos hpowered))
  refine ⟨t, ((hclaims.next hgrants).next hanswers).next hpowers |>.mono (by decide), ?_, ?_, ?_, hstate, ?_, ?_, ?_⟩
  · rw [ht]
  · rw [ht, hx]
    rfl
  · rw [ht, hx]
    rfl
  · rw [htimer, hx]
    rfl
  · rw [ht, hx]
    exact hdemand
  · rw [ht, hx]
    exact hgrant

theorem Goes.seated {linkFirst : Bool} (htasks : s.tasks = detectTasks linkFirst ++ rest) : ∃ t, Goes 0 24 s t ∧ Seated s t rest := by
  cases linkFirst with
  | true => exact Goes.seatedLinkFirst h hunclaimed hwithdrawal habsent htasks
  | false => exact Goes.seatedAllotFirst h hunclaimed hwithdrawal habsent htasks

end

/-! ## DETECT found (R126, R128) -/

theorem exec_detectFound (s : State) (e : PartTime) (hs : s.betweenEvents) (hqueue : s.dispatch.queue = [])
    (htimer : s.attach.detect.timer = some e) (hinput : s.noInputWaits) (honly : s.coilAndBaseOnly) (hon : s.hostOn = true)
    (hcoil : s.allot.demand.coil = 0) (hline : s.attach.detect.line = true) (hdetached : s.attach.state = .detached)
    (habsent : s.link.state = .absent) (hbase : s.allot.demand.base = 0) (hgrant : s.allot.grant = ⟨0, 0, 0, 0⟩)
    (hoff : s.allot.faultedOff = false) (hlockout : s.allot.lockout = false) (hwithdrawal : s.sleep.withdrawal = false)
    (hbudget : 250 ≤ s.allot.budget) :
    ∃ t, exec .detectDebounceExpiry s = .next t ∧ t.now = (s.reach e).now ∧
      t.attach.detect = { line := true, level := true, timer := none } ∧ t.attach.state = .seating ∧
      t.link.state = .powering ∧ t.link.timer = some (.powerUp, t.now + 20) ∧ t.allot.demand.base = 250 ∧
      t.allot.grant = ⟨0, 250, 0, 0⟩ := by
  obtain ⟨now, hnow⟩ : ∃ now, now = (s.reach e).now := ⟨_, rfl⟩
  have hexpiry := takeEvent_expiry (x := fun s => s.attach.detect.timer) (g := State.detectSettle) hs htimer
  rw [← hnow] at hexpiry ⊢
  obtain ⟨y, hy⟩ : ∃ y, y = (s.setNow now).detecting := ⟨_, rfl⟩
  have hdetect : y.attach.detect = { line := true, level := true, timer := none } := by
    rw [hy]
    show s.attach.detect.settle = _
    unfold DebouncedLine.settle
    rw [hline]
  have hresting : y.resting = .seating := by
    unfold State.resting
    rw [hdetect, hy]
    show restingState true s.link.state = _
    rw [habsent]
    rfl
  have hsettle : (s.setNow now).detectSettle = y.setAttach .seating 0 := by
    rw [detectSettle_eq, if_neg (by show ¬ s.attach.state.inRelease = true; rw [hdetached]; decide), ← hy, hresting,
      if_pos (by rw [hdetect])]
  have hstate : y.attach.state = .detached := by rw [hy]; exact hdetached
  have hbecomes := Becomes.setAttach y .seating 0 (by rw [hstate]; decide)
  rw [← hsettle, hstate] at hbecomes
  obtain ⟨z, hz⟩ : ∃ z : State, z = { y with attach := { y.attach with state := .seating } } := ⟨_, rfl⟩
  have hbegins : Becomes false 0 (s.setNow now).detectSettle (z.setTasks ([.linkAttach, .sleepAttach .detached .seating] ++ y.tasks)) := by
    rw [hz]
    exact hbecomes.unsaid
  have htasks : y.tasks = detectTasks (Config.linkTakesDetectFirst s.choices) := by
    rw [hy]
    show _ ++ s.tasks = _
    rw [hs.1, List.append_nil]
    rfl
  have hdemand : s.allot.demand = ⟨0, 0, 0, 0⟩ := by
    obtain ⟨hpen, hbacklight, -⟩ := honly
    show Allotments.mk s.allot.demand.coil s.allot.demand.base s.allot.demand.pen s.allot.demand.backlight = _
    rw [hcoil, hbase, hpen, hbacklight]
  have hawaiting : s.allot.awaiting = [] := honly.2.2.2.2
  have hpresent : Present z := by
    refine ⟨.of ?_ ?_, ?_, ?_, ?_, ?_⟩
    · rw [hz, hy]
      exact hqueue
    · unfold State.noInputWaits at hinput ⊢
      rw [hz, hy]
      exact hinput
    · rw [hz, hy]
      exact (hostOn_iff s).mp hon
    · rw [hz]
      show y.attach.detect.level = true
      rw [hdetect]
    · rw [hz]
      rfl
    · rw [hz, hy]
      exact hawaiting
  have hminors : Goes 0 5 (z.setTasks ([.linkAttach, .sleepAttach .detached .seating] ++ y.tasks)) (z.setTasks y.tasks) := by
    refine (Goes.minors (s := z.setTasks ([.linkAttach, .sleepAttach .detached .seating] ++ y.tasks)) rfl (fun x hx => ?_)
      (hpresent.setTasks _).calm).mono ?_
    · show x.minor (z.sleep.host == .on) = true
      rw [hpresent.host]
      simp only [List.mem_cons, List.not_mem_nil, or_false] at hx
      rcases hx with rfl | rfl <;> rfl
    · show minorWeights (z.sleep.host == .on) _ ≤ 5
      rw [hpresent.host]
      decide
  obtain ⟨t, hseats, ht⟩ := Goes.seated (s := z.setTasks y.tasks) (rest := []) (hpresent.setTasks _)
    (by rw [hz, hy]; exact ⟨hdemand, hgrant, hawaiting, hoff, hlockout, hbudget⟩) (by rw [hz, hy]; exact hwithdrawal)
    (by rw [hz, hy]; exact habsent) (by rw [List.append_nil]; exact htasks)
  obtain ⟨d, hnext, hlike, -⟩ := takeEvent_goesFrom (f := fun u => (u.setNow now).detectSettle) hs
    ⟨_, _, .refl _, hbegins.frame⟩ (hminors.next hseats) ht.tasks
  have hznow : z.now = now := by
    rw [hz, hy]
    rfl
  have htnow : t.now = now := ht.now.trans hznow
  obtain ⟨τ, a, -, rfl⟩ := hlike
  refine ⟨_, hexpiry.trans hnext, htnow, ?_, ?_, ht.state, ?_, ?_, ht.grant⟩
  · show t.attach.detect = _
    rw [ht.attach, hz]
    exact hdetect
  · show t.attach.state = _
    rw [ht.attach]
  · show t.link.timer = some (_, t.now + 20)
    rw [ht.timer, htnow, ← hznow]
    rfl
  · show t.allot.demand.base = 250
    rw [ht.demand]

/-- Settles O44: a base that arrives, one lost outside a release, and one removed in a release. -/
theorem detectSettles : Obligations.DetectSettles := by
  unfold Obligations.DetectSettles
  intro s e hs hqueue htimer hinput honly hon
  refine ⟨fun hcoil hline hdetached habsent hbase hgrant _ hoff hlockout hwithdrawal hbudget =>
      exec_detectFound s e hs hqueue htimer hinput honly hon hcoil hline hdetached habsent hbase hgrant hoff hlockout hwithdrawal hbudget,
    fun hcoil hrelease hline hpresent => exec_detectLost s e hs hqueue htimer hinput honly hon hcoil hrelease hline hpresent,
    fun hrelease hline => ?_⟩
  obtain ⟨t, hnext, hremoved, hrequest⟩ := exec_removed s e hs hqueue htimer hinput honly hon hrelease hline
  exact ⟨t, hnext, hremoved.now, hremoved.attach, hremoved.link, hremoved.posture, hremoved.demand, hrequest⟩

end Sys2Proof.Machine
end
